-- ==== Sys2Proof/Word.lean ====
section
/-! DEFINITION. The plainest types of the model: a byte, the names of zones, stages, loop addresses and
metrics, and banks of like things (eight zones, four stages). No rule of the spec is decided here. -/

namespace Sys2Proof

/-- One byte on a link or on the monitor loop (R156, R175). -/
abbrev Byte := BitVec 8

/-- A zone Z0..Z7. -/
abbrev ZoneId := Fin 8

/-- A stage S0..S3. -/
abbrev StageId := Fin 4

/-- A unit slot of the monitor loop, counted from 0: slot `a` stands at loop address `a + 1` (R37). -/
abbrev SlotId := Fin 8

/-- The two metrics of a zone account. -/
inductive Metric where
  | broad
  | low
deriving DecidableEq, Repr

/-- One value for each metric. -/
structure Pair (α : Type) where
  broad : α
  low : α
deriving DecidableEq, Repr

namespace Pair
variable {α β γ : Type}

def get (p : Pair α) : Metric → α
  | .broad => p.broad
  | .low => p.low

def both (x : α) : Pair α := ⟨x, x⟩

def map (f : α → β) (p : Pair α) : Pair β := ⟨f p.broad, f p.low⟩

def zip (f : α → β → γ) (p : Pair α) (q : Pair β) : Pair γ := ⟨f p.broad q.broad, f p.low q.low⟩

end Pair

/-- Eight like things, one for each zone or each loop address. -/
structure Bank8 (α : Type) where
  i0 : α
  i1 : α
  i2 : α
  i3 : α
  i4 : α
  i5 : α
  i6 : α
  i7 : α
deriving DecidableEq, Repr, Inhabited

namespace Bank8
variable {α β : Type}

def fill (x : α) : Bank8 α := ⟨x, x, x, x, x, x, x, x⟩

def get (b : Bank8 α) : Fin 8 → α
  | 0 => b.i0
  | 1 => b.i1
  | 2 => b.i2
  | 3 => b.i3
  | 4 => b.i4
  | 5 => b.i5
  | 6 => b.i6
  | 7 => b.i7

def set (b : Bank8 α) (i : Fin 8) (x : α) : Bank8 α :=
  match i with
  | 0 => { b with i0 := x }
  | 1 => { b with i1 := x }
  | 2 => { b with i2 := x }
  | 3 => { b with i3 := x }
  | 4 => { b with i4 := x }
  | 5 => { b with i5 := x }
  | 6 => { b with i6 := x }
  | 7 => { b with i7 := x }

def modify (b : Bank8 α) (i : Fin 8) (f : α → α) : Bank8 α := b.set i (f (b.get i))

def map (f : α → β) (b : Bank8 α) : Bank8 β :=
  ⟨f b.i0, f b.i1, f b.i2, f b.i3, f b.i4, f b.i5, f b.i6, f b.i7⟩

def ofFn (f : Fin 8 → α) : Bank8 α := ⟨f 0, f 1, f 2, f 3, f 4, f 5, f 6, f 7⟩

def toList (b : Bank8 α) : List α := [b.i0, b.i1, b.i2, b.i3, b.i4, b.i5, b.i6, b.i7]

end Bank8

/-- Four like things, one for each stage. -/
structure Bank4 (α : Type) where
  i0 : α
  i1 : α
  i2 : α
  i3 : α
deriving DecidableEq, Repr, Inhabited

namespace Bank4
variable {α β : Type}

def fill (x : α) : Bank4 α := ⟨x, x, x, x⟩

def get (b : Bank4 α) : Fin 4 → α
  | 0 => b.i0
  | 1 => b.i1
  | 2 => b.i2
  | 3 => b.i3

def set (b : Bank4 α) (i : Fin 4) (x : α) : Bank4 α :=
  match i with
  | 0 => { b with i0 := x }
  | 1 => { b with i1 := x }
  | 2 => { b with i2 := x }
  | 3 => { b with i3 := x }

def modify (b : Bank4 α) (i : Fin 4) (f : α → α) : Bank4 α := b.set i (f (b.get i))

def map (f : α → β) (b : Bank4 α) : Bank4 β := ⟨f b.i0, f b.i1, f b.i2, f b.i3⟩

def ofFn (f : Fin 4 → α) : Bank4 α := ⟨f 0, f 1, f 2, f 3⟩

def toList (b : Bank4 α) : List α := [b.i0, b.i1, b.i2, b.i3]

end Bank4

/-- Z0 to Z7 in order. -/
def allZones : List ZoneId := [0, 1, 2, 3, 4, 5, 6, 7]

/-- S0 to S3 in order. -/
def allStages : List StageId := [0, 1, 2, 3]

/-- Slots in increasing address order. -/
def allSlots : List SlotId := [0, 1, 2, 3, 4, 5, 6, 7]

/-- The zone a request's byte names, where there is one. -/
def zoneOf (n : Nat) : Option ZoneId := if h : n < 8 then some ⟨n, h⟩ else none

/-- The stage a request's byte names, where there is one. -/
def stageOf (n : Nat) : Option StageId := if h : n < 4 then some ⟨n, h⟩ else none

end Sys2Proof
end

