-- ==== Sys2Proof/Syntax.lean ====
section
/-! DEFINITION. The commands of the 8Z4S: one constructor of `Instr` for each row of
spec/opcode_table.json, and the request messages the five links carry (R170, R176, R185). -/

namespace Sys2Proof

/-- The five links: DL0..DL3 and OL. -/
inductive LinkId where
  | desk (n : StageId)
  | officer
deriving DecidableEq, Repr

/-- A character on a link's line behind its start bit (R156): the 8 data bits, the parity bit and the stop bit as
they came. Machine/Line.lean has its bits and the two line errors. -/
structure LineByte where
  byte : Byte
  parity : Bool
  stop : Bool
deriving DecidableEq, Repr

/-- A measurement record as a unit sends it (R48, R175): the tag of the second measured, the raw levels
in tenths of a decibel and the three flags. -/
structure MeasurementRecord where
  tag : Nat
  broadRaw : Nat
  lowRaw : Nat
  overload : Bool
  wind : Bool
  cal : Bool
deriving DecidableEq, Repr

/-- An audio frame: eight channels of one signed 24-bit sample each (R127). -/
abbrev Frame := Bank8 Int

/-- The fields of SET DESK (R180). `spareBits` says that the presence byte had a bit set beyond the
fields. A priority of FFh is the request's "leave as it is". -/
structure SetDeskFields where
  trim : Option Nat
  lead : Option Nat
  enables : Option Byte
  priorities : Option (List Nat)
  spareBits : Bool
deriving DecidableEq, Repr

/-- The fields of SET ZONE (R56, R191). A field is absent where its presence bit is clear and where its
byte or half holds the keep value. -/
structure SetZoneFields where
  window : Option Nat
  guardBand : Option Nat
  fastMargin : Option Nat
  releaseMargin : Option Nat
  hysteresis : Option Nat
  warnMargin : Option Nat
  fastStep : Option Nat
  attackCap : Option Nat
  settlePeriod : Option Nat
  releaseInterval : Option Nat
  fallbackBroad : Option Nat
  fallbackLow : Option Nat
deriving DecidableEq, Repr

/-- The fields of INSERT SEGMENT after the zone (R26, R185). -/
structure InsertFields where
  start : Nat
  kind : Nat
  broad : Nat
  low : Nat
  encoreBroad : Option Nat
  encoreLow : Option Nat
  spareBits : Bool
deriving DecidableEq, Repr

/-- The fields of EDIT SEGMENT after the zone (R27, R185). -/
structure EditFields where
  start : Nat
  kind : Option Nat
  broad : Option Nat
  low : Option Nat
  encoreBroad : Option Nat
  encoreLow : Option Nat
  spareBits : Bool
deriving DecidableEq, Repr

/-- The fields of SET STAGE (R87). -/
structure SetStageFields where
  failsafe : Option Nat
  changeMode : Option Nat
  attack : Option Nat
  releaseStep : Option Nat
  fadeStep : Option Nat
  resumeStep : Option Nat
  lead : Option Nat
  trim : Option Nat
deriving DecidableEq, Repr

/-- The fields of SET PATH (R141). -/
structure SetPathFields where
  delay : Option Nat
  muteMask : Option Byte
  followStrobe : Option Nat
  spareBits : Bool
deriving DecidableEq, Repr

/-- The fields of SET NOTICES after the link (R194). -/
structure SetNoticesFields where
  enables : Option (BitVec 16)
  priorities : Option (List Nat)
  spareBits : Bool
deriving DecidableEq, Repr

/-- A request as a link interface holds it in its pending place or hands it to a block (R160, R161).
The first two are the requests that are answered UNKNOWN_KIND and FORBIDDEN. -/
inductive Request where
  | unknownKind (kind : Byte)
  | forbidden (kind : Byte)
  | stageStatus
  | zoneView
  | setDesk (f : SetDeskFields)
  | encore (minutes : Nat)
  | encoreEnd
  | readNotices
  | ackNotices (mask : BitVec 16)
  | setZone (zone : Nat) (f : SetZoneFields)
  | enableZone (zone : Nat)
  | disableZone (zone : Nat)
  | readZone (zone : Nat)
  | insertSegment (zone : Nat) (f : InsertFields)
  | editSegment (zone : Nat) (f : EditFields)
  | deleteSegment (zone start : Nat)
  | readSchedule (zone : Nat)
  | setCoupling (stage zone value : Nat)
  | setStage (stage : Nat) (f : SetStageFields)
  | assignMonitor (address zone : Nat)
  | unassignMonitor (address : Nat)
  | readMonitor (address : Nat)
  | setTime (time : Nat)
  | selectSource (source : Nat)
  | armShow
  | endShow
  | setPool (minutes : Nat)
  | muteNow (stage : Nat)
  | fade (stage : Nat)
  | release (stage : Nat)
  | enablePath (stage : Nat)
  | disablePath (stage : Nat)
  | alignPath (stage : Nat)
  | setPath (stage : Nat) (f : SetPathFields)
  | clearAlarms (stage : Nat) (mask : Byte)
  | readRecords (start count : Nat)
  | clearClosed
  | setNotices (link : Nat) (f : SetNoticesFields)
  | restart
deriving DecidableEq, Repr

/-- The commands: one constructor for each row of spec/opcode_table.json.

The events come first. A timer's event (EXPECTED_POINT, WINDOW_CLOSE, LOCK_LOSS and the EXPIRY rows) is
the arrival of that timer's due moment. `ppsPulse` carries the moment of its edge, in microseconds since
power-on. `latnAsserted` carries the level the units hold the line at. The receive rows of a link carry
the bytes that reached the interface since its last receive row. Then come the requests: each is a sound
request of its kind reaching its link's interface (R161). -/
inductive Instr where
  | powerOn
  | expectedPoint
  | ppsPulse (moment : Nat)
  | windowClose
  | lockLoss
  | latnAsserted (level : Bool)
  | markSent
  | loopResetDone
  | identifyReply (kindCode serial : Nat)
  | statusReply (count : Nat) (health : Byte)
  | fetchReply (record : Option MeasurementRecord)
  | replyTimeout
  | replyBreak
  | loopStall
  | reseekExpiry (slot : SlotId)
  | settleExpiry (zone : ZoneId)
  | rampExpiry (stage : StageId)
  | frameArrival (stage : StageId) (frame : Frame) (strobe : Bool)
  | outputFrameEvent
  | noSignalExpiry (stage : StageId)
  | messageEnd (link : LinkId) (bytes : List LineByte)
  | badLength (link : LinkId) (bytes : List LineByte)
  | interByteGap (link : LinkId) (bytes : List LineByte)
  | lengthErrorIdle (link : LinkId) (bytes : List LineByte)
  | breakLine (link : LinkId) (bytes : List LineByte)
  | messageSent (link : LinkId)
  | unknownKind (link : LinkId) (kind : Byte)
  | forbidden (link : LinkId) (kind : Byte)
  | stageStatus (desk : StageId)
  | zoneView (desk : StageId)
  | setDesk (desk : StageId) (f : SetDeskFields)
  | encore (desk : StageId) (minutes : Nat)
  | encoreEnd (desk : StageId)
  | readNotices (link : LinkId)
  | ackNotices (link : LinkId) (mask : BitVec 16)
  | setZone (zone : Nat) (f : SetZoneFields)
  | enableZone (zone : Nat)
  | disableZone (zone : Nat)
  | readZone (zone : Nat)
  | insertSegment (zone : Nat) (f : InsertFields)
  | editSegment (zone : Nat) (f : EditFields)
  | deleteSegment (zone start : Nat)
  | readSchedule (zone : Nat)
  | setCoupling (stage zone value : Nat)
  | setStage (stage : Nat) (f : SetStageFields)
  | assignMonitor (address zone : Nat)
  | unassignMonitor (address : Nat)
  | readMonitor (address : Nat)
  | setTime (time : Nat)
  | selectSource (source : Nat)
  | armShow
  | endShow
  | setPool (minutes : Nat)
  | muteNow (stage : Nat)
  | fade (stage : Nat)
  | release (stage : Nat)
  | enablePath (stage : Nat)
  | disablePath (stage : Nat)
  | alignPath (stage : Nat)
  | setPath (stage : Nat) (f : SetPathFields)
  | clearAlarms (stage : Nat) (mask : Byte)
  | readRecords (start count : Nat)
  | clearClosed
  | setNotices (link : Nat) (f : SetNoticesFields)
  | restart
  | completeReplyFailed (frame : List Byte)
deriving DecidableEq, Repr

end Sys2Proof
end

