-- ==== Sys2Proof/Decode.lean ====
section
/-! DEFINITION. The table gives no row any bits: every row's "fields" are empty and none has "fixed"
bits, since a command of the 8Z4S is an event or a message and not a word. So no word spells a
command. The messages of the links are decoded in Machine/Operands.lean. -/

namespace Sys2Proof

/-- The command a word of the opcode table spells: none, for every row. -/
def decodeTableWord (_nbits _w : Nat) : Option Instr := none

end Sys2Proof
end

