-- ==== Sys2Proof/Config.lean ====
section
/-! DEFINITION. The numbers the spec fixes for the part. Moments and intervals are counted in microseconds
(DESIGN CHOICE, log entry 2). One value the spec leaves unstated is free here (`minutesByte`, log entry 39); where the
spec leaves an order open, the order is free (log entry 5): `Config.openOrder`, declared with the state it is a
function of in Machine/Ops.lean. -/

namespace Sys2Proof.Config

/-- One second of the time base. -/
def second : Nat := 1000000

/-- One millisecond. -/
def millisecond : Nat := 1000

/-- Half the width of the acceptance window, 1 ms (R20). -/
def window : Nat := 1000

/-- From here after the last mark a stray pulse shortens the second, before it lengthens it (R21, R22). -/
def realign : Nat := 500000

/-- Loss of lock, counted from the first empty window's expected point (R23). -/
def lossDelay : Nat := 1500000

/-- How long a pulse counts as present (R19). -/
def pulsePresence : Nat := 2000000

/-- The re-seek timer (R41). -/
def reseek : Nat := 10000000

/-- The no-signal timer (R135). -/
def noSignal : Nat := 1000

/-- Bounds of the accounting range of levels (R1). -/
def minLevel : Nat := 400
def maxLevel : Nat := 1300

/-- The deepest attenuation (R10). -/
def maxSteps : Nat := 96

/-- Capacities: energies in a second ring (R70), slots in a minute ring (R71), frames in a path buffer
(R128), exceedance records (R144), segments in a schedule (R25). -/
def secondRing : Nat := 10
def minuteRing : Nat := 15
def pathBuffer : Nat := 32
def recordList : Nat := 48
def segmentList : Nat := 8

/-- Bounds of the encore pool and of a stage total, in minutes (R113, R118). -/
def maxPool : Nat := 30
def maxTotal : Nat := 15

/-- The encore windows, in seconds and marks, and the bound of an extension (R119, R120). -/
def bookWindow : Nat := 300
def lateWindow : Nat := 120
def maxSecondsLeft : Nat := 32767

/-- The byte in which a reply carries a number of minutes above 255: a FREE VALUE, since the spec gives the number one
byte and states no byte for it (log entry 39). -/
opaque minutesByte : Nat → BitVec 8

/-- The kind code of a boundary monitor unit (R175). -/
def monitorKind : Nat := 0x31

end Sys2Proof.Config
end

