-- ==== Sys2Proof/Machine/State.lean ====
section
/-! DEFINITION. All the state the spec gives the 8Z4S, block by block, as plain data, the values of every
item at power-on (`State.reset`), and the reasons a step could stop for. Moments are microseconds since
power-on. -/

namespace Sys2Proof.Machine

/-! ## Time base (R14) -/

inductive LockState where
  | unset
  | free
  | locked
deriving DecidableEq, Repr

inductive Source where
  | internal
  | pps
deriving DecidableEq, Repr

/-- The causes recorded as the last event (R24). -/
inductive TimeEvent where
  | set
  | locked
  | short
  | long
  | lost
  | source
deriving DecidableEq, Repr

/-- R14's items. `lastMark` is the moment of the last mark, which R21 and R22 measure from (at power-on, the
moment of power-on: DEDUCED, log entry 7). `firstEmpty` is the expected point of the first window that
closed empty since the last pulse, which R23 measures from (log entry 8). -/
structure TimeBase where
  state : LockState
  source : Source
  tag : Nat
  timeOfDay : Nat
  expected : Nat
  lockCount : Nat
  lastPulse : Option Nat
  lastEvent : Option TimeEvent
  lastMark : Nat
  firstEmpty : Option Nat
deriving DecidableEq, Repr

def TimeBase.reset : TimeBase where
  state := .unset
  source := .internal
  tag := 0
  timeOfDay := 0
  expected := Config.second
  lockCount := 0
  lastPulse := none
  lastEvent := none
  lastMark := 0
  firstEmpty := none

/-! ## Schedule tables (R25) -/

/-- The kind of a segment. A CURFEW segment carries the encore limits, a PLAY segment has none. -/
inductive SegmentKind where
  | play
  | curfew (encoreBroad encoreLow : Nat)
deriving DecidableEq, Repr

structure Segment where
  start : Nat
  kind : SegmentKind
  broad : Nat
  low : Nat
deriving DecidableEq, Repr

/-- Segment 0 as power-on gives it. -/
def Segment.reset : Segment := ⟨0, .play, 1300, 1300⟩

/-- A zone's list of segments and the segment in force as last evaluated (R28). -/
structure Table where
  segments : List Segment
  inForce : Segment
deriving DecidableEq, Repr

def Table.reset : Table := ⟨[Segment.reset], Segment.reset⟩

/-! ## Zone accounts (R56, R58) -/

structure ZoneConfig where
  window : Nat
  guardBand : Nat
  fastMargin : Nat
  releaseMargin : Nat
  hysteresis : Nat
  warnMargin : Nat
  fastStep : Nat
  attackCap : Nat
  settlePeriod : Nat
  releaseInterval : Nat
  fallback : Pair Nat
deriving DecidableEq, Repr

def ZoneConfig.reset : ZoneConfig where
  window := 15
  guardBand := 10
  fastMargin := 100
  releaseMargin := 20
  hysteresis := 5
  warnMargin := 20
  fastStep := 4
  attackCap := 2
  settlePeriod := 5
  releaseInterval := 3
  fallback := ⟨850, 900⟩

inductive FeedState where
  | idle
  | fed
  | holding
  | fallback
deriving DecidableEq, Repr

/-- The awaiting second: its tag, whether it is still open, and its programme minute (R58, R62, R63). -/
structure Awaiting where
  tag : Nat
  isOpen : Bool
  minute : Option Nat
deriving DecidableEq, Repr

/-- A slot of the minute ring (R71). -/
structure MinuteSlot where
  minute : Option Nat
  sums : Pair Nat
  counted : Nat
  substituted : Nat
deriving DecidableEq, Repr

/-- The closing level L, the short level S and the rolling level R of one metric (R58). -/
structure MetricLevels where
  closing : Nat
  short : Nat
  rolling : Nat
deriving DecidableEq, Repr

inductive Condition where
  | clear
  | near
  | over
deriving DecidableEq, Repr

/-- A FAST flag with its quiet count (R80). -/
structure FastFlag where
  isSet : Bool
  quiet : Nat
deriving DecidableEq, Repr

/-- The worst-since-read snapshot of one metric (R84). -/
structure Snapshot where
  worst : Condition
  fastSeen : Bool
deriving DecidableEq, Repr

/-- A zone account. The settle timer is its due moment while RUNNING and absent while EXPIRED (R76). -/
structure Zone where
  config : ZoneConfig
  enabled : Bool
  feed : FeedState
  awaiting : Option Awaiting
  missingRun : Nat
  hold : Option (Pair Nat)
  seconds : Pair (List Nat)
  slots : List MinuteSlot
  levels : Option (Pair MetricLevels)
  conditions : Pair Condition
  fast : Pair FastFlag
  demand : Nat
  settle : Option Nat
  releaseCount : Nat
  snapshot : Pair Snapshot
deriving DecidableEq, Repr

def Zone.reset : Zone where
  config := ZoneConfig.reset
  enabled := false
  feed := .idle
  awaiting := none
  missingRun := 0
  hold := none
  seconds := ⟨[], []⟩
  slots := []
  levels := none
  conditions := ⟨.clear, .clear⟩
  fast := ⟨⟨false, 0⟩, ⟨false, 0⟩⟩
  demand := 0
  settle := none
  releaseCount := 0
  snapshot := ⟨⟨.clear, false⟩, ⟨.clear, false⟩⟩

/-! ## Stage attenuation units (R85, R86) -/

inductive ChangeMode where
  | hard
  | soft
deriving DecidableEq, Repr

structure StageRecord where
  coupling : Bank8 Nat
  failsafe : Nat
  mode : ChangeMode
  attack : Nat
  releaseStep : Nat
  fadeStep : Nat
  resumeStep : Nat
  lead : Nat
  trim : Nat
deriving DecidableEq, Repr

def StageRecord.reset : StageRecord where
  coupling := Bank8.fill 0
  failsafe := 24
  mode := .soft
  attack := 10
  releaseStep := 250
  fadeStep := 125
  resumeStep := 50
  lead := 10
  trim := 0

/-- A mute-reason set (R94). -/
structure Reasons where
  start : Bool
  officer : Bool
  curfew : Bool
deriving DecidableEq, Repr

inductive GainState where
  | opened
  | resuming
  | fading
  | muted
deriving DecidableEq, Repr

inductive RampPurpose where
  | attack
  | release
  | fade
  | resume
deriving DecidableEq, Repr

/-- A running ramp timer (R101). -/
structure Ramp where
  purpose : RampPurpose
  due : Nat
deriving DecidableEq, Repr

structure Stage where
  record : StageRecord
  reasons : Reasons
  gain : GainState
  target : Nat
  applied : Nat
  ramp : Option Ramp
deriving DecidableEq, Repr

def Stage.reset : Stage where
  record := StageRecord.reset
  reasons := ⟨true, false, false⟩
  gain := .muted
  target := 24
  applied := 96
  ramp := none

/-! ## Curfew unit (R113) -/

/-- A stage's grant with its minutes granted and, while RUNNING, its end point. -/
inductive Grant where
  | none
  | booked (minutes : Nat)
  | running (minutes endPoint : Nat)
deriving DecidableEq, Repr

structure Curfew where
  zones : Bank8 Bool
  onsetTag : Option Nat
  grant : Grant
  endSoon : Bool
  total : Nat
  soonMinute : Option Nat
deriving DecidableEq, Repr

def Curfew.reset : Curfew where
  zones := Bank8.fill false
  onsetTag := none
  grant := .none
  endSoon := false
  total := 0
  soonMinute := none

/-! ## Stage audio paths (R128) -/

inductive PathState where
  | idle
  | aligning
  | running
deriving DecidableEq, Repr

/-- A set of path alarms, also the form of the mute mask (R128, R136). -/
structure AlarmSet where
  overflow : Bool
  underflow : Bool
  strobeSlip : Bool
  noSignal : Bool
deriving DecidableEq, Repr

/-- The signal watch; PRESENT holds the due moment of the no-signal timer (R135). -/
inductive Watch where
  | notWatched
  | present (due : Nat)
  | absent
deriving DecidableEq, Repr

/-- A stage audio path. The occupancy is the length of the buffer. `sent` is the frame last sent on AOUT. -/
structure Path where
  state : PathState
  buffer : List Frame
  writeIndex : Option Nat
  alarms : AlarmSet
  watch : Watch
  delay : Nat
  muteMask : AlarmSet
  followStrobe : Bool
  sent : Frame
deriving DecidableEq, Repr

def Frame.silence : Frame := Bank8.fill 0

def Path.reset : Path where
  state := .idle
  buffer := []
  writeIndex := none
  alarms := ⟨false, false, false, false⟩
  watch := .notWatched
  delay := 8
  muteMask := ⟨true, true, true, true⟩
  followStrobe := false
  sent := Frame.silence

/-! ## Exceedance list (R144, R145) -/

inductive RecordKind where
  | rolling
  | fast
deriving DecidableEq, Repr

inductive CloseCause where
  | cleared
  | disabled
deriving DecidableEq, Repr

structure Exceedance where
  number : Nat
  zone : ZoneId
  metric : Metric
  kind : RecordKind
  startTag : Nat
  startMinute : Option Nat
  limitAtOpen : Nat
  duration : Nat
  substituted : Nat
  peakLevel : Nat
  peakDemand : Nat
  stages : Bank4 Bool
  endMinute : Option Nat
  cause : Option CloseCause
deriving DecidableEq, Repr

structure RecordList where
  records : List Exceedance
  counter : Nat
deriving DecidableEq, Repr

/-- A close report (R82): what a zone hands the list at a close. -/
structure CloseReport where
  zone : ZoneId
  tag : Nat
  minute : Option Nat
  substituted : Bool
  demand : Nat
  limits : Pair Nat
  rolling : Pair Nat
  closing : Pair Nat
  conditions : Pair Condition
  fast : Pair Bool
deriving DecidableEq, Repr

/-- A close report as the list took it (the model's own, log entry 40): its moment, how many records it opened and
the stages the list read as attenuated. A RESTART at the same moment may overtake it (R155). -/
structure SentReport where
  moment : Nat
  report : CloseReport
  opened : Nat
  seen : Bank4 Bool
deriving DecidableEq, Repr

/-! ## Monitor loop (R33, R37) -/

inductive SlotState where
  | vacant
  | seeking
  | active
  | lost
deriving DecidableEq, Repr

inductive LostCause where
  | noAnswer
  | wrongKind
  | loopStall
deriving DecidableEq, Repr

structure HealthFlags where
  sensorFault : Bool
  supplyLow : Bool
  calDue : Bool
deriving DecidableEq, Repr

/-- The re-seek timer: stopped, running toward its due moment, or expired with its probe due (R41). It is
stopped while the probe is carried. -/
inductive Reseek where
  | stopped
  | running (due : Nat)
  | probeDue
deriving DecidableEq, Repr

structure UnitSlot where
  state : SlotState
  zone : Option ZoneId
  cause : Option LostCause
  failed : Nat
  late : Bool
  misdated : Bool
  serial : Option Nat
  health : Option HealthFlags
  nextFetch : Nat
  reseek : Reseek
deriving DecidableEq, Repr

def UnitSlot.reset : UnitSlot where
  state := .vacant
  zone := none
  cause := none
  failed := 0
  late := false
  misdated := false
  serial := none
  health := none
  nextFetch := 0
  reseek := .stopped

/-- The transactions of the loop (R33). An IDENTIFY is a slot's own work or a LOST slot's probe. -/
inductive Transaction where
  | identify (slot : SlotId) (probe : Bool)
  | status (slot : SlotId)
  | fetch (slot : SlotId) (number : Nat)
  | mark (tag : Nat)
  | loopReset
deriving DecidableEq, Repr

/-- The transaction in flight, with whether its outcome is to be disregarded (R39, R55). -/
structure Flight where
  transaction : Transaction
  disregarded : Bool
deriving DecidableEq, Repr

/-- What a scan has still to do at its current address (R46): STATUS, or so many fetches, the first of which
repeats a failed one where `again` holds its number. -/
inductive ScanPhase where
  | status
  | fetch (remaining : Nat) (again : Option Nat)
deriving DecidableEq, Repr

/-- The position of an attention scan: the slot it stands at, 8 once it has passed address 8. -/
structure Scan where
  slot : Nat
  phase : ScanPhase
deriving DecidableEq, Repr

/-- The loop controller. `identifyFirst` says that the scan in progress is a follow-on scan which one identification
transaction goes before (R47). `latn` is the level the units hold LATN at. `sent` is the request last put on LDAT
(R175). -/
structure Loop where
  slots : Bank8 UnitSlot
  flight : Option Flight
  pendingMark : Option Nat
  pendingReset : Bool
  scan : Option Scan
  identifyFirst : Bool
  latn : Bool
  sent : List Byte
deriving DecidableEq, Repr

def Loop.reset : Loop where
  slots := Bank8.fill UnitSlot.reset
  flight := none
  pendingMark := none
  pendingReset := false
  scan := none
  identifyFirst := false
  latn := false
  sent := []

/-! ## Link interfaces (R156) -/

/-- What a receiver knows of the length of the message it is in: nothing yet, that a line error spoilt it,
or its value (R157, R158). -/
inductive RxLength where
  | awaited
  | unknown
  | known (n : Nat)
deriving DecidableEq, Repr

/-- The receive state: HUNTING, or IN MESSAGE with the length, the bytes received after it and whether a
line error has been noted. -/
inductive Receiver where
  | hunting
  | inMessage (length : RxLength) (bytes : List Byte) (lineError : Bool)
deriving DecidableEq, Repr

inductive Reject where
  | line
  | format
  | busy
deriving DecidableEq, Repr

/-- A link interface. The transmitter is the message being sent, absent while IDLE. `held` is the pending
place. `noticeSet` is the pending notice set and `enables` the enable set, bit n for the kind at position
n; `priorities` holds one priority for each kind of the link. -/
structure LinkInterface where
  receiver : Receiver
  transmitter : Option (List Byte)
  held : Option Request
  owed : List Reject
  noticeSet : BitVec 16
  enables : BitVec 16
  priorities : List Nat
  alert : Bool
deriving DecidableEq, Repr

def LinkInterface.reset (kinds : Nat) : LinkInterface where
  receiver := .hunting
  transmitter := none
  held := none
  owed := []
  noticeSet := 0
  enables := 0
  priorities := List.replicate kinds 0
  alert := false

structure Links where
  desk : Bank4 LinkInterface
  officer : LinkInterface
deriving DecidableEq, Repr

def Links.get (k : Links) : LinkId → LinkInterface
  | .desk n => k.desk.get n
  | .officer => k.officer

def Links.set (k : Links) (l : LinkId) (x : LinkInterface) : Links :=
  match l with
  | .desk n => { k with desk := k.desk.set n x }
  | .officer => { k with officer := x }

/-! ## The officer's mode (R186) -/

inductive Mode where
  | setup
  | show
deriving DecidableEq, Repr

/-! ## Open orders (the model's own, log entry 5) -/

/-- One of the owners among which a mark, or a SET TIME, is handed out in no order the spec gives. -/
inductive Task where
  | zone (z : ZoneId)
  | table (z : ZoneId)
  | grants
  | floor (st : StageId)
deriving DecidableEq, Repr

/-- One resolution of the orders the spec leaves open: the order of a mark's owners (R15); for each zone and stage,
whether the zone's close report reaches the exceedance list before that stage takes the close's demand (R66, R147);
for each stage, whether a disabling reaches the curfew unit before that stage (R60); whether SET STAGE gives the unit
its change mode before its failsafe and trim (R87); the zones whose close report of the present moment a RESTART
overtakes, and for each of these and each stage whether that stage has taken its own reset when the list takes the
report (R147, R155). -/
structure Interleaving where
  tasks : List Task
  reportFirst : Bank8 (Bank4 Bool)
  curfewFirst : Bank4 Bool
  modeFirst : Bool
  overtaken : Bank8 Bool
  resetSeen : Bank8 (Bank4 Bool)
deriving DecidableEq, Repr, Inhabited

/-! ## The whole part -/

/-- The state of the part. `now` is the present moment. Two fields are the MODEL's own. `reports` holds the last
close report the list took from each zone, in the order they came, until the zone is disabled or the officer link's
next message begins (log entry 40). `orders` holds
the resolutions the next open orders take, first in, first out, constrained by nothing; once it is used up,
`Config.openOrder` gives them. `pending` is the queue of commands that wait. -/
structure State where
  now : Nat
  mode : Mode
  timeBase : TimeBase
  tables : Bank8 Table
  zones : Bank8 Zone
  stages : Bank4 Stage
  pool : Nat
  curfew : Bank4 Curfew
  paths : Bank4 Path
  exceedances : RecordList
  reports : List SentReport
  loop : Loop
  links : Links
  orders : List Interleaving
  pending : List Instr
deriving DecidableEq, Repr

/-- The part at power-on. -/
def State.reset : State where
  now := 0
  mode := .setup
  timeBase := TimeBase.reset
  tables := Bank8.fill Table.reset
  zones := Bank8.fill Zone.reset
  stages := Bank4.fill Stage.reset
  pool := 0
  curfew := Bank4.fill Curfew.reset
  paths := Bank4.fill Path.reset
  exceedances := ⟨[], 0⟩
  reports := []
  loop := Loop.reset
  links := ⟨Bank4.fill (LinkInterface.reset 6), LinkInterface.reset 9⟩
  orders := []
  pending := []

/-- The reasons a step could stop with a fault. The part has none: every command the spec lists has an
effect it gives, a refusal by a reply code among them (R162), so no constructor is raised by any meaning. -/
inductive Fault where
deriving DecidableEq, Repr

/-- The reasons a step could be refused. -/
inductive Refusal where
  /-- Raised by `exec` alone, for a command that has no meaning yet; safe, since the run stops. No command
  is in that case. -/
  | notModelled (mnemonic : String)
deriving DecidableEq, Repr

/-- What a command answers. -/
abbrev Result := Host.Outcome State Fault Refusal

end Sys2Proof.Machine
end

