-- ==== Sys2Proof/Machine/Line.lean ====
section
/-! DEFINITION. What the lines carry, bit by bit. The characters of the links' lines (R156): their bits, the parity and
framing errors of R157 and R158, and the bits a transmitter's message puts on its line. A bit is `true` where the line
is high. That the line is low for a start bit and high for a stop bit is PRESUMED (log entry 41). The samples of the
stages' audio lines (R127): most significant bit first; that they are in two's complement is DEDUCED (log entry
45). -/

namespace Sys2Proof

/-! ## One character -/

/-- The even parity bit of a byte: set where the byte has an odd number of ones, so that the nine bits together have
an even number (R156). -/
def evenParity (b : Byte) : Bool :=
  b.getLsbD 0 ^^ b.getLsbD 1 ^^ b.getLsbD 2 ^^ b.getLsbD 3 ^^ b.getLsbD 4 ^^ b.getLsbD 5 ^^ b.getLsbD 6 ^^
    b.getLsbD 7

/-- A parity error: the parity bit is not the even one. -/
def LineByte.parityError (c : LineByte) : Bool := c.parity != evenParity c.byte

/-- A framing error: no stop bit where one belongs. -/
def LineByte.framingError (c : LineByte) : Bool := !c.stop

/-- A character with a parity or framing error (R157, R158). -/
def LineByte.lineError (c : LineByte) : Bool := c.parityError || c.framingError

/-- A byte as a transmitter sends it, with its parity bit and a stop bit. -/
def LineByte.sound (b : Byte) : LineByte := ⟨b, evenParity b, true⟩

/-- A character's bits in the order they come: the start bit, the data bits from the least significant on, the parity
bit and the stop bit (R156). -/
def LineByte.bits (c : LineByte) : List Bool :=
  [false, c.byte.getLsbD 0, c.byte.getLsbD 1, c.byte.getLsbD 2, c.byte.getLsbD 3, c.byte.getLsbD 4,
    c.byte.getLsbD 5, c.byte.getLsbD 6, c.byte.getLsbD 7, c.parity, c.stop]

/-- A byte from its bits, the first the least significant. -/
def byteOfBits (l : List Bool) : Byte := l.foldr (fun b n => (n <<< 1) ||| (if b then 1#8 else 0#8)) 0#8

/-- The character that eleven bits spell, absent where they do not begin with a start bit. -/
def LineByte.ofBits : List Bool → Option LineByte
  | [false, d0, d1, d2, d3, d4, d5, d6, d7, parity, stop] =>
    some ⟨byteOfBits [d0, d1, d2, d3, d4, d5, d6, d7], parity, stop⟩
  | _ => none

namespace Machine

/-! ## The transmit lines (R161) -/

/-- The bits of a message on a line, each character behind the one before. -/
def lineBits (message : List Byte) : List Bool := message.flatMap fun b => (LineByte.sound b).bits

/-- What a link's transmitter sends on its line: the bits of its message, none while it is IDLE. -/
def LinkInterface.lineOut (k : LinkInterface) : List Bool := (k.transmitter.map lineBits).getD []

/-! ## The audio lines (R127) -/

/-- The 24 bits of a sample, most significant first (R127). -/
def sampleBits (x : Int) : List Bool :=
  (List.range 24).map fun i => (BitVec.ofInt 24 x).getLsbD (23 - i)

/-- The sample that bits spell, the first the most significant. -/
def sampleOfBits (l : List Bool) : Int := (BitVec.ofBoolListBE l).toInt

/-- The 192 bits of a frame, channel 0 first (R127). -/
def frameBits (f : Frame) : List Bool := f.toList.flatMap sampleBits

/-- The sample of a channel in the bits of a frame. -/
def channelOfBits (l : List Bool) (c : Fin 8) : Int := sampleOfBits ((l.drop (24 * c.val)).take 24)

/-- The frame that the bits received on AIN spell once the last bit of the eighth sample has come (R127). -/
def frameOfBits (l : List Bool) : Option Frame :=
  if l.length = 192 then some (Bank8.ofFn (channelOfBits l)) else none

/-- The arrival that bits received on a stage's AIN make, AFS having been asserted with their first sample or not. -/
def arrivalOfBits (st : StageId) (l : List Bool) (strobe : Bool) : Option Instr :=
  (frameOfBits l).map fun f => .frameArrival st f strobe

/-- What a path sends on its AOUT: the bits of the frame last sent (R127). -/
def Path.lineOut (p : Path) : List Bool := frameBits p.sent

end Machine
end Sys2Proof
end

