-- ==== Sys2Proof/Machine/Ops.lean ====
section
/-! DEFINITION. The shared arithmetic of Chapter 1 (levels, energies, gains, scaling), the programme
minute, and the named reads and writes of the parts of State. -/

namespace Sys2Proof
namespace Machine

/-! ## Numbers -/

/-- A number clamped to a range (Section 5.1). -/
def clampTo (lo hi n : Nat) : Nat := max lo (min hi n)

/-- Ceiling division (R9). -/
def ceilDiv (a b : Nat) : Nat := (a + b - 1) / b

/-- A level clamped to the accounting range (R1). -/
def clampLevel (l : Nat) : Nat := clampTo Config.minLevel Config.maxLevel l

/-- A tag `n` marks after `tag` (R15, R115). -/
def tagPlus (tag n : Nat) : Nat := (tag + n) % 65536

/-- The marks from `tag` to `later`, modulo 65536 (R64, R113). -/
def tagDistance (later tag : Nat) : Nat := (later + 65536 - tag % 65536) % 65536

/-! ## Levels and energies (R2, R3, R5) -/

/-- The mantissa m(r) of R2. -/
def mantissa (r : Nat) : Nat := 1024 + ceilDiv (r * 1024) 30

/-- Level-to-energy (R2), for any integer. -/
def levelToEnergy (l : Int) : Nat :=
  let d := clampLevel l.toNat - Config.minLevel
  mantissa (d % 30) * 2 ^ (d / 30)

/-- The octave of R3: the largest k with 1024 × 2^k ≤ M, for M of at least 1024. -/
def octave (m : Nat) : Nat := Nat.log2 (m / 1024)

/-- Energy-to-level (R3). -/
def energyToLevel (m : Nat) : Nat :=
  if m < 1024 then 400
  else
    let k := octave m
    let q := m / 2 ^ k
    min 1300 (400 + 30 * k + (q - 1024) * 30 / 1024)

/-- The level of a collection from its exact sum and its count (R5). -/
def levelOfSum (sum count : Nat) : Nat := energyToLevel (sum / count)

/-- The level of a list of energy figures (R5). -/
def levelOfList (l : List Nat) : Nat := levelOfSum l.sum l.length

/-! ## Gains and samples (R11, R12) -/

/-- The table T of R11. -/
def gainTable : List Nat :=
  [32768, 30929, 29193, 27554, 26008, 24548, 23170, 21870, 20643, 19484, 18390, 17358]

/-- The gain G(a) (R11). -/
def gain (a : Nat) : Nat := gainTable.getD (a % 12) 0 / 2 ^ (a / 12)

/-- The scaling of a sample by a gain (R12); the division is the floor. -/
def scaleSample (x : Int) (g : Nat) : Int := (x * g + 16384) / 32768

/-- A frame scaled by the gain of an attenuation: the same gain for all eight channels (R133). -/
def scaleFrame (a : Nat) (f : Frame) : Frame := f.map fun x => scaleSample x (gain a)

/-! ## Time of day -/

/-- The programme minute of a time of day (R16). -/
def minuteOf (timeOfDay : Nat) : Nat := (timeOfDay / 60 + 720) % 1440

/-- The programme minute, absent while UNSET (R16). -/
def TimeBase.minute (t : TimeBase) : Option Nat :=
  match t.state with
  | .unset => none
  | _ => some (minuteOf t.timeOfDay)

def State.minute (s : State) : Option Nat := s.timeBase.minute

/-- Time moves on to a moment, and never back. -/
def State.advanceTo (moment : Nat) (s : State) : State := { s with now := max s.now moment }

/-! ## Named updates of State -/

def State.onZone (z : ZoneId) (f : Zone → Zone) (s : State) : State :=
  { s with zones := s.zones.modify z f }

def State.onTable (z : ZoneId) (f : Table → Table) (s : State) : State :=
  { s with tables := s.tables.modify z f }

def State.onStage (st : StageId) (f : Stage → Stage) (s : State) : State :=
  { s with stages := s.stages.modify st f }

def State.onCurfew (st : StageId) (f : Curfew → Curfew) (s : State) : State :=
  { s with curfew := s.curfew.modify st f }

def State.onPath (st : StageId) (f : Path → Path) (s : State) : State :=
  { s with paths := s.paths.modify st f }

def State.onLink (l : LinkId) (f : LinkInterface → LinkInterface) (s : State) : State :=
  { s with links := s.links.set l (f (s.links.get l)) }

def State.onTimeBase (f : TimeBase → TimeBase) (s : State) : State :=
  { s with timeBase := f s.timeBase }

def State.onLoop (f : Loop → Loop) (s : State) : State := { s with loop := f s.loop }

/-- One operation for each stage, S0 first. -/
def State.eachStage (f : StageId → State → State) (s : State) : State :=
  allStages.foldl (fun s st => f st s) s

/-- One operation for each zone, Z0 first. -/
def State.eachZone (f : ZoneId → State → State) (s : State) : State :=
  allZones.foldl (fun s z => f z s) s

/-! ## Open orders -/

end Machine

/-- The resolution of the next open order in a state whose `orders` is used up: a FREE VALUE, any function of the
state (log entry 5). -/
opaque Config.openOrder : Machine.State → Machine.Interleaving

namespace Machine

/-- The next resolution of the open orders, and the state that has used it (log entry 5). -/
def State.takeOrder (s : State) : Interleaving × State :=
  match s.orders with
  | [] => (Config.openOrder s, s)
  | o :: rest => (o, { s with orders := rest })

/-- Every owner of a mark or a SET TIME. -/
def allTasks : List Task := allZones.map .zone ++ allZones.map .table ++ .grants :: allStages.map .floor

/-- `rest` put in the order `wish` names: what `wish` names first comes first, each once. -/
def orderTasks : List Task → List Task → List Task
  | [], rest => rest
  | t :: wish, rest => if t ∈ rest then t :: orderTasks wish (rest.erase t) else orderTasks wish rest

/-- The owners in the order a resolution gives: each exactly once, whatever it names. -/
def Interleaving.sequence (o : Interleaving) : List Task := orderTasks o.tasks allTasks

end Machine
end Sys2Proof
end

