-- ==== Sys2Proof/Machine/Flags.lean ====
section
/-! DEFINITION. The flags of the part: the notice kinds of the links with their pending and enable sets,
priorities and ALERT lines (R163 to R168), the path alarms (R136, R138), and the sets that are sent as
masks (R169). -/

namespace Sys2Proof.Machine

/-! ## Notice kinds (R163) -/

inductive DeskNotice where
  | levelNear
  | attenuating
  | curfewSoon
  | curfewNow
  | encoreEndSoon
  | pathAlarm
deriving DecidableEq, Repr

inductive OfficerNotice where
  | zoneChange
  | feedChange
  | unitChange
  | recordOpened
  | recordClosed
  | discard
  | timeEvent
  | pathAlarm
  | encore
deriving DecidableEq, Repr

/-- A desk kind's position in the fixed order (R163). -/
def DeskNotice.position : DeskNotice → Nat
  | .levelNear => 0
  | .attenuating => 1
  | .curfewSoon => 2
  | .curfewNow => 3
  | .encoreEndSoon => 4
  | .pathAlarm => 5

/-- An officer kind's position in the fixed order (R163). -/
def OfficerNotice.position : OfficerNotice → Nat
  | .zoneChange => 0
  | .feedChange => 1
  | .unitChange => 2
  | .recordOpened => 3
  | .recordClosed => 4
  | .discard => 5
  | .timeEvent => 6
  | .pathAlarm => 7
  | .encore => 8

/-- How many notice kinds a link has. -/
def linkKinds : LinkId → Nat
  | .desk _ => 6
  | .officer => 9

/-- The set that holds the kind at one position. -/
def noticeBit (n : Nat) : BitVec 16 := 1#16 <<< n

/-! ## Pending set, enable set and ALERT (R164, R167, R168) -/

/-- ALERT is asserted exactly while the pending and enable sets share a kind (R168). -/
def LinkInterface.refreshAlert (k : LinkInterface) : LinkInterface :=
  { k with alert := (k.noticeSet &&& k.enables) != 0#16 }

/-- A kind becomes pending (R164). -/
def LinkInterface.raise (n : Nat) (k : LinkInterface) : LinkInterface :=
  { k with noticeSet := k.noticeSet ||| noticeBit n }.refreshAlert

/-- The named kinds leave the pending set (R166). -/
def LinkInterface.acknowledge (mask : BitVec 16) (k : LinkInterface) : LinkInterface :=
  { k with noticeSet := k.noticeSet &&& ~~~mask }.refreshAlert

/-- RESTART empties the pending set (R156, R164). -/
def LinkInterface.emptyNotices (k : LinkInterface) : LinkInterface :=
  { k with noticeSet := 0#16 }.refreshAlert

/-- A write of the enable set (R167). -/
def LinkInterface.enable (mask : BitVec 16) (k : LinkInterface) : LinkInterface :=
  { k with enables := mask }.refreshAlert

/-- The priorities after a write: FFh leaves a kind's priority, any other value is clamped to 0..3 (R167,
R180, R194). -/
def writePriorities : List Nat → List Nat → List Nat
  | old :: olds, new :: news => (if new = 255 then old else min 3 new) :: writePriorities olds news
  | olds, _ => olds

def LinkInterface.prioritise (new : List Nat) (k : LinkInterface) : LinkInterface :=
  { k with priorities := writePriorities k.priorities new }

/-- Whether the kind at a position is both pending and enabled. -/
def LinkInterface.calls (k : LinkInterface) (n : Nat) : Bool := (k.noticeSet &&& k.enables).getLsbD n

/-- The position of the lowest priority number among the kinds that call, the earliest where several share
it, over the priorities from position `n` on (R165). -/
def topFrom (k : LinkInterface) : Nat → List Nat → Option (Nat × Nat)
  | _, [] => none
  | n, p :: ps =>
    match k.calls n, topFrom k (n + 1) ps with
    | true, some (m, q) => if p ≤ q then some (n, p) else some (m, q)
    | true, none => some (n, p)
    | false, best => best

/-- The top kind's position (R165). -/
def LinkInterface.topKind (k : LinkInterface) : Option Nat := (topFrom k 0 k.priorities).map Prod.fst

/-- An event raises a desk kind for a stage, on that stage's desk link (R163, R164). -/
def State.raiseDesk (st : StageId) (n : DeskNotice) (s : State) : State :=
  s.onLink (.desk st) (LinkInterface.raise n.position)

/-- An event raises an officer kind (R163, R164). -/
def State.raiseOfficer (n : OfficerNotice) (s : State) : State :=
  s.onLink .officer (LinkInterface.raise n.position)

/-- Raises a kind on the officer link where a condition holds. -/
def State.raiseOfficerIf (c : Bool) (n : OfficerNotice) (s : State) : State :=
  if c then s.raiseOfficer n else s

/-- Raises a kind on a desk link where a condition holds. -/
def State.raiseDeskIf (c : Bool) (st : StageId) (n : DeskNotice) (s : State) : State :=
  if c then s.raiseDesk st n else s

/-- RESTART empties every pending notice set and releases every ALERT line (R195). -/
def Links.emptyNotices (k : Links) : Links :=
  ⟨k.desk.map LinkInterface.emptyNotices, k.officer.emptyNotices⟩

/-! ## Path alarms (R136, R138) -/

inductive Alarm where
  | overflow
  | underflow
  | strobeSlip
  | noSignal
deriving DecidableEq, Repr

def AlarmSet.empty : AlarmSet := ⟨false, false, false, false⟩

def AlarmSet.has (a : AlarmSet) : Alarm → Bool
  | .overflow => a.overflow
  | .underflow => a.underflow
  | .strobeSlip => a.strobeSlip
  | .noSignal => a.noSignal

def AlarmSet.add (a : AlarmSet) : Alarm → AlarmSet
  | .overflow => { a with overflow := true }
  | .underflow => { a with underflow := true }
  | .strobeSlip => { a with strobeSlip := true }
  | .noSignal => { a with noSignal := true }

/-- The alarms of `a` that `b` does not name. -/
def AlarmSet.without (a b : AlarmSet) : AlarmSet :=
  ⟨a.overflow && !b.overflow, a.underflow && !b.underflow, a.strobeSlip && !b.strobeSlip,
    a.noSignal && !b.noSignal⟩

/-- A path is path-muted while its alarm set and its mute mask share a kind (R138). -/
def Path.muted (p : Path) : Bool :=
  (p.alarms.overflow && p.muteMask.overflow) || (p.alarms.underflow && p.muteMask.underflow) ||
    (p.alarms.strobeSlip && p.muteMask.strobeSlip) || (p.alarms.noSignal && p.muteMask.noSignal)

/-- Sets an alarm; a change from clear to set raises PATH_ALARM on the stage's desk link and on the officer
link (R136). -/
def State.setAlarm (st : StageId) (a : Alarm) (s : State) : State :=
  let isNew := !((s.paths.get st).alarms.has a)
  let s := s.onPath st fun p => { p with alarms := p.alarms.add a }
  (s.raiseDeskIf isNew st .pathAlarm).raiseOfficerIf isNew .pathAlarm

/-! ## Sets as masks (R169) -/

def bitOf (b : Bool) (n : Nat) : Nat := if b then 2 ^ n else 0

/-- The alarm mask's order (R174). -/
def AlarmSet.mask (a : AlarmSet) : Nat :=
  bitOf a.overflow 0 + bitOf a.underflow 1 + bitOf a.strobeSlip 2 + bitOf a.noSignal 3

def AlarmSet.ofMask (m : Byte) : AlarmSet := ⟨m.getLsbD 0, m.getLsbD 1, m.getLsbD 2, m.getLsbD 3⟩

/-- The mute-reason mask (R171). -/
def Reasons.mask (r : Reasons) : Nat := bitOf r.start 0 + bitOf r.officer 1 + bitOf r.curfew 2

/-- The health flags' order (R175); the five bits above them stand for no flag (log entry 12). -/
def HealthFlags.ofMask (m : Byte) : HealthFlags := ⟨m.getLsbD 0, m.getLsbD 1, m.getLsbD 2⟩

def HealthFlags.mask (h : HealthFlags) : Nat :=
  bitOf h.sensorFault 0 + bitOf h.supplyLow 1 + bitOf h.calDue 2

def bank8Mask (b : Bank8 Bool) : Nat :=
  bitOf b.i0 0 + bitOf b.i1 1 + bitOf b.i2 2 + bitOf b.i3 3 + bitOf b.i4 4 + bitOf b.i5 5 +
    bitOf b.i6 6 + bitOf b.i7 7

def bank4Mask (b : Bank4 Bool) : Nat := bitOf b.i0 0 + bitOf b.i1 1 + bitOf b.i2 2 + bitOf b.i3 3

end Sys2Proof.Machine
end

