-- ==== Sys2Proof/Machine/Path.lean ====
section
/-! DEFINITION. The stage audio paths (Chapter 7): arrivals, output frame events, the signal watch, and the
officer's operations on a path. -/

namespace Sys2Proof.Machine

/-- The write index advanced by one, from 15 to 0 (R130, R131). -/
def advanceIndex (n : Nat) : Nat := (n + 1) % 16

/-- An entry to ALIGNING that empties the buffer (R130). -/
def Path.align (p : Path) : Path := { p with state := .aligning, buffer := [], writeIndex := none }

/-- The fill begun by a strobe-marked frame (R130, R131). -/
def Path.beginFill (f : Frame) (p : Path) : Path :=
  { p with state := .aligning, buffer := [f], writeIndex := some 0 }

/-- An aligning path whose fill has begun goes to RUNNING where the occupancy reaches or passes D (R130,
R141). -/
def Path.completeFill (p : Path) : Path :=
  if p.writeIndex.isSome && decide (p.delay ≤ p.buffer.length) then { p with state := .running } else p

/-- The watch's answer to an arrival (R135). -/
def Path.hear (now : Nat) (p : Path) : Path :=
  match p.state with
  | .idle => p
  | _ => { p with watch := .present (now + Config.noSignal) }

/-- Whether an arrival is a strobe slip: strobe-marked at an advanced write index other than 0, in RUNNING or
with a fill begun (R130, R131). -/
def Path.slips (strobe : Bool) (p : Path) : Bool :=
  match p.state, p.writeIndex with
  | .idle, _ => false
  | _, none => false
  | _, some n => strobe && decide (advanceIndex n ≠ 0)

/-- What an arrival does to the buffer and the index (R129 to R132); with whether it overflows. -/
def Path.arrive (f : Frame) (strobe : Bool) (p : Path) : Path × Bool :=
  match p.state with
  | .idle => (p, false)
  | .aligning =>
    match p.writeIndex with
    | none => (if strobe then (p.beginFill f).completeFill else p, false)
    | some n =>
      if p.slips strobe then ((p.beginFill f).completeFill, false)
      else
        (({ p with buffer := p.buffer ++ [f], writeIndex := some (advanceIndex n) } : Path).completeFill,
          false)
  | .running =>
    if p.slips strobe && p.followStrobe then ((p.beginFill f).completeFill, false)
    else
      let n := if p.slips strobe then 0 else advanceIndex (p.writeIndex.getD 15)
      let p := { p with writeIndex := some n }
      if p.buffer.length < Config.pathBuffer then ({ p with buffer := p.buffer ++ [f] }, false) else (p, true)

/-- A frame arrival at a stage's path (R127, R129 to R132, R135, R136). -/
def State.arrival (st : StageId) (f : Frame) (strobe : Bool) (s : State) : State :=
  let p := (s.paths.get st).hear s.now
  let r := p.arrive f strobe
  let s := s.onPath st fun _ => r.1
  let s := if p.slips strobe then s.setAlarm st .strobeSlip else s
  if r.2 then s.setAlarm st .overflow else s

/-- The frame a path in RUNNING sends for the oldest frame of its buffer (R133). -/
def outputFrame (g : Stage) (muted : Bool) (f : Frame) : Frame :=
  if decide (g.gain = .muted) || muted then Frame.silence else scaleFrame g.applied f

/-- One path's part of an output frame event (R129, R130, R133). -/
def State.outputAt (st : StageId) (s : State) : State :=
  let p := s.paths.get st
  match p.state with
  | .idle => s.onPath st fun p => { p with sent := Frame.silence }
  | .aligning => s.onPath st fun p => { p with sent := Frame.silence }
  | .running =>
    match p.buffer with
    | [] => (s.onPath st fun p => { p with sent := Frame.silence }).setAlarm st .underflow
    | f :: rest =>
      s.onPath st fun p => { p with buffer := rest, sent := outputFrame (s.stages.get st) p.muted f }

/-- The no-signal timer's expiry at the present moment (R135). -/
def State.signalLost (st : StageId) (s : State) : State :=
  (s.onPath st fun p => { p with watch := .absent }).setAlarm st .noSignal

/-- The signal watch started (R135). -/
def Path.startWatch (now : Nat) (p : Path) : Path := { p with watch := .present (now + Config.noSignal) }

/-- ENABLE PATH (R139). -/
def Path.enable (now : Nat) (p : Path) : Path :=
  match p.state with
  | .idle => p.align.startWatch now
  | .aligning => p
  | .running => p

/-- DISABLE PATH (R139). -/
def Path.disable (p : Path) : Path :=
  { p with state := .idle, buffer := [], writeIndex := none, watch := .notWatched }

/-- SET PATH (R141): the fields given are stored, and a new D in ALIGNING may complete the fill. -/
def Path.write (f : SetPathFields) (p : Path) : Path :=
  let q := { p with
    delay := match f.delay with
      | none => p.delay
      | some d => clampTo 2 30 d
    muteMask := match f.muteMask with
      | none => p.muteMask
      | some m => AlarmSet.ofMask m
    followStrobe := match f.followStrobe with
      | none => p.followStrobe
      | some b => decide (b ≠ 0) }
  match q.state, f.delay with
  | .aligning, some _ => q.completeFill
  | _, _ => q

/-- CLEAR ALARMS (R137): the named alarms clear, and NO_SIGNAL is set again while the watch is ABSENT. -/
def State.clearPathAlarms (st : StageId) (named : AlarmSet) (s : State) : State :=
  let again := named.noSignal && decide ((s.paths.get st).watch = .absent)
  let s := s.onPath st fun p => { p with alarms := p.alarms.without named }
  if again then s.setAlarm st .noSignal else s

/-- A path at RESTART (R143). -/
def Path.restart (now : Nat) (p : Path) : Path :=
  let p := { p with alarms := AlarmSet.empty }
  match p.state with
  | .idle => p
  | _ => p.align.startWatch now

end Sys2Proof.Machine
end

