-- ==== Sys2Proof/Machine/Stage.lean ====
section
/-! DEFINITION. The stage attenuation units (Chapter 5): the target, the mute reasons and gain states, and
the ramps. The operations of one unit are pure; `changeStage` applies one and raises ATTENUATING. -/

namespace Sys2Proof.Machine

/-! ## The target (R91 to R93) -/

/-- Whether a zone is enabled and coupled to a stage (R85). -/
def reaches (s : State) (st : StageId) (z : ZoneId) : Bool :=
  (s.zones.get z).enabled && decide (0 < (s.stages.get st).record.coupling.get z)

/-- The weighted demand of one zone at a stage, 0 where the zone is not counted (R91). -/
def zoneTerm (s : State) (st : StageId) (z : ZoneId) : Nat :=
  if reaches s st z then ceilDiv ((s.zones.get z).demand * (s.stages.get st).record.coupling.get z) 100
  else 0

/-- The zone contribution D (R91). -/
def contribution (s : State) (st : StageId) : Nat :=
  allZones.foldl (fun d z => max d (zoneTerm s st z)) 0

/-- Whether a zone forces a stage's floor by FALLBACK (R92). -/
def forcesFallback (s : State) (st : StageId) (z : ZoneId) : Bool :=
  reaches s st z && decide ((s.zones.get z).feed = .fallback)

/-- The force floor (R92). -/
def forceFloor (s : State) (st : StageId) : Nat :=
  if s.timeBase.state = .unset || allZones.any (forcesFallback s st) then (s.stages.get st).record.failsafe
  else 0

/-- The target (R93). -/
def targetOf (s : State) (st : StageId) : Nat :=
  min Config.maxSteps (max (contribution s st) (max (s.stages.get st).record.trim (forceFloor s st)))

/-! ## Ramps of one unit (R101 to R107) -/

/-- The interval of a purpose, in milliseconds (R101). -/
def StageRecord.interval (r : StageRecord) : RampPurpose → Nat
  | .attack => r.attack
  | .release => r.releaseStep
  | .fade => r.fadeStep
  | .resume => r.resumeStep

/-- The ramp timer started for a purpose (R101). -/
def Stage.start (now : Nat) (p : RampPurpose) (g : Stage) : Stage :=
  { g with ramp := some ⟨p, now + Config.millisecond * g.record.interval p⟩ }

/-- The timer keeps its due moment where it runs for the purpose, and is started for it otherwise (R106). -/
def Stage.keepOrStart (now : Nat) (p : RampPurpose) (g : Stage) : Stage :=
  match g.ramp with
  | some r => if r.purpose = p then g else g.start now p
  | none => g.start now p

/-- A change to MUTED (R96, R104). -/
def Stage.mute (g : Stage) : Stage := { g with gain := .muted, applied := 96, ramp := none }

/-- A change to FADING (R102.1). -/
def Stage.enterFading (now : Nat) (g : Stage) : Stage :=
  let a := max g.applied g.target
  if 96 ≤ a then g.mute else ({ g with gain := .fading, applied := a } : Stage).start now .fade

/-- A change to RESUMING (R97, R103.1). A FADING stage resumes from the applied attenuation it has reached, 95 where
the removal is taken before the fade's last step: DEDUCED (log entry 38), since R97 says that such a stage goes to
RESUMING at its applied attenuation and also that it resumes from 96. -/
def Stage.enterResuming (now : Nat) (g : Stage) : Stage :=
  if g.applied ≤ g.target then { g with gain := .opened, applied := g.target, ramp := none }
  else ({ g with gain := .resuming } : Stage).start now .resume

/-- A target change to above, below or equal to the applied attenuation, OPEN in SOFT mode (R106). -/
def Stage.follow (now : Nat) (g : Stage) : Stage :=
  if g.target = g.applied then { g with ramp := none }
  else if g.applied < g.target then g.keepOrStart now .attack
  else g.keepOrStart now .release

/-- What a target change does (R93, R102.3, R103.3, R104, R105, R106). -/
def Stage.retarget (now new : Nat) (g : Stage) : Stage :=
  let g := { g with target := new }
  match g.gain with
  | .muted => g
  | .fading =>
    if g.applied < new then (if 96 ≤ new then g.mute else { g with applied := new }) else g
  | .resuming => if g.applied ≤ new then { g with gain := .opened, applied := new, ramp := none } else g
  | .opened =>
    match g.record.mode with
    | .hard => { g with applied := new, ramp := none }
    | .soft => g.follow now

/-- A ramp timer's expiry at the present moment (R102.2, R103.2, R106). A timer whose purpose does not belong
to the gain state stops without a step; no run brings that about (log entry 24). -/
def Stage.rampStep (now : Nat) (purpose : RampPurpose) (g : Stage) : Stage :=
  match g.gain, purpose with
  | .fading, .fade =>
    let a := max (g.applied + 1) g.target
    if 96 ≤ a then g.mute else ({ g with applied := a } : Stage).start now .fade
  | .resuming, .resume =>
    let a := g.applied - 1
    if a ≤ g.target then { g with gain := .opened, applied := a, ramp := none }
    else ({ g with applied := a } : Stage).start now .resume
  | .opened, .attack =>
    let a := min 96 (g.applied + 1)
    if g.target ≤ a then { g with applied := a, ramp := none }
    else ({ g with applied := a } : Stage).start now .attack
  | .opened, .release =>
    let a := g.applied - 1
    if a ≤ g.target then { g with applied := a, ramp := none }
    else ({ g with applied := a } : Stage).start now .release
  | _, _ => { g with ramp := none }

/-- A change of change mode to HARD while OPEN sets the applied attenuation to the target and stops the
timer (R107). -/
def Stage.settleMode (g : Stage) : Stage :=
  match g.gain, g.record.mode with
  | .opened, .hard => { g with applied := g.target, ramp := none }
  | _, _ => g

/-! ## Mute reasons of one unit (R94 to R97) -/

def Reasons.isEmpty (r : Reasons) : Bool := !r.start && !r.officer && !r.curfew

/-- OFFICER added by MUTE NOW (R96, R98). -/
def Stage.muteNow (g : Stage) : Stage :=
  ({ g with reasons := { g.reasons with officer := true } } : Stage).mute

/-- The gain state's answer to a reason added by FADE or by the curfew unit (R96). -/
def Stage.takeDown (now : Nat) (g : Stage) : Stage :=
  match g.gain with
  | .opened | .resuming => g.enterFading now
  | .fading | .muted => g

/-- OFFICER added by FADE (R96, R99). -/
def Stage.fadeOut (now : Nat) (g : Stage) : Stage :=
  ({ g with reasons := { g.reasons with officer := true } } : Stage).takeDown now

/-- CURFEW added by the curfew unit (R96). -/
def Stage.addCurfew (now : Nat) (g : Stage) : Stage :=
  ({ g with reasons := { g.reasons with curfew := true } } : Stage).takeDown now

/-- The reasons after a removal; a removal that empties the set brings the stage back in (R94, R97). -/
def Stage.setReasons (now : Nat) (r : Reasons) (g : Stage) : Stage :=
  let h := { g with reasons := r }
  if !g.reasons.isEmpty && r.isEmpty then
    match g.gain with
    | .muted | .fading => h.enterResuming now
    | .opened | .resuming => h
  else h

/-- CURFEW removed by the curfew unit (R94). -/
def Stage.dropCurfew (now : Nat) (g : Stage) : Stage :=
  g.setReasons now { g.reasons with curfew := false }

/-- START and OFFICER removed by RELEASE (R100). -/
def Stage.releaseReasons (now : Nat) (g : Stage) : Stage :=
  g.setReasons now ⟨false, false, g.reasons.curfew⟩

/-- A stage at the start of a show (R112): its record and target kept. -/
def Stage.restart (g : Stage) : Stage :=
  { g with reasons := ⟨true, false, false⟩, gain := .muted, applied := 96, ramp := none }

/-! ## The unit within the part -/

/-- Applies an operation of one unit; a change of the applied attenuation from 0 raises ATTENUATING on the
stage's desk link (R110). -/
def State.changeStage (st : StageId) (f : Stage → Stage) (s : State) : State :=
  let old := s.stages.get st
  (s.onStage st f).raiseDeskIf (decide (old.applied = 0) && decide (0 < (f old).applied)) st .attenuating

/-- Recomputes a stage's target; a new value is a target change (R93). -/
def State.recomputeTarget (st : StageId) (s : State) : State :=
  let t := targetOf s st
  if t = (s.stages.get st).target then s else s.changeStage st (Stage.retarget s.now t)

/-- Every stage recomputes its target. -/
def State.recomputeTargets (s : State) : State := s.eachStage State.recomputeTarget

/-- Those of some stages that are coupled to a zone recompute their targets (R69, R78). -/
def State.recomputeCoupled (z : ZoneId) (which : Bank4 Bool) (s : State) : State :=
  s.eachStage fun st s =>
    if which.get st && decide (0 < (s.stages.get st).record.coupling.get z) then s.recomputeTarget st else s

end Sys2Proof.Machine
end

