-- ==== Sys2Proof/Machine/Curfew.lean ====
section
/-! DEFINITION. The schedule tables (Sections 2.3, R25 to R31) and the curfew unit (Chapter 6): segments in
force, limits in force, next onsets, the curfew zone sets, the grants and the encore pool. -/

namespace Sys2Proof.Machine

/-! ## Segments (R28 to R31) -/

def SegmentKind.isCurfew : SegmentKind → Bool
  | .play => false
  | .curfew _ _ => true

/-- The segment with the greatest start not above the programme minute, in a list in start order; segment 0
while the minute is absent (R28). -/
def segmentAt (l : List Segment) (minute : Option Nat) : Segment :=
  match minute with
  | none => l.headD Segment.reset
  | some p => ((l.filter fun g => decide (g.start ≤ p)).getLast?).getD (l.headD Segment.reset)

/-- Whether a stage coupled to the zone holds a RUNNING grant (R30). -/
def Grant.isRunning : Grant → Bool
  | .running _ _ => true
  | _ => false

/-- Whether a stage's coupling to a zone is above 0. -/
def coupled (s : State) (st : StageId) (z : ZoneId) : Bool :=
  decide (0 < (s.stages.get st).record.coupling.get z)

def encoreRuns (s : State) (z : ZoneId) : Bool :=
  allStages.any fun st => coupled s st z && (s.curfew.get st).grant.isRunning

/-- Whether the limits in force of a zone are encore limits (R30, R192). -/
def encoreLimits (s : State) (z : ZoneId) : Bool :=
  (s.tables.get z).inForce.kind.isCurfew && encoreRuns s z

/-- The limits in force of a zone (R30). -/
def limitsInForce (s : State) (z : ZoneId) : Pair Nat :=
  let g := (s.tables.get z).inForce
  match g.kind with
  | .play => ⟨g.broad, g.low⟩
  | .curfew eb el => if encoreRuns s z then ⟨eb, el⟩ else ⟨g.broad, g.low⟩

/-- The onset minutes due of a list: the starts above `p` of CURFEW segments that follow a PLAY segment
(R31). -/
def onsetsAfter (p : Nat) : List Segment → List Nat
  | a :: b :: rest =>
    (if !a.kind.isCurfew && b.kind.isCurfew && decide (p < b.start) then [b.start] else []) ++
      onsetsAfter p (b :: rest)
  | _ => []

/-- The least of a list, if it has any. -/
def least : List Nat → Option Nat
  | [] => none
  | a :: l => match least l with
    | none => some a
    | some b => some (min a b)

/-- A stage's next onset (R31). -/
def nextOnset (s : State) (st : StageId) : Option Nat :=
  match s.minute with
  | none => none
  | some p => least ((allZones.filter (reaches s st)).flatMap fun z => onsetsAfter p (s.tables.get z).segments)

/-- Minutes left to a stage's next onset (R31). -/
def minutesLeft (s : State) (st : StageId) : Option Nat :=
  match nextOnset s st, s.minute with
  | some m, some p => some (m - p)
  | _, _ => none

/-- Seconds left to a stage's next onset (R31). -/
def onsetSeconds (s : State) (st : StageId) : Option Nat :=
  match nextOnset s st, s.minute with
  | some m, some p => some (60 * m - 60 * p - s.timeBase.timeOfDay % 60)
  | _, _ => none

/-! ## Grants (R113, R118, R121, R122) -/

/-- The seconds left of a RUNNING grant, 0 otherwise (R113). -/
def secondsLeft (s : State) (st : StageId) : Nat :=
  match (s.curfew.get st).grant with
  | .running _ e => tagDistance e s.timeBase.tag
  | _ => 0

def Grant.minutes : Grant → Nat
  | .none => 0
  | .booked m => m
  | .running m _ => m

/-- A grant that has ended (R121). -/
def Curfew.endGrant (c : Curfew) : Curfew := { c with grant := .none, endSoon := false }

/-- The end-soon test of R122. -/
def State.endSoonTest (st : StageId) (s : State) : State :=
  let c := s.curfew.get st
  if c.grant.isRunning && decide (secondsLeft s st ≤ 60) && !c.endSoon then
    (s.onCurfew st fun c => { c with endSoon := true }).raiseDesk st .encoreEndSoon
  else s

/-- CURFEW is added to a stage's reasons and CURFEW_NOW raised on its desk link (R115, R121). -/
def State.curfewFalls (st : StageId) (s : State) : State :=
  (s.changeStage st (Stage.addCurfew s.now)).raiseDesk st .curfewNow

/-- A RUNNING grant ends while its stage is in curfew: at its end point, at ENCORE END and at END SHOW
(R121, R126). -/
def State.endGrantInCurfew (st : StageId) (s : State) : State :=
  ((s.onCurfew st Curfew.endGrant).curfewFalls st).raiseOfficer .encore

/-- Minutes return to the pool and leave the stage total (R118). -/
def State.returnMinutes (st : StageId) (m : Nat) (s : State) : State :=
  ({ s with pool := min Config.maxPool (s.pool + m) } : State).onCurfew st
    fun c => { c with total := c.total - m }

/-- A stage's own onset (R115). -/
def State.stageOnset (st : StageId) (s : State) : State :=
  let tag := s.timeBase.tag
  let s := s.onCurfew st fun c => { c with onsetTag := some tag }
  match (s.curfew.get st).grant with
  | .none => s.curfewFalls st
  | .booked m =>
    ((s.onCurfew st fun c => { c with grant := .running m (tagPlus tag (60 * m)) }).endSoonTest
      st).raiseOfficer .encore
  | .running _ _ => s

/-- A stage's own curfew end (R116). -/
def State.stageCurfewEnd (st : StageId) (s : State) : State :=
  let runs := (s.curfew.get st).grant.isRunning
  let s := s.onCurfew st fun c =>
    { (if runs then c.endGrant else c) with onsetTag := none }
  (s.changeStage st (Stage.dropCurfew s.now)).raiseOfficerIf runs .encore

/-! ## Curfew zone sets (R114) -/

def noZone (b : Bank8 Bool) : Bool := !(b.i0 || b.i1 || b.i2 || b.i3 || b.i4 || b.i5 || b.i6 || b.i7)

/-- A zone joins a stage's curfew zone set; a set that was empty makes this the stage's onset (R114). -/
def State.zoneJoins (z : ZoneId) (st : StageId) (s : State) : State :=
  let old := (s.curfew.get st).zones
  let s := s.onCurfew st fun c => { c with zones := c.zones.set z true }
  if noZone old then s.stageOnset st else s

/-- A zone leaves a stage's curfew zone set; a set that becomes empty makes this the stage's curfew end
(R114). -/
def State.zoneLeaves (z : ZoneId) (st : StageId) (s : State) : State :=
  let old := (s.curfew.get st).zones
  let s := s.onCurfew st fun c => { c with zones := c.zones.set z false }
  if !noZone old && noZone (old.set z false) then s.stageCurfewEnd st else s

/-- A curfew onset of a zone (R114): it joins the set of every stage where it is enabled and coupled. -/
def State.zoneOnset (z : ZoneId) (s : State) : State :=
  s.eachStage fun st s => if reaches s st z then s.zoneJoins z st else s

/-- A curfew end or a disabling of a zone (R114): it leaves every set that holds it. -/
def State.zoneEnd (z : ZoneId) (s : State) : State := s.eachStage fun st s => s.zoneLeaves z st

/-! ## What a recomputed next onset brings about (R117, R122) -/

/-- The CURFEW_SOON test (R117). -/
def State.soonTest (st : StageId) (s : State) : State :=
  match nextOnset s st, minutesLeft s st with
  | some m, some left =>
    if decide (left ≤ (s.stages.get st).record.lead) && decide ((s.curfew.get st).soonMinute ≠ some m) then
      (s.onCurfew st fun c => { c with soonMinute := some m }).raiseDesk st .curfewSoon
    else s
  | _, _ => s

/-- Whether a zone that is enabled and coupled to the stage has a CURFEW segment in force at the present
programme minute, read directly from its list (R122). -/
def curfewAtMinute (s : State) (st : StageId) : Bool :=
  allZones.any fun z =>
    reaches s st z && (segmentAt (s.tables.get z).segments s.minute).kind.isCurfew

/-- Whether a booking has lost its onset (R122). -/
def onsetLost (s : State) (st : StageId) : Bool :=
  !curfewAtMinute s st &&
    match onsetSeconds s st with
    | none => true
    | some n => decide (Config.bookWindow < n)

/-- The cancelling of a booking that has lost its onset (R122). -/
def State.bookingTest (st : StageId) (s : State) : State :=
  match (s.curfew.get st).grant with
  | .booked m =>
    if onsetLost s st then
      ((s.onCurfew st Curfew.endGrant).returnMinutes st m).raiseOfficer .encore
    else s
  | _ => s

/-- Every stage's next onset is recomputed (R31). -/
def State.recomputeOnsets (s : State) : State :=
  s.eachStage fun st s => (s.bookingTest st).soonTest st

/-! ## Re-evaluation of a table (R28, R29) -/

/-- A schedule table re-evaluates its segment in force, with the onset or end that follows. -/
def State.reevaluate (z : ZoneId) (s : State) : State :=
  let t := s.tables.get z
  let new := segmentAt t.segments s.minute
  let s := s.onTable z fun t => { t with inForce := new }
  let s :=
    match t.inForce.kind.isCurfew, new.kind.isCurfew with
    | false, true => s.zoneOnset z
    | true, false => s.zoneEnd z
    | _, _ => s
  s.recomputeOnsets

/-! ## The curfew unit at a second mark (R122) -/

/-- The new tag at one stage: the grant's end point, or the end-soon test. -/
def State.grantMark (st : StageId) (s : State) : State :=
  match (s.curfew.get st).grant with
  | .running _ e => if s.timeBase.tag = e then s.endGrantInCurfew st else s.endSoonTest st
  | _ => s

def State.grantMarks (s : State) : State := s.eachStage State.grantMark

/-! ## Encore requests (R119 to R123) -/

/-- The outcomes of a request that a block may refuse; the codes of R162. -/
inductive ReplyCode where
  | ok
  | unknownKind
  | forbidden
  | badValue
  | noSuch
  | full
  | duplicate
  | showLock
  | notNow
  | sourceAbsent
  | poolShort
  | outsideWindow
  | limitReached
  | zoneOver
deriving DecidableEq, Repr

def ReplyCode.value : ReplyCode → Nat
  | .ok => 0x00
  | .unknownKind => 0x01
  | .forbidden => 0x02
  | .badValue => 0x03
  | .noSuch => 0x04
  | .full => 0x05
  | .duplicate => 0x06
  | .showLock => 0x07
  | .notNow => 0x08
  | .sourceAbsent => 0x09
  | .poolShort => 0x0A
  | .outsideWindow => 0x0B
  | .limitReached => 0x0C
  | .zoneOver => 0x0D

/-- The three cases of the encore window (R119). -/
inductive EncoreCase where
  | before
  | late
  | extension
deriving DecidableEq, Repr

/-- The window check (R119). -/
def encoreWindow (s : State) (st : StageId) : Option EncoreCase :=
  let c := s.curfew.get st
  let booking := noZone c.zones && !c.grant.isRunning &&
    match onsetSeconds s st with
    | none => false
    | some n => decide (1 ≤ n) && decide (n ≤ Config.bookWindow)
  let late := (s.stages.get st).reasons.curfew &&
    match c.onsetTag with
    | none => false
    | some t => decide (tagDistance s.timeBase.tag t ≤ Config.lateWindow)
  if c.grant.isRunning then some .extension
  else if booking then some .before
  else if late then some .late
  else none

/-- Whether a zone that is enabled and coupled to the stage has a metric in OVER (R120). -/
def coupledOver (s : State) (st : StageId) : Bool :=
  allZones.any fun z => reaches s st z &&
    (decide ((s.zones.get z).conditions.broad = .over) || decide ((s.zones.get z).conditions.low = .over))

/-- The judgement of an encore request for `m` minutes, already clamped: a refusal, or the case and the
minutes to grant (R119, R120). -/
def judgeEncore (s : State) (st : StageId) (m : Nat) : ReplyCode ⊕ (EncoreCase × Nat) :=
  match encoreWindow s st with
  | none => .inl .outsideWindow
  | some w =>
    let total := (s.curfew.get st).total
    if Config.maxTotal ≤ total then .inl .limitReached
    else if coupledOver s st then .inl .zoneOver
    else if s.pool = 0 then .inl .poolShort
    else
      let g := min (min m (Config.maxTotal - total)) s.pool
      match w with
      | .extension =>
        let g := min g ((Config.maxSecondsLeft - secondsLeft s st) / 60)
        if g = 0 then .inl .limitReached else .inr (w, g)
      | _ => .inr (w, g)

/-- The minutes a grant draws (R120). -/
def State.drawMinutes (st : StageId) (g : Nat) (s : State) : State :=
  ({ s with pool := s.pool - g } : State).onCurfew st fun c => { c with total := c.total + g }

/-- A grant starts, a booking grows or a running grant is extended (R121). -/
def State.startGrant (st : StageId) (w : EncoreCase) (g : Nat) (s : State) : State :=
  let tag := s.timeBase.tag
  match w with
  | .before =>
    (s.onCurfew st fun c => { c with grant := .booked (c.grant.minutes + g) }).raiseOfficer .encore
  | .late =>
    let s := s.onCurfew st fun c => { c with grant := .running g (tagPlus tag (60 * g)) }
    ((s.changeStage st (Stage.dropCurfew s.now)).endSoonTest st).raiseOfficer .encore
  | .extension =>
    let s := s.onCurfew st fun c =>
      match c.grant with
      | .running m e =>
        let e' := tagPlus e (60 * g)
        { c with
          grant := .running (m + g) e'
          endSoon := c.endSoon && decide (tagDistance e' tag ≤ 60) }
      | _ => c
    (s.endSoonTest st).raiseOfficer .encore

/-- ENCORE at the curfew unit: the outcome, the minutes granted and the state (R119 to R121). -/
def State.serveEncoreAsk (st : StageId) (m : Nat) (s : State) : ReplyCode × Nat × State :=
  match judgeEncore s st m with
  | .inl c => (c, 0, s)
  | .inr (w, g) => (.ok, g, (s.drawMinutes st g).startGrant st w g)

/-- ENCORE END at the curfew unit: the outcome, the minutes returned and the state (R123). -/
def State.serveEncoreEnd (st : StageId) (s : State) : ReplyCode × Nat × State :=
  match (s.curfew.get st).grant with
  | .none => (.notNow, 0, s)
  | .booked m => (.ok, m, ((s.returnMinutes st m).onCurfew st Curfew.endGrant).raiseOfficer .encore)
  | .running _ _ =>
    let m := secondsLeft s st / 60
    (.ok, m, (s.returnMinutes st m).endGrantInCurfew st)

/-- SET POOL at the curfew unit (R118). -/
def State.writePool (m : Nat) (s : State) : State :=
  { s with
    pool := min Config.maxPool m
    curfew := s.curfew.map fun c => { c with total := 0 } }

/-- END SHOW at one stage's grant (R126). -/
def State.endShowGrant (st : StageId) (s : State) : State :=
  match (s.curfew.get st).grant with
  | .none => s
  | .booked _ => (s.onCurfew st Curfew.endGrant).raiseOfficer .encore
  | .running _ _ => s.endGrantInCurfew st

/-- How many grants there are to end (R189). -/
def grantCount (s : State) : Nat :=
  (allStages.filter fun st => decide ((s.curfew.get st).grant ≠ .none)).length

/-! ## RESTART (R126) -/

/-- The curfew unit's items at the start of a show: the set and the onset tag kept. -/
def Curfew.restart (c : Curfew) : Curfew :=
  { c with grant := .none, endSoon := false, total := 0, soonMinute := none }

end Sys2Proof.Machine
end

