-- ==== Sys2Proof/Machine/Records.lean ====
section
/-! DEFINITION. The exceedance list (Chapter 8): close reports, disable reports, openings, updates, closings
and removals. -/

namespace Sys2Proof.Machine

/-- The four pairs of metric and kind of a zone, in the order of R146. -/
def recordPairs : List (Metric × RecordKind) :=
  [(.broad, .rolling), (.broad, .fast), (.low, .rolling), (.low, .fast)]

def Exceedance.isOpen (r : Exceedance) : Bool := r.cause.isNone

/-- Whether a record is the open one of a zone, metric and kind. -/
def Exceedance.isFor (z : ZoneId) (p : Metric × RecordKind) (r : Exceedance) : Bool :=
  r.isOpen && decide (r.zone = z) && decide (r.metric = p.1) && decide (r.kind = p.2)

/-- Whether a pair is active after a close (R146). -/
def CloseReport.active (c : CloseReport) (p : Metric × RecordKind) : Bool :=
  match p.2 with
  | .rolling => decide (c.conditions.get p.1 = .over)
  | .fast => c.fast.get p.1

/-- The level that enters a record's peak (R147, R148). -/
def CloseReport.level (c : CloseReport) (p : Metric × RecordKind) : Nat :=
  match p.2 with
  | .rolling => c.rolling.get p.1
  | .fast => c.closing.get p.1

/-- The stages whose applied attenuation stands above 0 (R147). -/
def attenuated (s : State) : Bank4 Bool := s.stages.map fun g => decide (0 < g.applied)

def unionStages (a b : Bank4 Bool) : Bank4 Bool :=
  ⟨a.i0 || b.i0, a.i1 || b.i1, a.i2 || b.i2, a.i3 || b.i3⟩

/-- A record updated by a counted close (R148). -/
def Exceedance.update (c : CloseReport) (stages : Bank4 Bool) (r : Exceedance) : Exceedance :=
  { r with
    duration := min 65535 (r.duration + 1)
    substituted := min 65535 (r.substituted + if c.substituted then 1 else 0)
    peakLevel := max r.peakLevel (c.level (r.metric, r.kind))
    peakDemand := max r.peakDemand c.demand
    stages := unionStages r.stages stages }

/-- A record closed with a cause at a programme minute (R149, R150). -/
def Exceedance.close (minute : Option Nat) (cause : CloseCause) (r : Exceedance) : Exceedance :=
  { r with endMinute := minute, cause := some cause }

/-- A record as an opening makes it (R147). -/
def openedRecord (number : Nat) (c : CloseReport) (stages : Bank4 Bool) (p : Metric × RecordKind) :
    Exceedance where
  number := number
  zone := c.zone
  metric := p.1
  kind := p.2
  startTag := c.tag
  startMinute := c.minute
  limitAtOpen := c.limits.get p.1
  duration := 1
  substituted := if c.substituted then 1 else 0
  peakLevel := c.level p
  peakDemand := c.demand
  stages := stages
  endMinute := none
  cause := none

/-- Room made for an opening: at a full list the oldest closed record leaves (R151). -/
def makeRoom (l : List Exceedance) : List Exceedance :=
  if Config.recordList ≤ l.length then l.eraseP fun r => !r.isOpen else l

/-- The records of a list updated or closed by a report at one pair (R146, R148, R149). -/
def takePair (c : CloseReport) (stages : Bank4 Bool) (p : Metric × RecordKind) (l : List Exceedance) :
    List Exceedance :=
  l.map fun r =>
    if r.isFor c.zone p then
      if c.active p then r.update c stages else r.close c.minute .cleared
    else r

/-- Whether a report closes the record of a pair. -/
def closesPair (c : CloseReport) (p : Metric × RecordKind) (l : List Exceedance) : Bool :=
  !c.active p && l.any (Exceedance.isFor c.zone p)

/-- One pair's opening (R147, R151): appended as the newest entry, its number from the counter. -/
def State.openPair (c : CloseReport) (stages : Bank4 Bool) (p : Metric × RecordKind) (s : State) : State :=
  let l := s.exceedances.records
  if c.active p && !l.any (Exceedance.isFor c.zone p) then
    let n := s.exceedances.counter
    let full := decide (Config.recordList ≤ l.length)
    let s : State := { s with
      exceedances := ⟨makeRoom l ++ [openedRecord n c stages p], (n + 1) % 65536⟩ }
    (s.raiseOfficerIf full .discard).raiseOfficer .recordOpened
  else s

/-- One pair's update or closing (R146, R148, R149). -/
def State.servePair (c : CloseReport) (stages : Bank4 Bool) (p : Metric × RecordKind) (s : State) : State :=
  let closes := closesPair c p s.exceedances.records
  ({ s with
    exceedances := { s.exceedances with records := takePair c stages p s.exceedances.records } } :
      State).raiseOfficerIf closes .recordClosed

/-- The list takes a close report whole, the stages it reads as attenuated being `stages`: the open records first, then
the openings, each in the order of the pairs (R146). This holds for every report: a zone's first close after a RESTART
closes a record left open by an overtaken report where it shows the pair not active, as R155 expects, and updates that
record where R79 or R80 has made the pair active again (DEDUCED, log entry 47). -/
def State.takeReportSeeing (stages : Bank4 Bool) (c : CloseReport) (s : State) : State :=
  let s := recordPairs.foldl (fun s p => s.servePair c stages p) s
  recordPairs.foldl (fun s p => s.openPair c stages p) s

/-- The list takes a close report (R146): it reads the applied attenuations as they stand (R147). -/
def State.takeReport (c : CloseReport) (s : State) : State := s.takeReportSeeing (attenuated s) c

/-- The list takes a close report from a zone and the report is kept as the zone's last, behind those of the others,
until the officer link's next message begins (log entry 40). -/
def State.takeSent (c : CloseReport) (s : State) : State :=
  let t := s.takeReport c
  { t with
    reports := s.reports.filter (fun r => decide (r.report.zone ≠ c.zone)) ++
      [⟨s.now, c, tagDistance t.exceedances.counter s.exceedances.counter, attenuated s⟩] }

/-- The reports of a zone that is disabled are forgotten (log entry 40): R155 speaks of enabled zones. -/
def State.forgetReports (z : ZoneId) (s : State) : State :=
  { s with reports := s.reports.filter fun r => decide (r.report.zone ≠ z) }

/-! ## RESTART (R155) -/

/-- The reports that a RESTART overtakes: of the present moment, with no message begun on the officer link since, from
zones a resolution names (R155, log entry 40). -/
def State.overtaken (o : Interleaving) (s : State) : List SentReport :=
  s.reports.filter fun r => decide (r.moment = s.now) && o.overtaken.get r.report.zone

/-- The list emptied by a RESTART, the counter kept: the openings of an overtaken report have not been (R155). -/
def State.emptyList (overtaken : List SentReport) (s : State) : State :=
  { s with
    exceedances := ⟨[], tagDistance s.exceedances.counter (overtaken.map SentReport.opened).sum⟩
    reports := [] }

/-- The overtaken reports are taken against the empty list (R155). A stage that has taken its own reset by then is
read as attenuated, since its applied attenuation is 96 (R112, R147). -/
def State.takeOvertaken (o : Interleaving) (overtaken : List SentReport) (s : State) : State :=
  overtaken.foldl
    (fun s r => s.takeReportSeeing (unionStages r.seen (o.resetSeen.get r.report.zone)) r.report) s

/-- A disable report closes every record open for the zone (R150). -/
def State.disableReport (z : ZoneId) (s : State) : State :=
  let hits := s.exceedances.records.any fun r => r.isOpen && decide (r.zone = z)
  let minute := s.minute
  ({ s with
    exceedances := { s.exceedances with
      records := s.exceedances.records.map fun r =>
        if r.isOpen && decide (r.zone = z) then r.close minute .disabled else r } } :
      State).raiseOfficerIf hits .recordClosed

/-- How many records are open. -/
def RecordList.openCount (l : RecordList) : Nat := (l.records.filter Exceedance.isOpen).length

/-- CLEAR CLOSED: the open records stay in their order, the counter is kept (R154). -/
def State.clearClosedRecords (s : State) : State :=
  { s with exceedances := { s.exceedances with records := s.exceedances.records.filter Exceedance.isOpen } }

end Sys2Proof.Machine
end

