-- ==== Sys2Proof/Machine/Zone.lean ====
section
/-! DEFINITION. The zone accounts (Chapter 4): closing levels, rings, levels, conditions, demand, the close
with its handoffs, the closing deadline, the verdict on a record, enabling and disabling. -/

namespace Sys2Proof.Machine

/-! ## Closing levels (R67 to R69) -/

/-- A record that closes its second measured (R67). -/
def usable (r : MeasurementRecord) : Bool := !r.wind && !r.cal

/-- The closing levels of a measured second (R67). -/
def measuredLevels (r : MeasurementRecord) : Pair Nat :=
  if r.overload then ⟨1300, 1300⟩ else ⟨clampLevel r.broadRaw, clampLevel r.lowRaw⟩

/-- What a close finds first: the closing levels, the missing-run count, the hold levels and whether the
second is substituted (R67, R68). -/
structure Closing where
  levels : Pair Nat
  missingRun : Nat
  hold : Option (Pair Nat)
  substituted : Bool
deriving DecidableEq, Repr

/-- The closing of a second with a record, or at its deadline (R67, R68). -/
def Zone.closing (zn : Zone) (rec : Option MeasurementRecord) : Closing :=
  let substitute : Closing :=
    let run := min 255 (zn.missingRun + 1)
    ⟨if run ≤ 2 then zn.hold.getD zn.config.fallback else zn.config.fallback, run, zn.hold, true⟩
  match rec with
  | none => substitute
  | some r => if usable r then ⟨measuredLevels r, 0, some (measuredLevels r), false⟩ else substitute

/-- The feed state of an enabled zone (R69). -/
def feedOf (missingRun : Nat) : FeedState :=
  if missingRun = 0 then .fed else if missingRun ≤ 2 then .holding else .fallback

/-! ## Rings (R70 to R72) -/

/-- A second ring with a new entry: the newest ten (R70). -/
def pushSecond (l : List Nat) (e : Nat) : List Nat :=
  (if Config.secondRing ≤ l.length then l.drop (l.length + 1 - Config.secondRing) else l) ++ [e]

/-- Whether a closing second opens a new slot (R71). -/
def opensSlot (l : List MinuteSlot) (minute : Option Nat) : Bool :=
  match l.getLast? with
  | none => true
  | some m => decide (m.minute ≠ minute) || decide (60 ≤ m.counted)

/-- A slot with one second more (R71). -/
def MinuteSlot.add (energies : Pair Nat) (substituted : Bool) (m : MinuteSlot) : MinuteSlot :=
  { m with
    sums := ⟨m.sums.broad + energies.broad, m.sums.low + energies.low⟩
    counted := m.counted + 1
    substituted := m.substituted + if substituted then 1 else 0 }

/-- The minute ring after a closing second entered it (R71). -/
def pushMinute (l : List MinuteSlot) (minute : Option Nat) (energies : Pair Nat) (substituted : Bool) :
    List MinuteSlot :=
  if opensSlot l minute then
    (if Config.minuteRing ≤ l.length then l.drop (l.length + 1 - Config.minuteRing) else l) ++
      [({ minute := minute, sums := ⟨0, 0⟩, counted := 0, substituted := 0 } : MinuteSlot).add energies
        substituted]
  else
    match l.getLast? with
    | none => l
    | some m => l.dropLast ++ [m.add energies substituted]

/-- The newest min(W, slots held) slots (R72). -/
def windowSlots (w : Nat) (l : List MinuteSlot) : List MinuteSlot := l.drop (l.length - w)

/-- The rolling level of one metric (R72). -/
def rollingLevel (w : Nat) (l : List MinuteSlot) (m : Metric) : Nat :=
  let n := windowSlots w l
  levelOfSum (n.map fun t => t.sums.get m).sum (n.map MinuteSlot.counted).sum

/-- The seconds substituted among the slots the rolling level is formed over (R72, R83). -/
def windowSubstituted (w : Nat) (l : List MinuteSlot) : Nat :=
  ((windowSlots w l).map MinuteSlot.substituted).sum

/-! ## Demand (R73 to R77) -/

/-- The target short level of one metric (R73). -/
def targetLevel (limit guardBand rolling : Nat) : Int :=
  let e : Int := rolling - ((limit : Int) - guardBand)
  if e ≤ 0 then limit else max ((limit : Int) - 2 * e) ((limit : Int) - 100)

/-- The error of one metric (R74). -/
def levelError (cfg : ZoneConfig) (limit : Nat) (v : MetricLevels) : Int :=
  (v.short : Int) - targetLevel limit cfg.guardBand v.rolling

/-- The fast excess of one metric (R74). -/
def fastExcess (cfg : ZoneConfig) (limit : Nat) (v : MetricLevels) : Int :=
  (v.closing : Int) - ((limit : Int) + cfg.fastMargin)

/-- The branches of the demand controller (R75). -/
inductive DemandBranch where
  | fast
  | attack
  | release
  | hold
deriving DecidableEq, Repr

/-- The branch a close takes (R75). -/
def demandBranch (cfg : ZoneConfig) (isFast : Bool) (x : Int) (expired : Bool) : DemandBranch :=
  if isFast then .fast
  else if 0 < x && expired then .attack
  else if x < -(cfg.releaseMargin : Int) then .release
  else .hold

/-- What the demand controller leaves: demand, settle timer and release count (R75 to R77). -/
structure Steering where
  demand : Nat
  settle : Option Nat
  releaseCount : Nat
deriving DecidableEq, Repr

def steer (cfg : ZoneConfig) (now : Nat) (x : Int) (b : DemandBranch) (v : Steering) : Steering :=
  let due := some (now + Config.second * cfg.settlePeriod)
  match b with
  | .fast => ⟨min 96 (v.demand + cfg.fastStep), due, 0⟩
  | .attack => ⟨min 96 (v.demand + min cfg.attackCap (ceilDiv x.toNat 5)), due, 0⟩
  | .release =>
    if cfg.releaseInterval ≤ v.releaseCount + 1 then ⟨min 96 (v.demand - 1), v.settle, 0⟩
    else ⟨min 96 v.demand, v.settle, v.releaseCount + 1⟩
  | .hold => ⟨min 96 v.demand, v.settle, 0⟩

/-! ## Conditions (R79, R80, R84) -/

/-- The condition after a close (R79). -/
def nextCondition (cfg : ZoneConfig) (limit rolling : Nat) (c : Condition) : Condition :=
  let r : Int := rolling
  if (limit : Int) < r then .over
  else if decide (c = .over) && decide ((limit : Int) - cfg.hysteresis < r) then .over
  else if (limit : Int) - cfg.warnMargin < r then .near
  else .clear

/-- The FAST flag after a close (R80). -/
def nextFast (excess : Int) (f : FastFlag) : FastFlag :=
  if 0 < excess then ⟨true, 0⟩
  else if f.isSet then (if 2 ≤ f.quiet then ⟨false, 0⟩ else ⟨true, f.quiet + 1⟩)
  else ⟨false, 0⟩

def Condition.rank : Condition → Nat
  | .clear => 0
  | .near => 1
  | .over => 2

/-- The worse of two conditions, OVER above NEAR above CLEAR (R84). -/
def worse (a b : Condition) : Condition := if a.rank < b.rank then b else a

/-- The snapshot of one metric after a close (R84). -/
def nextSnapshot (before after : Condition) (excess : Int) (n : Snapshot) : Snapshot :=
  ⟨if after = before then n.worst else worse n.worst after, n.fastSeen || decide (0 < excess)⟩

/-! ## The close of one account (R66) -/

/-- The account after its close (R66, stages 1 to 6), for the limits in force. -/
def Zone.close (now : Nat) (limits : Pair Nat) (aw : Awaiting) (rec : Option MeasurementRecord) (zn : Zone) :
    Zone :=
  let cfg := zn.config
  let c := zn.closing rec
  let energies : Pair Nat := c.levels.map fun (l : Nat) => levelToEnergy (l : Int)
  let seconds := zn.seconds.zip pushSecond energies
  let slots := pushMinute zn.slots aw.minute energies c.substituted
  let levelsOf (m : Metric) : MetricLevels :=
    ⟨c.levels.get m, levelOfList (seconds.get m), rollingLevel cfg.window slots m⟩
  let levels : Pair MetricLevels := ⟨levelsOf .broad, levelsOf .low⟩
  let excess : Pair Int := limits.zip (fastExcess cfg) levels
  let errors : Pair Int := limits.zip (levelError cfg) levels
  let x := max errors.broad errors.low
  let conditions : Pair Condition :=
    ⟨nextCondition cfg limits.broad levels.broad.rolling zn.conditions.broad,
      nextCondition cfg limits.low levels.low.rolling zn.conditions.low⟩
  let fast := excess.zip nextFast zn.fast
  let isFast := decide (0 < excess.broad) || decide (0 < excess.low)
  let steering := steer cfg now x (demandBranch cfg isFast x zn.settle.isNone)
    ⟨zn.demand, zn.settle, zn.releaseCount⟩
  { zn with
    feed := feedOf c.missingRun
    awaiting := some { aw with isOpen := false }
    missingRun := c.missingRun
    hold := c.hold
    seconds := seconds
    slots := slots
    levels := some levels
    conditions := conditions
    fast := fast
    demand := steering.demand
    settle := steering.settle
    releaseCount := steering.releaseCount
    snapshot :=
      ⟨nextSnapshot zn.conditions.broad conditions.broad excess.broad zn.snapshot.broad,
        nextSnapshot zn.conditions.low conditions.low excess.low zn.snapshot.low⟩ }

/-- The close report of an account that has closed (R82). -/
def closeReport (z : ZoneId) (limits : Pair Nat) (aw : Awaiting) (substituted : Bool) (zn : Zone) :
    CloseReport :=
  let l := zn.levels.getD (Pair.both ⟨0, 0, 0⟩)
  { zone := z
    tag := aw.tag
    minute := aw.minute
    substituted := substituted
    demand := zn.demand
    limits := limits
    rolling := l.map MetricLevels.rolling
    closing := l.map MetricLevels.closing
    conditions := zn.conditions
    fast := zn.fast.map FastFlag.isSet }

/-- A change of a condition to NEAR or to OVER (R81). -/
def entersNear (before after : Condition) : Bool := decide (after ≠ before) && decide (after ≠ .clear)

/-- The notices of a close (R69, R81). -/
def State.closeNotices (z : ZoneId) (old new : Zone) (s : State) : State :=
  let changed := decide (old.conditions ≠ new.conditions) ||
    decide (old.fast.map FastFlag.isSet ≠ new.fast.map FastFlag.isSet)
  let near := entersNear old.conditions.broad new.conditions.broad ||
    entersNear old.conditions.low new.conditions.low
  ((s.raiseOfficerIf (decide (old.feed ≠ new.feed)) .feedChange).raiseOfficerIf changed
    .zoneChange).eachStage fun st s => s.raiseDeskIf (near && coupled s st z) st .levelNear

/-- A close's handoff to some stages, those of them coupled to the zone, where its demand has changed or it has gone
into or out of FALLBACK (R69, R78). -/
def State.closeToStages (z : ZoneId) (which : Bank4 Bool) (old new : Zone) (s : State) : State :=
  if decide (old.demand ≠ new.demand) ||
      decide (decide (old.feed = .fallback) ≠ decide (new.feed = .fallback)) then
    s.recomputeCoupled z which
  else s

/-- An enabled zone closes its awaiting second, with a record or at its deadline, and hands the results on
(R66). `reportFirst` names the stages that take the demand after the exceedance list has taken its report; the others
take it before (log entry 5). -/
def State.closeZone (z : ZoneId) (reportFirst : Bank4 Bool) (aw : Awaiting) (rec : Option MeasurementRecord)
    (s : State) : State :=
  let old := s.zones.get z
  let limits := limitsInForce s z
  let new := old.close s.now limits aw rec
  let report := closeReport z limits aw (old.closing rec).substituted new
  let s := s.onZone z fun _ => new
  let s := s.closeToStages z (reportFirst.map not) old new
  let s := s.takeSent report
  let s := s.closeToStages z reportFirst old new
  s.closeNotices z old new

/-! ## The closing deadline (R63) -/

/-- An enabled zone's closing deadline at the mark that ends second `ended`, whose programme minute is
`minute`. -/
def State.closingDeadline (z : ZoneId) (reportFirst : Bank4 Bool) (ended : Nat) (minute : Option Nat)
    (s : State) : State :=
  let zn := s.zones.get z
  if zn.enabled then
    let s :=
      match zn.awaiting with
      | some aw => if aw.isOpen then s.closeZone z reportFirst aw none else s
      | none => s
    s.onZone z fun zn => { zn with awaiting := some ⟨ended, true, minute⟩ }
  else s

/-! ## The verdict on a record (R64) -/

inductive Verdict where
  | taken (aw : Awaiting)
  | late
  | misdated
  | unwanted
deriving DecidableEq, Repr

/-- The verdict of a zone account on a record, `running` being the tag of the second now running (R64). -/
def Zone.judge (running : Nat) (r : MeasurementRecord) (zn : Zone) : Verdict :=
  if !zn.enabled then .unwanted
  else
    match zn.awaiting with
    | some aw =>
      let d := tagDistance aw.tag r.tag
      if d = 0 then (if aw.isOpen then .taken aw else .late)
      else if d ≤ 32767 then .late
      else .misdated
    | none => if tagDistance (tagPlus running 65535) r.tag ≤ 32767 then .late else .misdated

/-! ## Enabling, disabling and RESTART (R59 to R61) -/

/-- The running state of a disabled zone (R58): the configuration and the snapshot kept. -/
def Zone.cleared (zn : Zone) : Zone :=
  { Zone.reset with config := zn.config, snapshot := zn.snapshot }

/-- The account right after its enabling (R59). -/
def Zone.enable (zn : Zone) : Zone := { zn.cleared with enabled := true, feed := .fed }

/-- The account of RESTART: an enabled zone as if just enabled, its snapshot reloaded (R61, R84). -/
def Zone.restart (zn : Zone) : Zone :=
  if zn.enabled then { zn.enable with snapshot := Zone.reset.snapshot } else zn

/-- ENABLE ZONE of a disabled zone (R59): the zone starts afresh, and the enabling is handed to the stages,
the curfew unit and the schedule. -/
def State.enableZoneNow (z : ZoneId) (s : State) : State :=
  let s := ((s.onZone z Zone.enable).raiseOfficer .feedChange).recomputeTargets
  let s := if (s.tables.get z).inForce.kind.isCurfew then s.zoneOnset z else s
  s.recomputeOnsets

/-- The disabling of a zone reaches one stage: the curfew unit's part and the unit's own new target, in either order
(R60, R114, log entry 5). -/
def State.stageLosesZone (z : ZoneId) (curfewFirst : Bool) (st : StageId) (s : State) : State :=
  if curfewFirst then (s.zoneLeaves z st).recomputeTarget st else (s.recomputeTarget st).zoneLeaves z st

/-- DISABLE ZONE of an enabled zone (R60). -/
def State.disableZoneNow (z : ZoneId) (s : State) : State :=
  let (o, s) := s.takeOrder
  let old := s.zones.get z
  let changed := decide (old.conditions ≠ ⟨.clear, .clear⟩) || old.fast.broad.isSet || old.fast.low.isSet
  let s := ((s.onZone z Zone.cleared).raiseOfficer .feedChange).raiseOfficerIf changed .zoneChange
  let s := (s.disableReport z).forgetReports z
  let s := s.eachStage fun st s => s.stageLosesZone z (o.curfewFirst.get st) st
  s.recomputeOnsets

/-- The snapshot reloaded with what the account holds now (R84). -/
def Zone.reloadSnapshot (zn : Zone) : Zone :=
  { zn with
    snapshot := ⟨⟨zn.conditions.broad, zn.fast.broad.isSet⟩, ⟨zn.conditions.low, zn.fast.low.isSet⟩⟩ }

end Sys2Proof.Machine
end

