-- ==== Sys2Proof/Machine/Loop.lean ====
section
/-! DEFINITION. The monitor loop controller (Chapter 3): the arbiter, attention scans, the judging of
replies, attempts and failures, stalls, and the slots' moves between their states. -/

namespace Sys2Proof.Machine

/-! ## What goes out on LDAT (R175) -/

/-- The loop address of a slot (R37). -/
def addressOf (a : SlotId) : Nat := a.val + 1

/-- The slot at a loop address, where the address lies in 1..8. -/
def slotAt (address : Nat) : Option SlotId :=
  if h : 1 ≤ address ∧ address ≤ 8 then some ⟨address - 1, by omega⟩ else none

def byteOf (n : Nat) : Byte := BitVec.ofNat 8 n

/-- A number in two bytes, most significant first (R169). -/
def bytes2 (n : Nat) : List Byte := [byteOf (n / 256), byteOf n]

/-- The sum of bytes modulo 256. -/
def byteSum (l : List Byte) : Byte := l.foldl (· + ·) 0#8

/-- Bytes followed by the check that makes their sum 0 modulo 256 (R160, R175). -/
def withCheck (l : List Byte) : List Byte := l ++ [0#8 - byteSum l]

/-- The request of a transaction (R175). -/
def Transaction.request : Transaction → List Byte
  | .identify a _ => withCheck [byteOf (addressOf a), 1#8]
  | .status a => withCheck [byteOf (addressOf a), 2#8]
  | .fetch a n => withCheck [byteOf (addressOf a), 3#8, byteOf n]
  | .mark tag => withCheck ([0#8, 4#8] ++ bytes2 tag)
  | .loopReset => withCheck [0#8, 5#8]

/-- The slot an addressed transaction is about. -/
def Transaction.slot : Transaction → Option SlotId
  | .identify a _ => some a
  | .status a => some a
  | .fetch a _ => some a
  | .mark _ => none
  | .loopReset => none

/-! ## Replies (R36, R175) -/

/-- A complete reply as its payload reads (R175). -/
inductive Reply where
  | identify (kindCode serial : Nat)
  | status (count : Nat) (health : Byte)
  | fetched (record : Option MeasurementRecord)
deriving DecidableEq, Repr

def word2 (hi lo : Byte) : Nat := hi.toNat * 256 + lo.toNat

/-- A measurement record from its seven bytes (R175). -/
def recordOfBytes (t1 t0 b1 b0 l1 l0 flags : Byte) : MeasurementRecord where
  tag := word2 t1 t0
  broadRaw := word2 b1 b0
  lowRaw := word2 l1 l0
  overload := flags.getLsbD 0
  wind := flags.getLsbD 1
  cal := flags.getLsbD 2

/-- The payload of a reply read by its length and first byte, absent where no transaction's reply has that
form (R175). -/
def replyOfPayload : List Byte → Option Reply
  | [k, s3, s2, s1, s0] => some (.identify k.toNat (word2 s3 s2 * 65536 + word2 s1 s0))
  | [c, h] => some (.status c.toNat h)
  | [e] => if e = 0#8 then some (.fetched none) else none
  | [m, t1, t0, b1, b0, l1, l0, f] =>
    if m = 1#8 then some (.fetched (some (recordOfBytes t1 t0 b1 b0 l1 l0 f))) else none
  | _ => none

/-- A complete frame read as a reply: its length byte, its payload and a check that makes the sum 0 modulo
256 (R36, R175). -/
def replyOfFrame (frame : List Byte) : Option Reply :=
  match frame with
  | [] => none
  | n :: rest =>
    if n.toNat + 1 = rest.length && byteSum frame == 0#8 then replyOfPayload rest.dropLast else none

/-- Whether a complete reply is accepted for a transaction: its length fits the transaction's kind and its
fields lie in range (R36). -/
def Transaction.accepts : Transaction → Reply → Bool
  | .identify _ _, .identify _ _ => true
  | .status _, .status c _ => decide (c ≤ 4)
  | .fetch _ _, .fetched none => true
  | .fetch _ _, .fetched (some r) => decide (r.broadRaw ≤ 1500) && decide (r.lowRaw ≤ 1500)
  | _, _ => false

/-! ## The arbiter (R43 to R47) -/

def Loop.slotState (k : Loop) (a : SlotId) : SlotState := (k.slots.get a).state

def Loop.onSlot (a : SlotId) (f : UnitSlot → UnitSlot) (k : Loop) : Loop :=
  { k with slots := k.slots.modify a f }

/-- A transaction begins: its request goes out on LDAT (R33, R175). -/
def Loop.begin (t : Transaction) (k : Loop) : Loop :=
  { k with flight := some ⟨t, false⟩, sent := t.request }

/-- The first candidate of class 4: IDENTIFY for SEEKING slots, then probes due, each in address order
(R43). -/
def Loop.identification (k : Loop) : Option Transaction :=
  match allSlots.find? fun a => decide (k.slotState a = .seeking) with
  | some a => some (.identify a false)
  | none =>
    match allSlots.find? fun a =>
      decide (k.slotState a = .lost) && decide ((k.slots.get a).reseek = .probeDue) with
    | some a => some (.identify a true)
    | none => none

/-- A candidate of class 4 begins. A probe's timer stops until the probe has been carried (R41). -/
def Loop.beginIdentification (t : Transaction) (k : Loop) : Loop :=
  match t with
  | .identify a true => (k.onSlot a fun u => { u with reseek := .stopped }).begin t
  | _ => k.begin t

/-- The first ACTIVE slot not before a position (R45). -/
def Loop.activeFrom (n : Nat) (k : Loop) : Option SlotId :=
  allSlots.find? fun a => decide (n ≤ a.val) && decide (k.slotState a = .active)

/-- Where a scan has its next work: at its current slot while that is ACTIVE and has work left, else STATUS
at the next ACTIVE slot; absent where the scan has passed address 8 (R45, R46). -/
def Loop.scanNext (c : Scan) (k : Loop) : Option (SlotId × ScanPhase) :=
  match c.phase with
  | .status => (k.activeFrom c.slot).map fun a => (a, .status)
  | .fetch remaining _ =>
    match k.activeFrom c.slot with
    | some a =>
      if a.val = c.slot && decide (0 < remaining) then some (a, c.phase)
      else (k.activeFrom (c.slot + 1)).map fun a => (a, .status)
    | none => none

/-- A scan's transaction begins. A new FETCH takes the slot's next fetch number, a repeat the number that
failed (R46). -/
def Loop.beginScan (a : SlotId) (p : ScanPhase) (k : Loop) : Loop :=
  match p with
  | .status => { k with scan := some ⟨a.val, .status⟩ }.begin (.status a)
  | .fetch remaining (some n) => { k with scan := some ⟨a.val, .fetch remaining none⟩ }.begin (.fetch a n)
  | .fetch remaining none =>
    let n := (k.slots.get a).nextFetch
    ({ k with scan := some ⟨a.val, .fetch remaining none⟩ }.onSlot a
      fun u => { u with nextFetch := (n + 1) % 256 }).begin (.fetch a n)

/-- Class 4 has its turn (R43). -/
def Loop.serveIdentification (k : Loop) : Loop :=
  match k.identification with
  | some t => k.beginIdentification t
  | none => k

/-- A follow-on scan (R47): it stands at the first ACTIVE slot, or, where identification work is waiting, it starts
behind one identification transaction. -/
def Loop.followOn (a : SlotId) (k : Loop) : Loop :=
  if k.identification.isSome then { k with scan := some ⟨0, .status⟩, identifyFirst := true }
  else { k with scan := some ⟨a.val, .status⟩ }

/-- A scan has passed address 8 and ends; a follow-on scan starts where a unit still holds LATN and a slot is ACTIVE
(R45, R47). -/
def Loop.endScan (k : Loop) : Loop :=
  let k := { k with scan := none }
  match k.latn, k.activeFrom 0 with
  | true, some a => k.followOn a
  | _, _ => k

/-- A scan works out where it stands: it passes on to its next work, or ends (R45 to R47). The scan behind an
identification transaction waits for it, unless no identification work is left. This is done as soon as the loop is
free, before any transaction that goes before the scan's (log entry 15). -/
def Loop.settleScan (k : Loop) : Loop :=
  match k.scan with
  | none => k
  | some c =>
    if k.identifyFirst && k.identification.isSome then k
    else
      let k := { k with identifyFirst := false }
      match k.scanNext c with
      | some (a, p) => { k with scan := some ⟨a.val, p⟩ }
      | none => k.endScan

/-- Class 3 has its turn (R43): the scan's next transaction, or the identification transaction that a follow-on scan
lets go before it (R47). -/
def Loop.serveScan (c : Scan) (k : Loop) : Loop :=
  if k.identifyFirst then ({ k with identifyFirst := false } : Loop).serveIdentification
  else
    match k.scanNext c with
    | some (a, p) => k.beginScan a p
    | none => k

/-- The choice among the classes, with the loop free and the scan's position worked out (R43). -/
def Loop.choose (k : Loop) : Loop :=
  match k.pendingMark with
  | some tag => { k with pendingMark := none }.begin (.mark tag)
  | none =>
    if k.pendingReset then { k with pendingReset := false }.begin .loopReset
    else
      match k.scan with
      | none => k.serveIdentification
      | some c => k.serveScan c

/-- The arbiter (R43): with the loop free, the scan works out where it stands and the next transaction by class order
begins. -/
def Loop.arbitrate (k : Loop) : Loop :=
  match k.flight with
  | some _ => k
  | none => k.settleScan.choose

/-- LATN is looked at (R45): a scan starts where a unit holds it, none is in progress, and no LOOP RESET is
pending or in flight. -/
def Loop.lookAtLatn (k : Loop) : Loop :=
  if k.latn && k.scan.isNone && !k.pendingReset &&
      decide (k.flight.map Flight.transaction ≠ some .loopReset) then
    { k with scan := some ⟨0, .status⟩ }
  else k

/-- Whether LATN is asserted, by a unit or by the part for a LOOP RESET (R50, R54). -/
def Loop.latnAsserted (k : Loop) : Bool :=
  k.latn || decide (k.flight.map Flight.transaction = some .loopReset)

/-! ## Moves of a slot (R36 to R41) -/

/-- A slot goes to LOST, or stays there, and its re-seek timer starts (R36, R40, R41). -/
def UnitSlot.lose (now : Nat) (cause : LostCause) (u : UnitSlot) : UnitSlot :=
  { u with state := .lost, cause := some cause, reseek := .running (now + Config.reseek) }

/-- The next slot of a scan, the rest of the present unit's work dropped (R46). -/
def Loop.passOn (a : SlotId) (k : Loop) : Loop :=
  match k.scan with
  | some _ => { k with scan := some ⟨a.val + 1, .status⟩ }
  | none => k

/-- A failed attempt of a slot's own IDENTIFY, STATUS or FETCH: the count rises, and the third in a row
loses the slot (R36). -/
def UnitSlot.fail (now : Nat) (u : UnitSlot) : UnitSlot :=
  let n := u.failed + 1
  if 3 ≤ n then ({ u with failed := 3 } : UnitSlot).lose now .noAnswer else { u with failed := n }

/-- Whether one failure more loses the slot (R36). -/
def UnitSlot.lastFailure (u : UnitSlot) : Bool := decide (3 ≤ u.failed + 1)

/-- A failed probe leaves the slot LOST with its cause, and the timer starts again (R41). -/
def UnitSlot.probeAgain (now : Nat) (u : UnitSlot) : UnitSlot :=
  { u with reseek := .running (now + Config.reseek) }

/-- The loop frees itself of its transaction. -/
def Loop.free (k : Loop) : Loop := { k with flight := none }

/-- The attempt of a transaction fails (R36, R41, R46); with whether UNIT_CHANGE is raised. -/
def Loop.attemptFails (now : Nat) (t : Transaction) (k : Loop) : Loop × Bool :=
  match t with
  | .identify a true => (k.onSlot a (UnitSlot.probeAgain now), false)
  | .identify a false => (k.onSlot a (UnitSlot.fail now), (k.slots.get a).lastFailure)
  | .status a =>
    let last := (k.slots.get a).lastFailure
    let k := k.onSlot a (UnitSlot.fail now)
    (if last then k.passOn a else k, last)
  | .fetch a n =>
    let last := (k.slots.get a).lastFailure
    let k := k.onSlot a (UnitSlot.fail now)
    (if last then k.passOn a
      else { k with
        scan := k.scan.map fun c =>
          match c.phase with
          | .status => c
          | .fetch remaining _ => { c with phase := .fetch remaining (some n) } }, last)
  | .mark _ => (k, false)
  | .loopReset => (k, false)

/-- An accepted IDENTIFY reply for a SEEKING slot (R40); with whether UNIT_CHANGE is raised. -/
def Loop.identified (now : Nat) (a : SlotId) (kindCode serial : Nat) (k : Loop) : Loop × Bool :=
  if kindCode = Config.monitorKind then
    ((k.onSlot a fun u =>
      { u with state := .active, failed := 0, nextFetch := 0, serial := some serial }).lookAtLatn, true)
  else
    (k.onSlot a fun u => ({ u with failed := 0, serial := some serial } : UnitSlot).lose now .wrongKind, true)

/-- An accepted IDENTIFY reply to a LOST slot's probe (R41); with whether UNIT_CHANGE is raised. -/
def Loop.probed (now : Nat) (a : SlotId) (kindCode serial : Nat) (k : Loop) : Loop × Bool :=
  let u := k.slots.get a
  if kindCode = Config.monitorKind then
    (k.onSlot a fun u =>
      { u with state := .seeking, cause := none, failed := 0, serial := some serial, reseek := .stopped },
      true)
  else
    (k.onSlot a fun u => ({ u with serial := some serial } : UnitSlot).lose now .wrongKind,
      decide (u.cause ≠ some .wrongKind) || decide (u.serial ≠ some serial))

/-- An accepted STATUS reply (R46); with whether UNIT_CHANGE is raised. -/
def Loop.statusTaken (a : SlotId) (count : Nat) (health : Byte) (k : Loop) : Loop × Bool :=
  let h := HealthFlags.ofMask health
  let changed := decide ((k.slots.get a).health ≠ some h)
  let k := k.onSlot a fun u => { u with failed := 0, health := some h }
  (if count = 0 then k.passOn a
    else { k with scan := k.scan.map fun c => { c with phase := .fetch count none } }, changed)

/-- An accepted FETCH reply's part in the scan (R46): a record counts as one fetch, the empty indication
stops the unit's fetching. -/
def Loop.fetchTaken (a : SlotId) (isRecord : Bool) (k : Loop) : Loop :=
  let k := k.onSlot a fun u => { u with failed := 0 }
  match k.scan with
  | none => k
  | some c =>
    match isRecord, c.phase with
    | true, .fetch remaining _ =>
      if remaining ≤ 1 then k.passOn a
      else { k with scan := some { c with phase := .fetch (remaining - 1) none } }
    | _, _ => k.passOn a

/-- What a verdict does to the slot (R48). -/
def UnitSlot.flag (v : Verdict) (u : UnitSlot) : UnitSlot :=
  match v with
  | .late => { u with late := true }
  | .misdated => { u with misdated := true }
  | .taken _ => u
  | .unwanted => u

/-! ## Within the part -/

/-- The arbiter runs (R43). -/
def State.arbitrate (s : State) : State := s.onLoop Loop.arbitrate

/-- A record is handed to the zone account of its slot's zone; the verdict comes back at once (R48, R64). -/
def State.handRecord (a : SlotId) (r : MeasurementRecord) (s : State) : State :=
  match (s.loop.slots.get a).zone with
  | none => s
  | some z =>
    let v := (s.zones.get z).judge s.timeBase.tag r
    let s := s.onLoop (Loop.onSlot a (UnitSlot.flag v))
    match v with
    | .taken aw =>
      let (o, s) := s.takeOrder
      s.closeZone z (o.reportFirst.get z) aw (some r)
    | _ => s

/-- An operation of the loop that may raise UNIT_CHANGE (R42). -/
def State.loopMove (f : Loop → Loop × Bool) (s : State) : State :=
  let (k, changed) := f s.loop
  ({ s with loop := k } : State).raiseOfficerIf changed .unitChange

/-- The attempt of the addressed transaction in flight fails, and the loop is free; without such a
transaction nothing happens (R36). -/
def State.failAttempt (s : State) : State :=
  match s.loop.flight with
  | none => s
  | some f =>
    if f.transaction.slot.isNone then s
    else
      let s := s.onLoop Loop.free
      (if f.disregarded then s else s.loopMove (Loop.attemptFails s.now f.transaction)).arbitrate

/-- An accepted reply of a transaction (R40, R41, R46, R48). -/
def State.acceptReply (t : Transaction) (r : Reply) (s : State) : State :=
  match t, r with
  | .identify a false, .identify kc serial => s.loopMove (Loop.identified s.now a kc serial)
  | .identify a true, .identify kc serial => s.loopMove (Loop.probed s.now a kc serial)
  | .status a, .status c h => s.loopMove (Loop.statusTaken a c h)
  | .fetch a _, .fetched none => s.onLoop (Loop.fetchTaken a false)
  | .fetch a _, .fetched (some m) => (s.onLoop (Loop.fetchTaken a true)).handRecord a m
  | _, _ => s

/-- A complete reply, its payload read, absent where the frame itself fails: it is accepted or fails the
attempt, and the loop is free. A transaction whose outcome is disregarded just ends (R36, R39). -/
def State.completeReply (r : Option Reply) (s : State) : State :=
  match s.loop.flight, r with
  | some f, some r =>
    if f.transaction.accepts r then
      let s := s.onLoop Loop.free
      (if f.disregarded then s else s.acceptReply f.transaction r).arbitrate
    else s.failAttempt
  | _, _ => s.failAttempt

/-! ## Stalls (R49, R53) -/

/-- A slot at a stall outside a LOOP RESET (R49.2). -/
def UnitSlot.stall (u : UnitSlot) : UnitSlot :=
  match u.state with
  | .seeking => { u with failed := 0 }
  | .active => { u with state := .seeking, failed := 0 }
  | .vacant => u
  | .lost => u

/-- A slot at a stall during a LOOP RESET (R53). -/
def UnitSlot.resetStall (now : Nat) (u : UnitSlot) : UnitSlot :=
  match u.state with
  | .vacant => u
  | .lost => if u.cause = some .loopStall then u else u.lose now .loopStall
  | .seeking => u.lose now .loopStall
  | .active => u.lose now .loopStall

/-- A probe abandoned at a stall leaves its slot LOST with the timer started again (R41, R49.1). -/
def Loop.abandonProbe (now : Nat) (k : Loop) : Loop :=
  match k.flight with
  | some ⟨.identify a true, false⟩ => k.onSlot a (UnitSlot.probeAgain now)
  | _ => k

/-- A loop stall (R49, R53); with whether UNIT_CHANGE is raised. -/
def Loop.stall (now : Nat) (k : Loop) : Loop × Bool :=
  if k.flight.map Flight.transaction = some .loopReset then
    let slots := k.slots.map (UnitSlot.resetStall now)
    ({ k with slots := slots, flight := none }, decide (slots ≠ k.slots))
  else
    let k := k.abandonProbe now
    let changed := k.slots.toList.any fun u => decide (u.state = .active)
    ({ k with
      slots := k.slots.map UnitSlot.stall
      flight := none
      scan := none
      identifyFirst := false
      pendingReset := true }, changed)

/-! ## RESTART (R55) -/

/-- A slot at RESTART. -/
def UnitSlot.restart (u : UnitSlot) : UnitSlot :=
  match u.state with
  | .vacant => u
  | _ => { UnitSlot.reset with state := .seeking, zone := u.zone, serial := u.serial }

/-- The loop controller at RESTART. -/
def Loop.restart (k : Loop) : Loop :=
  { k with
    slots := k.slots.map UnitSlot.restart
    scan := none
    identifyFirst := false
    flight := k.flight.map fun f => { f with disregarded := true } }

/-! ## Assignments (R38, R39) -/

/-- Whether another slot serves a zone (R38). -/
def Loop.serves (k : Loop) (z : ZoneId) : Bool := k.slots.toList.any fun u => decide (u.zone = some z)

/-- A slot assigned to a zone (R38). -/
def Loop.assign (a : SlotId) (z : ZoneId) (k : Loop) : Loop :=
  k.onSlot a fun _ => { UnitSlot.reset with state := .seeking, zone := some z }

/-- An addressed transaction is in flight. -/
def Loop.addressing (k : Loop) : Bool :=
  match k.flight with
  | none => false
  | some f => f.transaction.slot.isSome

/-- A slot unassigned: its waiting work dropped, its transaction in flight disregarded (R39). A scan passes a slot
that is not ACTIVE: at once where no addressed transaction is in flight, else at the end of that transaction (R45). -/
def Loop.unassign (a : SlotId) (k : Loop) : Loop :=
  let k := k.onSlot a fun _ => UnitSlot.reset
  let k := { k with
    flight := k.flight.map fun f =>
      if f.transaction.slot = some a then { f with disregarded := true } else f }
  if k.addressing then k else k.settleScan

/-- READ MONITOR clears the record flags of the slots it covered (R54). -/
def UnitSlot.clearFlags (u : UnitSlot) : UnitSlot := { u with late := false, misdated := false }

end Sys2Proof.Machine
end

