-- ==== Sys2Proof/Machine/TimeBase.lean ====
section
/-! DEFINITION. The time base (Chapter 2): the second mark with everything it reaches, PPS steering, SET
TIME and SELECT SOURCE. -/

namespace Sys2Proof.Machine

/-- Whether PPS pulses steer the marks: source PPS in state FREE or LOCKED (R15, R20). -/
def TimeBase.steered (t : TimeBase) : Bool := decide (t.source = .pps) && decide (t.state ≠ .unset)

/-- A time-base event: its cause becomes the last event and TIME_EVENT is raised (R24). -/
def State.timeEvent (e : TimeEvent) (s : State) : State :=
  (s.onTimeBase fun t => { t with lastEvent := some e }).raiseOfficer .timeEvent

/-- The time base's own part of a mark (R15). -/
def TimeBase.mark (now : Nat) (t : TimeBase) : TimeBase :=
  { t with
    tag := tagPlus t.tag 1
    timeOfDay := match t.state with
      | .unset => t.timeOfDay
      | _ => (t.timeOfDay + 1) % 86400
    lastMark := now }

/-- What one owner does at a mark that ends second `ended`, whose programme minute was `before` (R15, R28,
R63, R122). -/
def State.markTask (o : Interleaving) (ended : Nat) (before : Option Nat) (t : Task) (s : State) : State :=
  match t with
  | .zone z => s.closingDeadline z (o.reportFirst.get z) ended before
  | .table z => if s.minute = before then s else s.reevaluate z
  | .grants => s.grantMarks
  | .floor _ => s

/-- A second mark (R15): the tag and the time of day advance, the MARK is placed for the loop (R44), and the
mark reaches the zone accounts, the schedule tables and the curfew unit in an order the spec leaves open. It is run
whole: that no other event of its moment (a request, a ramp step) falls between two of these owners is a DESIGN CHOICE
(log entry 43). -/
def State.issueMark (s : State) : State :=
  let (o, s) := s.takeOrder
  let ended := s.timeBase.tag
  let before := s.minute
  let s := s.onTimeBase (TimeBase.mark s.now)
  let s := (s.onLoop fun k => { k with pendingMark := some s.timeBase.tag }).arbitrate
  o.sequence.foldl (fun s t => s.markTask o ended before t) s

/-! ## Following PPS (R19 to R23) -/

/-- The moment lies in the acceptance window (R20). -/
def TimeBase.inWindow (now : Nat) (t : TimeBase) : Bool :=
  decide (t.expected ≤ now + Config.window) && decide (now ≤ t.expected + Config.window)

/-- A pulse is present (R19). -/
def TimeBase.pulsePresent (now : Nat) (t : TimeBase) : Bool :=
  match t.lastPulse with
  | none => false
  | some p => decide (now ≤ p + Config.pulsePresence)

/-- A pulse inside the window (R20). -/
def State.pulseInWindow (s : State) : State :=
  let t := s.timeBase
  let count := min 2 (t.lockCount + 1)
  let s := s.onTimeBase fun t => { t with lockCount := count, expected := s.now + Config.second }
  let s :=
    if decide (t.state = .free) && decide (count = 2) then
      (s.onTimeBase fun t => { t with state := .locked }).timeEvent .locked
    else s
  s.issueMark

/-- A realignment: the divider restarts at the pulse, the lock is lost, and the cause is recorded (R21,
R22). -/
def State.realigned (e : TimeEvent) (s : State) : State :=
  (s.onTimeBase fun t =>
    { t with lockCount := 0, state := .free, expected := s.now + Config.second }).timeEvent e

/-- A pulse at the present moment (R19 to R22). -/
def State.pulse (s : State) : State :=
  let t := s.timeBase
  let s := s.onTimeBase fun t => { t with lastPulse := some s.now, firstEmpty := none }
  if t.steered then
    if t.inWindow s.now then s.pulseInWindow
    else if t.lastMark + Config.realign ≤ s.now then (s.realigned .short).issueMark
    else s.realigned .long
  else s

/-- The window's close with no pulse (R20). -/
def State.windowCloses (s : State) : State :=
  (s.onTimeBase fun t =>
    { t with
      expected := t.expected + Config.second
      lockCount := 0
      firstEmpty := some (t.firstEmpty.getD t.expected) }).issueMark

/-- The moment the lock is lost unless a pulse arrives, in LOCKED with an empty window since the last pulse
(R23). -/
def TimeBase.lossMoment (t : TimeBase) : Option Nat :=
  match t.state, t.firstEmpty with
  | .locked, some p => some (p + Config.lossDelay)
  | _, _ => none

/-! ## SET TIME (R17) -/

/-- The distance of two times of day, the short way round the day (R17). -/
def dayDistance (a b : Nat) : Nat :=
  let d := max a b - min a b
  min d (86400 - d)

/-- What one owner does at a SET TIME (R17, R28, R93). -/
def State.setTimeTask (leavesUnset : Bool) (t : Task) (s : State) : State :=
  match t with
  | .table z => s.reevaluate z
  | .floor st => if leavesUnset then s.recomputeTarget st else s
  | .zone _ => s
  | .grants => s

/-- A SET TIME that is taken (R17): every table re-evaluates (R28, log entry 16). -/
def State.takeTime (time : Nat) (s : State) : State :=
  let (o, s) := s.takeOrder
  let leaves := decide (s.timeBase.state = .unset)
  let s := (s.onTimeBase fun t =>
    { t with timeOfDay := time, state := if leaves then .free else t.state }).timeEvent .set
  o.sequence.foldl (fun s t => s.setTimeTask leaves t) s

/-! ## SELECT SOURCE (R18) -/

/-- A change of source to INTERNAL (R18). A mark that was waiting for the window is issued at once. -/
def State.toInternal (s : State) : State :=
  let t := s.timeBase
  let waiting := t.steered && decide (t.expected ≤ s.now)
  let s := (s.onTimeBase fun t =>
    { t with
      source := .internal
      lockCount := 0
      state := if t.state = .locked then .free else t.state
      expected := if waiting then t.expected + Config.second else t.expected }).timeEvent .source
  if waiting then s.issueMark else s

/-- A change of source to PPS (R18). -/
def State.toPps (s : State) : State :=
  (s.onTimeBase fun t => { t with source := .pps, lockCount := 0 }).timeEvent .source

end Sys2Proof.Machine
end

