-- ==== Sys2Proof/Machine/Replies.lean ====
section
/-! DEFINITION. The byte layouts of what the part sends on the links: frames, replies and rejects (R169 to
R174, R181 to R184, R187, R189, R190, R192 to R195). A payload begins with the reply code. -/

namespace Sys2Proof.Machine

/-! ## Fields (R169) -/

/-- A number in three bytes, most significant first. -/
def bytes3 (n : Nat) : List Byte := [byteOf (n / 65536), byteOf (n / 256), byteOf n]

/-- A number in four bytes, most significant first. -/
def bytes4 (n : Nat) : List Byte := bytes2 (n / 65536) ++ bytes2 n

/-- A flag in one byte, 1 where it holds. -/
def flagByte (b : Bool) : Byte := if b then 1#8 else 0#8

/-- A programme minute, FFFFh where absent. -/
def minuteBytes (m : Option Nat) : List Byte := bytes2 (m.getD 65535)

/-- A signed number in two bytes, two's complement. -/
def signedBytes (n : Int) : List Byte := bytes2 (n % 65536).toNat

/-- A position or an index, FFh where absent. -/
def indexByte (n : Option Nat) : Byte := byteOf (n.getD 255)

/-- A number of minutes in one byte. A grant that was extended after a SET POOL, and the minutes it returns, can pass
255; the spec states no byte for such a number, and it is a free value (log entry 39). -/
def minuteByte (n : Nat) : Byte := if n ≤ 255 then byteOf n else Config.minutesByte n

def ReplyCode.byte (c : ReplyCode) : Byte := byteOf c.value

/-! ## Named states as positions (R169) -/

def GainState.position : GainState → Nat
  | .opened => 0
  | .resuming => 1
  | .fading => 2
  | .muted => 3

def FeedState.position : FeedState → Nat
  | .idle => 0
  | .fed => 1
  | .holding => 2
  | .fallback => 3

def Grant.position : Grant → Nat
  | .none => 0
  | .booked _ => 1
  | .running _ _ => 2

def SegmentKind.position : SegmentKind → Nat
  | .play => 0
  | .curfew _ _ => 1

def ChangeMode.position : ChangeMode → Nat
  | .hard => 0
  | .soft => 1

def SlotState.position : SlotState → Nat
  | .vacant => 0
  | .seeking => 1
  | .active => 2
  | .lost => 3

/-- The lost cause, 0 where absent (R190). -/
def causePosition : Option LostCause → Nat
  | none => 0
  | some .noAnswer => 1
  | some .wrongKind => 2
  | some .loopStall => 3

def PathState.position : PathState → Nat
  | .idle => 0
  | .aligning => 1
  | .running => 2

def Watch.position : Watch → Nat
  | .notWatched => 0
  | .present _ => 1
  | .absent => 2

def LockState.position : LockState → Nat
  | .unset => 0
  | .free => 1
  | .locked => 2

def Source.position : Source → Nat
  | .internal => 0
  | .pps => 1

/-- The last event, 0 where absent (R174). -/
def eventPosition : Option TimeEvent → Nat
  | none => 0
  | some .set => 1
  | some .locked => 2
  | some .short => 3
  | some .long => 4
  | some .lost => 5
  | some .source => 6

def Mode.position : Mode → Nat
  | .setup => 0
  | .show => 1

/-- A record's close cause, 0 while open (R173). -/
def closePosition : Option CloseCause → Nat
  | none => 0
  | some .cleared => 1
  | some .disabled => 2

/-! ## Frames (R170) -/

/-- A message: start mark, length, kind, payload and check. -/
def messageFrame (kind : Byte) (payload : List Byte) : List Byte :=
  0xA5#8 :: withCheck (byteOf (payload.length + 1) :: kind :: payload)

def Reject.byte : Reject → Byte
  | .line => 1#8
  | .format => 2#8
  | .busy => 3#8

/-- A reject message. -/
def rejectFrame (r : Reject) : List Byte := messageFrame 0xFF#8 [r.byte]

/-- A reply's kind: FEh for UNKNOWN_KIND, the request's kind plus 80h otherwise. -/
def replyKind (unknown : Bool) (kind : Byte) : Byte := if unknown then 0xFE#8 else kind + 0x80#8

/-- A reply of the reply code alone (R162). -/
def codeAlone (c : ReplyCode) : List Byte := [c.byte]

/-! ## The status of a stage (R171) -/

/-- The zones that force a stage's floor by FALLBACK, as a mask (R171, R178). -/
def fallbackMask (s : State) (st : StageId) : Nat := bank8Mask (Bank8.ofFn (forcesFallback s st))

/-- The end point, 0 unless RUNNING. -/
def Grant.endPoint : Grant → Nat
  | .running _ e => e
  | _ => 0

/-- STAGE STATUS (R171, R178). -/
def stageStatusReply (s : State) (st : StageId) : List Byte :=
  let g := s.stages.get st
  let c := s.curfew.get st
  [ReplyCode.ok.byte, byteOf st.val, byteOf g.gain.position, byteOf g.reasons.mask, byteOf g.applied,
    byteOf g.target, byteOf (contribution s st), byteOf g.record.trim,
    flagByte (decide (s.timeBase.state = .unset)), byteOf (fallbackMask s st)] ++
  minuteBytes (minutesLeft s st) ++
  [byteOf c.grant.position, minuteByte c.grant.minutes] ++ bytes2 c.grant.endPoint ++
  bytes2 (secondsLeft s st) ++ [byteOf s.pool, byteOf c.total]

/-- MUTE NOW, FADE and RELEASE (R190). -/
def stageGainReply (code : ReplyCode) (s : State) (st : StageId) : List Byte :=
  let g := s.stages.get st
  [code.byte, byteOf st.val, byteOf g.gain.position, byteOf g.reasons.mask, byteOf g.applied]

/-- A stage's coupling row. -/
def couplingBytes (r : StageRecord) : List Byte := r.coupling.toList.map byteOf

/-- SET COUPLING (R89, R190): the couplings and the target, and no applied attenuation. R109 names this reply among those
that give it, R190's layout has no place for it, and the layout is followed (DEDUCED, log entry 42). -/
def couplingReply (code : ReplyCode) (s : State) (st : StageId) : List Byte :=
  let g := s.stages.get st
  [code.byte, byteOf st.val] ++ couplingBytes g.record ++ [byteOf g.target]

/-- SET STAGE (R190). -/
def stageRecordReply (code : ReplyCode) (s : State) (st : StageId) : List Byte :=
  let g := s.stages.get st
  let r := g.record
  [code.byte, byteOf st.val] ++ couplingBytes r ++
  [byteOf r.failsafe, byteOf r.mode.position, byteOf r.attack] ++ bytes2 r.releaseStep ++
  bytes2 r.fadeStep ++ bytes2 r.resumeStep ++
  [byteOf r.lead, byteOf r.trim, byteOf g.gain.position, byteOf g.applied, byteOf g.target]

/-! ## Zones (R172, R190) -/

/-- The thirteen configuration bytes and levels in the order of R172. -/
def configBytes (c : ZoneConfig) : List Byte :=
  [byteOf c.window, byteOf c.guardBand, byteOf c.fastMargin, byteOf c.releaseMargin, byteOf c.hysteresis,
    byteOf c.warnMargin, byteOf c.fastStep, byteOf c.attackCap, byteOf c.settlePeriod,
    byteOf c.releaseInterval] ++ bytes2 c.fallback.broad ++ bytes2 c.fallback.low

/-- A metric block of READ ZONE (R172). -/
def metricBlock (zn : Zone) (limits : Pair Nat) (m : Metric) : List Byte :=
  let l := (zn.levels.getD (Pair.both ⟨0, 0, 0⟩)).get m
  bytes2 l.closing ++ bytes2 l.short ++ bytes2 l.rolling ++ bytes2 (limits.get m) ++
  [byteOf (zn.conditions.get m).rank, flagByte (zn.fast.get m).isSet,
    byteOf (zn.snapshot.get m).worst.rank, flagByte (zn.snapshot.get m).fastSeen]

/-- The flags byte of READ ZONE (R172). -/
def zoneFlags (zn : Zone) : Nat :=
  bitOf zn.enabled 0 + bitOf zn.awaiting.isSome 1 +
    bitOf ((zn.awaiting.map Awaiting.isOpen).getD false) 2 + bitOf zn.levels.isSome 3 +
    bitOf zn.settle.isSome 4

/-- READ ZONE (R83, R172). -/
def zoneReply (s : State) (z : ZoneId) : List Byte :=
  let zn := s.zones.get z
  let limits := limitsInForce s z
  [ReplyCode.ok.byte, byteOf z.val, byteOf (zoneFlags zn), byteOf zn.feed.position,
    byteOf zn.missingRun] ++
  bytes2 ((zn.awaiting.map Awaiting.tag).getD 0) ++
  metricBlock zn limits .broad ++ metricBlock zn limits .low ++
  [byteOf (s.tables.get z).inForce.kind.position, byteOf zn.demand, byteOf zn.slots.length,
    byteOf ((zn.slots.getLast?.map MinuteSlot.counted).getD 0), byteOf zn.releaseCount] ++
  configBytes zn.config ++ bytes2 (windowSubstituted zn.config.window zn.slots)

/-- SET ZONE (R190). -/
def zoneConfigReply (code : ReplyCode) (s : State) (z : ZoneId) : List Byte :=
  let zn := s.zones.get z
  [code.byte, byteOf z.val, flagByte zn.enabled] ++ configBytes zn.config

/-- ENABLE ZONE and DISABLE ZONE (R190). -/
def zoneEnableReply (code : ReplyCode) (s : State) (z : ZoneId) : List Byte :=
  let zn := s.zones.get z
  [code.byte, byteOf z.val, flagByte zn.enabled, byteOf zn.feed.position]

/-- A headroom clamped to −900..900 (R179). -/
def headroom (limit rolling : Nat) : Int := max (-900) (min 900 ((limit : Int) - rolling))

/-- A headroom as ZONE VIEW sends it, 8000h for no levels (R172). -/
def headroomBytes (zn : Zone) (limits : Pair Nat) (m : Metric) : List Byte :=
  match zn.levels with
  | none => bytes2 32768
  | some l => signedBytes (headroom (limits.get m) (l.get m).rolling)

/-- An entry of ZONE VIEW (R172, R179). -/
def zoneViewEntry (s : State) (z : ZoneId) : List Byte :=
  let zn := s.zones.get z
  let limits := limitsInForce s z
  [byteOf z.val, byteOf zn.conditions.broad.rank, byteOf zn.conditions.low.rank,
    byteOf (bitOf zn.fast.broad.isSet 0 + bitOf zn.fast.low.isSet 1)] ++
  headroomBytes zn limits .broad ++ headroomBytes zn limits .low ++
  [byteOf (s.tables.get z).inForce.kind.position, byteOf zn.demand]

/-- ZONE VIEW (R172, R179). All entries are read from one state: that no close falls between two zones' entries is a
DESIGN CHOICE (log entry 44). -/
def zoneViewReply (s : State) (st : StageId) : List Byte :=
  let zs := allZones.filter (reaches s st)
  [ReplyCode.ok.byte, byteOf zs.length] ++ zs.flatMap (zoneViewEntry s)

/-! ## Schedules (R190, R192) -/

/-- A segment entry (R190). -/
def segmentEntry (g : Segment) : List Byte :=
  bytes2 g.start ++ [byteOf g.kind.position] ++ bytes2 g.broad ++ bytes2 g.low ++
  match g.kind with
  | .play => bytes2 0 ++ bytes2 0
  | .curfew eb el => bytes2 eb ++ bytes2 el

/-- The entry of a segment that the list does not hold (R190). -/
def noSegmentEntry : List Byte :=
  bytes2 65535 ++ [0#8] ++ bytes2 0 ++ bytes2 0 ++ bytes2 0 ++ bytes2 0

/-- The segment of a list that starts at a minute. -/
def segmentStarting (l : List Segment) (start : Nat) : Option Segment :=
  l.find? fun g => decide (g.start = start)

/-- The position of the segment in force in its table's list. -/
def Table.position (t : Table) : Nat := t.segments.findIdx fun g => decide (g.start = t.inForce.start)

/-- INSERT, EDIT and DELETE SEGMENT, with the segment stored, removed or named (R190). -/
def segmentReply (code : ReplyCode) (s : State) (z : ZoneId) (g : Option Segment) : List Byte :=
  let t := s.tables.get z
  [code.byte, byteOf z.val] ++
  (match g with
    | some g => segmentEntry g
    | none => noSegmentEntry) ++
  [byteOf t.segments.length, byteOf t.position]

/-- READ SCHEDULE (R192). -/
def scheduleReply (s : State) (z : ZoneId) : List Byte :=
  let t := s.tables.get z
  let limits := limitsInForce s z
  [ReplyCode.ok.byte, byteOf z.val] ++ minuteBytes s.minute ++ [byteOf t.position] ++
  bytes2 limits.broad ++ bytes2 limits.low ++
  [flagByte (encoreLimits s z), byteOf t.segments.length] ++ t.segments.flatMap segmentEntry

/-! ## The monitor loop (R190, R193) -/

/-- A slot entry (R190). -/
def slotEntry (a : SlotId) (u : UnitSlot) : List Byte :=
  [byteOf (addressOf a), byteOf u.state.position, indexByte (u.zone.map fun z => z.val),
    byteOf (causePosition u.cause), byteOf u.failed,
    byteOf (bitOf u.late 0 + bitOf u.misdated 1 + bitOf u.serial.isSome 2 + bitOf u.health.isSome 3)] ++
  bytes4 (u.serial.getD 0) ++ [byteOf ((u.health.map HealthFlags.mask).getD 0)]

/-- ASSIGN MONITOR and UNASSIGN MONITOR (R190). -/
def slotReply (code : ReplyCode) (s : State) (a : SlotId) : List Byte :=
  [code.byte] ++ slotEntry a (s.loop.slots.get a)

/-- READ MONITOR (R193). -/
def monitorReply (s : State) (l : List SlotId) : List Byte :=
  [ReplyCode.ok.byte, flagByte s.loop.latnAsserted, byteOf l.length] ++
  l.flatMap fun a => slotEntry a (s.loop.slots.get a)

/-! ## The time base (R24, R174) -/

/-- The time-base status. -/
def timeStatus (s : State) : List Byte :=
  let t := s.timeBase
  [byteOf t.state.position, byteOf t.source.position] ++ bytes2 t.tag ++
  bytes3 (if t.state = .unset then 0xFFFFFF else t.timeOfDay) ++ minuteBytes s.minute ++
  [flagByte (t.pulsePresent s.now), byteOf (eventPosition t.lastEvent)]

/-- SET TIME and SELECT SOURCE (R24, R190). -/
def timeReply (code : ReplyCode) (s : State) : List Byte := [code.byte] ++ timeStatus s

/-! ## Grants and the pool (R182, R183, R190) -/

/-- ENCORE (R182). -/
def encoreReply (code : ReplyCode) (asked granted : Nat) (s : State) (st : StageId) : List Byte :=
  let c := s.curfew.get st
  [code.byte, byteOf asked, byteOf granted, byteOf c.grant.position, minuteByte c.grant.minutes] ++
  bytes2 c.grant.endPoint ++ bytes2 (secondsLeft s st) ++ [byteOf s.pool, byteOf c.total]

/-- ENCORE END (R183). -/
def encoreEndReply (code : ReplyCode) (returned : Nat) (s : State) (st : StageId) : List Byte :=
  let c := s.curfew.get st
  [code.byte, minuteByte returned, byteOf c.grant.position, byteOf s.pool, byteOf c.total]

/-- SET POOL (R190). -/
def poolReply (s : State) : List Byte :=
  [ReplyCode.ok.byte, byteOf s.pool] ++ s.curfew.toList.map fun c => byteOf c.total

/-! ## Paths (R142, R174) -/

/-- The path status. -/
def pathStatus (st : StageId) (p : Path) : List Byte :=
  [byteOf st.val, byteOf p.state.position, byteOf p.buffer.length, indexByte p.writeIndex,
    byteOf p.alarms.mask, flagByte p.muted, byteOf p.watch.position, byteOf p.delay, byteOf p.muteMask.mask,
    flagByte p.followStrobe]

/-- The path kinds (R190). -/
def pathReply (code : ReplyCode) (s : State) (st : StageId) : List Byte :=
  [code.byte] ++ pathStatus st (s.paths.get st)

/-! ## Exceedance records (R153, R154, R173) -/

/-- A record in its 21 bytes. -/
def recordBytes (r : Exceedance) : List Byte :=
  bytes2 r.number ++
  [byteOf r.zone.val, byteOf (bitOf (decide (r.metric = .low)) 0 + bitOf (decide (r.kind = .fast)) 1)] ++
  bytes2 r.startTag ++ minuteBytes r.startMinute ++ bytes2 r.limitAtOpen ++ bytes2 r.duration ++
  bytes2 r.substituted ++ bytes2 r.peakLevel ++ [byteOf r.peakDemand, byteOf (bank4Mask r.stages)] ++
  minuteBytes r.endMinute ++ [byteOf (closePosition r.cause)]

/-- READ RECORDS, its start and count already clamped (R153, R173). -/
def recordsReply (s : State) (start count : Nat) : List Byte :=
  let l := s.exceedances.records
  let carried := (l.drop start).take count
  [ReplyCode.ok.byte, byteOf l.length, byteOf s.exceedances.openCount] ++ bytes2 s.exceedances.counter ++
  [byteOf carried.length, flagByte (decide (l.length ≤ start + count))] ++ carried.flatMap recordBytes

/-! ## Notices (R165, R181, R184, R194) -/

/-- A notice set in the width of a link. -/
def maskBytes (l : LinkId) (m : BitVec 16) : List Byte :=
  match l with
  | .desk _ => [byteOf m.toNat]
  | .officer => bytes2 m.toNat

/-- READ NOTICES (R165, R184). -/
def noticesReply (s : State) (l : LinkId) : List Byte :=
  let k := s.links.get l
  [ReplyCode.ok.byte] ++ maskBytes l k.noticeSet ++ maskBytes l k.enables ++ k.priorities.map byteOf ++
  [indexByte k.topKind]

/-- ACK NOTICES (R166, R184). -/
def ackReply (code : ReplyCode) (s : State) (l : LinkId) : List Byte :=
  let k := s.links.get l
  [code.byte] ++ maskBytes l k.noticeSet ++ [indexByte k.topKind]

/-- SET DESK (R181). -/
def deskReply (code : ReplyCode) (s : State) (st : StageId) : List Byte :=
  let k := s.links.get (.desk st)
  let g := s.stages.get st
  [code.byte, byteOf st.val, byteOf g.record.trim, byteOf g.record.lead, byteOf k.enables.toNat] ++
  k.priorities.map byteOf ++ [byteOf g.target, byteOf k.noticeSet.toNat, indexByte k.topKind]

/-- A link's number in SET NOTICES (R194). -/
def linkNumber : LinkId → Nat
  | .desk n => n.val
  | .officer => 4

/-- Nine priorities, FFh beyond a desk link's six (R194). -/
def ninePriorities (l : List Nat) : List Byte := (l ++ List.replicate (9 - l.length) 255).map byteOf

/-- SET NOTICES (R194). -/
def setNoticesReply (code : ReplyCode) (s : State) (l : LinkId) : List Byte :=
  let k := s.links.get l
  [code.byte, byteOf (linkNumber l)] ++ bytes2 k.noticeSet.toNat ++ bytes2 k.enables.toNat ++
  ninePriorities k.priorities ++ [indexByte k.topKind]

/-! ## Modes (R187, R189, R195) -/

/-- Whether some slot that serves a zone is ACTIVE (R187). -/
def hasActiveUnit (s : State) (z : ZoneId) : Bool :=
  s.loop.slots.toList.any fun u => decide (u.zone = some z) && decide (u.state = .active)

/-- The enabled zones without an ACTIVE unit (R187). -/
def unservedZones (s : State) : Bank8 Bool :=
  Bank8.ofFn fun z => (s.zones.get z).enabled && !hasActiveUnit s z

/-- ARM SHOW (R187). -/
def armReply (code : ReplyCode) (s : State) : List Byte :=
  [code.byte, byteOf s.mode.position, flagByte (decide (s.timeBase.state = .unset)),
    byteOf (bank8Mask (unservedZones s))]

/-- END SHOW (R189). -/
def endShowReply (ended : Nat) (s : State) : List Byte :=
  [ReplyCode.ok.byte, byteOf s.mode.position, byteOf ended, byteOf s.pool]

/-- RESTART (R195). -/
def restartReply (code : ReplyCode) (s : State) : List Byte := [code.byte, byteOf s.mode.position]

end Sys2Proof.Machine
end

