-- ==== Sys2Proof/Machine/DeskServices.lean ====
section
/-! DEFINITION. The service of the desk kinds and of the two notice kinds (R165 to R167, R176 to R184). Each
service answers the state the request leaves and the payload of its reply, formed after the request has
been served whole (R161, R162). -/

namespace Sys2Proof.Machine

/-- What the service of a request leaves: the state, and the reply's payload. -/
abbrev Served := State × List Byte

/-- STAGE STATUS (R178). -/
def serveStageStatus (st : StageId) (s : State) : Served := (s, stageStatusReply s st)

/-- ZONE VIEW (R179). -/
def serveZoneView (st : StageId) (s : State) : Served := (s, zoneViewReply s st)

/-- Whether a mask names a position beyond a link's own kinds (R166, R180, R194). -/
def maskBeyond (l : LinkId) (m : BitVec 16) : Bool := decide (2 ^ (linkKinds l) ≤ m.toNat)

/-- An enable mask of one byte as a notice set. -/
def widenMask (m : Byte) : BitVec 16 := m.setWidth 16

/-- A desk's SET DESK is refused for an unused presence bit, or for an enables mask beyond the desk kinds
(R180). -/
def setDeskRefused (st : StageId) (f : SetDeskFields) : Bool :=
  f.spareBits || (f.enables.map fun m => maskBeyond (.desk st) (widenMask m)).getD false

/-- The two fields of the stage record that a desk may write (R88, R180). -/
def StageRecord.writeDesk (f : SetDeskFields) (r : StageRecord) : StageRecord :=
  { r with
    trim := (f.trim.map (clampTo 0 24)).getD r.trim
    lead := (f.lead.map (clampTo 1 30)).getD r.lead }

/-- A write of a link's enable set and priorities, each where it is given (R167). -/
def LinkInterface.write (enables : Option (BitVec 16)) (priorities : Option (List Nat)) (k : LinkInterface) :
    LinkInterface :=
  let k := match enables with
    | some m => k.enable m
    | none => k
  match priorities with
  | some l => k.prioritise l
  | none => k

/-- SET DESK taken (R181): every field is stored, and each owner then acts on its own. -/
def State.takeDesk (st : StageId) (f : SetDeskFields) (s : State) : State :=
  let s := s.onStage st fun g => { g with record := g.record.writeDesk f }
  let s := s.onLink (.desk st) (LinkInterface.write (f.enables.map widenMask) f.priorities)
  let s := if f.trim.isSome then s.recomputeTarget st else s
  if f.lead.isSome then s.soonTest st else s

/-- SET DESK (R180, R181). -/
def serveSetDesk (st : StageId) (f : SetDeskFields) (s : State) : Served :=
  if setDeskRefused st f then (s, deskReply .badValue s st)
  else
    let s := s.takeDesk st f
    (s, deskReply .ok s st)

/-- ENCORE (R119 to R121, R182). -/
def serveEncore (st : StageId) (minutes : Nat) (s : State) : Served :=
  let m := clampTo 1 10 minutes
  let (code, granted, s) := s.serveEncoreAsk st m
  (s, encoreReply code m granted s st)

/-- ENCORE END (R123, R183). -/
def serveEncoreEnd (st : StageId) (s : State) : Served :=
  let (code, returned, s) := s.serveEncoreEnd st
  (s, encoreEndReply code returned s st)

/-- READ NOTICES (R165). -/
def serveReadNotices (l : LinkId) (s : State) : Served := (s, noticesReply s l)

/-- ACK NOTICES (R166). -/
def serveAckNotices (l : LinkId) (mask : BitVec 16) (s : State) : Served :=
  if maskBeyond l mask then (s, ackReply .badValue s l)
  else
    let s := s.onLink l (LinkInterface.acknowledge mask)
    (s, ackReply .ok s l)

end Sys2Proof.Machine
end

