-- ==== Sys2Proof/Machine/OfficerServices.lean ====
section
/-! DEFINITION. The service of the officer kinds (R185 to R195). The checks of a request stand in the order of
R188 and R190: an object that does not exist, a refused value, the request's own checks, SHOW_LOCK. -/

namespace Sys2Proof.Machine

/-! ## Objects named by a byte (R162, R190) -/

/-- The service of a request about a stage; a stage out of range is answered NO_SUCH alone. -/
def forStage (stage : Nat) (s : State) (serve : StageId → Served) : Served :=
  match stageOf stage with
  | none => (s, codeAlone .noSuch)
  | some st => serve st

/-- The service of a request about a zone; a zone out of range is answered NO_SUCH alone. -/
def forZone (zone : Nat) (s : State) (serve : ZoneId → Served) : Served :=
  match zoneOf zone with
  | none => (s, codeAlone .noSuch)
  | some z => serve z

def Mode.isShow : Mode → Bool
  | .setup => false
  | .show => true

/-! ## Zones -/

/-- Whether SET ZONE gives a field that SHOW refuses (R56, R188, R191). -/
def lockedInShow (f : SetZoneFields) : Bool :=
  f.window.isSome || f.guardBand.isSome || f.fastMargin.isSome || f.releaseMargin.isSome ||
    f.hysteresis.isSome || f.fallbackBroad.isSome || f.fallbackLow.isSome

/-- A field after a write: clamped where it is given. -/
def writeField (lo hi : Nat) (new : Option Nat) (old : Nat) : Nat := (new.map (clampTo lo hi)).getD old

/-- The configuration record after a SET ZONE that is taken (R56). -/
def ZoneConfig.write (f : SetZoneFields) (c : ZoneConfig) : ZoneConfig where
  window := writeField 1 15 f.window c.window
  guardBand := writeField 0 50 f.guardBand c.guardBand
  fastMargin := writeField 0 200 f.fastMargin c.fastMargin
  releaseMargin := writeField 0 100 f.releaseMargin c.releaseMargin
  hysteresis := writeField 0 50 f.hysteresis c.hysteresis
  warnMargin := writeField 0 100 f.warnMargin c.warnMargin
  fastStep := writeField 1 12 f.fastStep c.fastStep
  attackCap := writeField 1 8 f.attackCap c.attackCap
  settlePeriod := writeField 1 30 f.settlePeriod c.settlePeriod
  releaseInterval := writeField 1 60 f.releaseInterval c.releaseInterval
  fallback := ⟨writeField 400 1300 f.fallbackBroad c.fallback.broad,
    writeField 400 1300 f.fallbackLow c.fallback.low⟩

/-- SET ZONE (R56, R57, R191). -/
def serveSetZone (zone : Nat) (f : SetZoneFields) (s : State) : Served :=
  forZone zone s fun z =>
    if s.mode.isShow && lockedInShow f then (s, zoneConfigReply .showLock s z)
    else
      let s := s.onZone z fun zn => { zn with config := zn.config.write f }
      (s, zoneConfigReply .ok s z)

/-- ENABLE ZONE (R59). -/
def serveEnableZone (zone : Nat) (s : State) : Served :=
  forZone zone s fun z =>
    let s := if (s.zones.get z).enabled then s else s.enableZoneNow z
    (s, zoneEnableReply .ok s z)

/-- DISABLE ZONE (R60). -/
def serveDisableZone (zone : Nat) (s : State) : Served :=
  forZone zone s fun z =>
    if s.mode.isShow then (s, zoneEnableReply .showLock s z)
    else
      let s := if (s.zones.get z).enabled then s.disableZoneNow z else s
      (s, zoneEnableReply .ok s z)

/-- READ ZONE (R83, R84): the snapshot is reloaded once the reply is formed. -/
def serveReadZone (zone : Nat) (s : State) : Served :=
  forZone zone s fun z => (s.onZone z Zone.reloadSnapshot, zoneReply s z)

/-! ## Schedules -/

/-- A kind of segment by its number (R190). -/
def segmentKindKnown (k : Nat) : Bool := decide (k ≤ 1)

/-- The segment an INSERT SEGMENT stores (R26). -/
def insertedSegment (f : InsertFields) : Segment :=
  let broad := clampLevel f.broad
  let low := clampLevel f.low
  { start := clampTo 0 1439 f.start
    kind :=
      if f.kind = 0 then .play
      else .curfew ((f.encoreBroad.map clampLevel).getD broad) ((f.encoreLow.map clampLevel).getD low)
    broad := broad
    low := low }

/-- A list in start order with a new segment at its place (R26). -/
def placeSegment (g : Segment) (l : List Segment) : List Segment :=
  (l.filter fun h => decide (h.start < g.start)) ++ g :: l.filter fun h => decide (g.start < h.start)

/-- The segment with the greatest start below a minute (R32). -/
def predecessor (l : List Segment) (start : Nat) : Segment :=
  ((l.filter fun h => decide (h.start < start)).getLast?).getD (l.headD Segment.reset)

/-- The encore limits a new segment's are compared with: the other's encore limits, or its ordinary limits
where it has none (R32). -/
def Segment.ceiling (g : Segment) : Pair Nat :=
  match g.kind with
  | .play => ⟨g.broad, g.low⟩
  | .curfew eb el => ⟨eb, el⟩

/-- Whether no limit of a segment is above the corresponding one of another (R32). -/
def Segment.noLooser (new old : Segment) : Bool :=
  decide (new.broad ≤ old.broad) && decide (new.low ≤ old.low) &&
    match new.kind with
    | .play => true
    | .curfew eb el => decide (eb ≤ old.ceiling.broad) && decide (el ≤ old.ceiling.low)

/-- Whether SHOW takes an insertion (R32). -/
def insertTightens (minute : Option Nat) (l : List Segment) (g : Segment) : Bool :=
  (match minute with
    | none => false
    | some p => decide (p < g.start)) && g.noLooser (predecessor l g.start)

/-- What an INSERT SEGMENT is refused with, if at all (R26, R190). -/
def insertRefusal (s : State) (z : ZoneId) (f : InsertFields) : Option ReplyCode :=
  let l := (s.tables.get z).segments
  let g := insertedSegment f
  if f.spareBits || !segmentKindKnown f.kind then some .badValue
  else if (segmentStarting l g.start).isSome then some .duplicate
  else if Config.segmentList ≤ l.length then some .full
  else if s.mode.isShow && !insertTightens s.minute l g then some .showLock
  else none

/-- INSERT SEGMENT (R26, R32). -/
def serveInsertSegment (zone : Nat) (f : InsertFields) (s : State) : Served :=
  forZone zone s fun z =>
    match insertRefusal s z f with
    | some code => (s, segmentReply code s z (segmentStarting (s.tables.get z).segments (insertedSegment f).start))
    | none =>
      let s := (s.onTable z fun t => { t with segments := placeSegment (insertedSegment f) t.segments }).reevaluate z
      (s, segmentReply .ok s z (some (insertedSegment f)))

/-- A segment after an EDIT SEGMENT (R27). -/
def editedSegment (f : EditFields) (g : Segment) : Segment :=
  let broad := (f.broad.map clampLevel).getD g.broad
  let low := (f.low.map clampLevel).getD g.low
  let eb := f.encoreBroad.map clampLevel
  let el := f.encoreLow.map clampLevel
  let kind :=
    match f.kind, g.kind with
    | none, .play => .play
    | none, .curfew b l => .curfew (eb.getD b) (el.getD l)
    | some 0, _ => .play
    | some _, .play => .curfew (eb.getD broad) (el.getD low)
    | some _, .curfew b l => .curfew (eb.getD b) (el.getD l)
  { g with kind := kind, broad := broad, low := low }

/-- What an EDIT SEGMENT of a segment is refused with, if at all (R27, R32, R190). -/
def editRefusal (s : State) (f : EditFields) (g : Segment) : Option ReplyCode :=
  if f.spareBits || !((f.kind.map segmentKindKnown).getD true) then some .badValue
  else if s.mode.isShow && !(editedSegment f g).noLooser g then some .showLock
  else none

/-- EDIT SEGMENT (R27, R32). -/
def serveEditSegment (zone : Nat) (f : EditFields) (s : State) : Served :=
  forZone zone s fun z =>
    match segmentStarting (s.tables.get z).segments f.start with
    | none => (s, segmentReply .noSuch s z none)
    | some g =>
      match editRefusal s f g with
      | some code => (s, segmentReply code s z (some g))
      | none =>
        let s := (s.onTable z fun t =>
          { t with
            segments := t.segments.map fun h => if h.start = f.start then editedSegment f h else h }).reevaluate z
        (s, segmentReply .ok s z (some (editedSegment f g)))

/-- DELETE SEGMENT (R27, R32). -/
def serveDeleteSegment (zone start : Nat) (s : State) : Served :=
  forZone zone s fun z =>
    match segmentStarting (s.tables.get z).segments start with
    | none => (s, segmentReply .noSuch s z none)
    | some g =>
      if start = 0 then (s, segmentReply .badValue s z (some g))
      else if s.mode.isShow then (s, segmentReply .showLock s z (some g))
      else
        let s := (s.onTable z fun t =>
          { t with segments := t.segments.filter fun h => decide (h.start ≠ start) }).reevaluate z
        (s, segmentReply .ok s z (some g))

/-- READ SCHEDULE (R192). -/
def serveReadSchedule (zone : Nat) (s : State) : Served := forZone zone s fun z => (s, scheduleReply s z)

/-! ## Stages -/

/-- The curfew unit's part in a coupling that has risen from 0 or fallen to 0 (R114). -/
def State.couplingMove (st : StageId) (z : ZoneId) (s : State) : State :=
  if coupled s st z then
    if (s.zones.get z).enabled && (s.tables.get z).inForce.kind.isCurfew then s.zoneJoins z st else s
  else s.zoneLeaves z st

/-- SET COUPLING taken: the value is stored and the target recomputed at once (R89, R93); a change between 0 and a value
above 0 is then handed to the curfew unit and the schedule (R90). The limits in force follow by themselves (R30). The
order of these owners shows nowhere: a coupling that brings an onset also keeps a booking from being lost (R122). -/
def State.takeCoupling (st : StageId) (z : ZoneId) (value : Nat) (s : State) : State :=
  let before := coupled s st z
  let s := s.onStage st fun g => { g with record := { g.record with coupling := g.record.coupling.set z value } }
  let s := s.recomputeTarget st
  if coupled s st z = before then s else (s.couplingMove st z).recomputeOnsets

/-- SET COUPLING (R89). -/
def serveSetCoupling (stage zone value : Nat) (s : State) : Served :=
  forStage stage s fun st =>
    forZone zone s fun z =>
      let v := clampTo 0 100 value
      if s.mode.isShow && decide (v < (s.stages.get st).record.coupling.get z) then
        (s, couplingReply .showLock s st)
      else
        let s := s.takeCoupling st z v
        (s, couplingReply .ok s st)

/-- A change mode by its number (R190). -/
def changeModeOf (n : Nat) : ChangeMode := if n = 0 then .hard else .soft

/-- The stage record after a SET STAGE that is taken, its change mode apart (R87). -/
def StageRecord.write (f : SetStageFields) (r : StageRecord) : StageRecord :=
  { r with
    failsafe := writeField 0 96 f.failsafe r.failsafe
    attack := writeField 1 100 f.attack r.attack
    releaseStep := writeField 50 2000 f.releaseStep r.releaseStep
    fadeStep := writeField 25 1000 f.fadeStep r.fadeStep
    resumeStep := writeField 10 500 f.resumeStep r.resumeStep
    lead := writeField 1 30 f.lead r.lead
    trim := writeField 0 24 f.trim r.trim }

/-- The change mode written, with its effect on the unit (R107). -/
def State.takeChangeMode (st : StageId) (mode : Option Nat) (s : State) : State :=
  match mode with
  | none => s
  | some n =>
    s.changeStage st fun g => ({ g with record := { g.record with mode := changeModeOf n } } : Stage).settleMode

/-- The target recomputed where the failsafe or the desk trim was written (R87, R93). -/
def State.takeFloor (st : StageId) (f : SetStageFields) (s : State) : State :=
  if f.failsafe.isSome || f.trim.isSome then s.recomputeTarget st else s

/-- SET STAGE taken (R87, R107, R117). -/
def State.takeStageRecord (st : StageId) (f : SetStageFields) (s : State) : State :=
  let (o, s) := s.takeOrder
  let s := s.onStage st fun g => { g with record := g.record.write f }
  let s :=
    if o.modeFirst then (s.takeChangeMode st f.changeMode).takeFloor st f
    else (s.takeFloor st f).takeChangeMode st f.changeMode
  if f.lead.isSome then s.soonTest st else s

/-- What a SET STAGE is refused with, if at all (R87, R190). -/
def stageRefusal (s : State) (st : StageId) (f : SetStageFields) : Option ReplyCode :=
  if (f.changeMode.map fun n => decide (1 < n)).getD false then some .badValue
  else if s.mode.isShow &&
      (f.failsafe.map fun n => decide (clampTo 0 96 n < (s.stages.get st).record.failsafe)).getD false then
    some .showLock
  else none

/-- SET STAGE (R87). -/
def serveSetStage (stage : Nat) (f : SetStageFields) (s : State) : Served :=
  forStage stage s fun st =>
    match stageRefusal s st f with
    | some code => (s, stageRecordReply code s st)
    | none =>
      let s := s.takeStageRecord st f
      (s, stageRecordReply .ok s st)

/-- MUTE NOW (R98). -/
def serveMuteNow (stage : Nat) (s : State) : Served :=
  forStage stage s fun st =>
    let s := s.changeStage st Stage.muteNow
    (s, stageGainReply .ok s st)

/-- FADE (R99). -/
def serveFade (stage : Nat) (s : State) : Served :=
  forStage stage s fun st =>
    let s := s.changeStage st (Stage.fadeOut s.now)
    (s, stageGainReply .ok s st)

/-- RELEASE (R100). -/
def serveRelease (stage : Nat) (s : State) : Served :=
  forStage stage s fun st =>
    let s := s.changeStage st (Stage.releaseReasons s.now)
    (s, stageGainReply .ok s st)

/-! ## Monitor slots -/

/-- ASSIGN MONITOR taken (R38). -/
def State.takeAssignment (a : SlotId) (z : ZoneId) (s : State) : State :=
  ((s.onLoop (Loop.assign a z)).raiseOfficer .unitChange).arbitrate

/-- What an ASSIGN MONITOR is refused with, if at all (R38). -/
def assignRefusal (s : State) (a : SlotId) (z : ZoneId) : Option ReplyCode :=
  if s.loop.serves z || decide (s.loop.slotState a ≠ .vacant) then some .duplicate
  else if s.mode.isShow then some .showLock
  else none

/-- ASSIGN MONITOR (R38). -/
def serveAssignMonitor (address zone : Nat) (s : State) : Served :=
  match slotAt address with
  | none => (s, codeAlone .noSuch)
  | some a =>
    forZone zone s fun z =>
      match assignRefusal s a z with
      | some code => (s, slotReply code s a)
      | none =>
        let s := s.takeAssignment a z
        (s, slotReply .ok s a)

/-- UNASSIGN MONITOR taken (R39). -/
def State.takeUnassignment (a : SlotId) (s : State) : State :=
  (s.onLoop (Loop.unassign a)).raiseOfficer .unitChange

/-- UNASSIGN MONITOR (R39). -/
def serveUnassignMonitor (address : Nat) (s : State) : Served :=
  match slotAt address with
  | none => (s, codeAlone .noSuch)
  | some a =>
    if s.loop.slotState a = .vacant then (s, slotReply .noSuch s a)
    else if s.mode.isShow then (s, slotReply .showLock s a)
    else
      let s := s.takeUnassignment a
      (s, slotReply .ok s a)

/-- The slots a READ MONITOR names (R54). -/
def slotsNamed (address : Nat) : Option (List SlotId) :=
  if address = 0 then some allSlots else (slotAt address).map fun a => [a]

/-- READ MONITOR (R54, R193): the record flags are cleared once the reply is formed. -/
def serveReadMonitor (address : Nat) (s : State) : Served :=
  match slotsNamed address with
  | none => (s, codeAlone .noSuch)
  | some l =>
    (s.onLoop fun k => l.foldl (fun k a => k.onSlot a UnitSlot.clearFlags) k, monitorReply s l)

/-! ## The time base -/

/-- What a SET TIME is refused with, if at all (R17). -/
def timeRefusal (s : State) (time : Nat) : Option ReplyCode :=
  if 86400 ≤ time then some .badValue
  else if s.mode.isShow && decide (120 < dayDistance time s.timeBase.timeOfDay) then some .showLock
  else none

/-- SET TIME (R17). -/
def serveSetTime (time : Nat) (s : State) : Served :=
  match timeRefusal s time with
  | some code => (s, timeReply code s)
  | none =>
    let s := s.takeTime time
    (s, timeReply .ok s)

/-- SELECT SOURCE (R18). A request that names the held source is taken (log entry 17). -/
def serveSelectSource (source : Nat) (s : State) : Served :=
  match source, s.timeBase.source with
  | 0, .internal => (s, timeReply .ok s)
  | 0, .pps =>
    let s := s.toInternal
    (s, timeReply .ok s)
  | 1, .pps => (s, timeReply .ok s)
  | 1, .internal =>
    if s.timeBase.pulsePresent s.now then
      let s := s.toPps
      (s, timeReply .ok s)
    else (s, timeReply .sourceAbsent s)
  | _, _ => (s, timeReply .badValue s)

/-! ## The show -/

/-- Whether the part may be armed (R187). -/
def mayArm (s : State) : Bool := decide (s.timeBase.state ≠ .unset) && noZone (unservedZones s)

/-- ARM SHOW (R187). -/
def serveArmShow (s : State) : Served :=
  if s.mode.isShow then (s, armReply .ok s)
  else if mayArm s then
    let s : State := { s with mode := .show }
    (s, armReply .ok s)
  else (s, armReply .notNow s)

/-- END SHOW (R126, R189). -/
def serveEndShow (s : State) : Served :=
  let ended := grantCount s
  let s := ({ s with mode := .setup } : State).eachStage State.endShowGrant
  (s, endShowReply ended s)

/-- SET POOL (R118). -/
def serveSetPool (minutes : Nat) (s : State) : Served :=
  let s := s.writePool minutes
  (s, poolReply s)

/-! ## Paths -/

/-- ENABLE PATH (R139). -/
def serveEnablePath (stage : Nat) (s : State) : Served :=
  forStage stage s fun st =>
    let s := s.onPath st (Path.enable s.now)
    (s, pathReply .ok s st)

/-- DISABLE PATH (R139). -/
def serveDisablePath (stage : Nat) (s : State) : Served :=
  forStage stage s fun st =>
    let s := s.onPath st Path.disable
    (s, pathReply .ok s st)

/-- ALIGN PATH (R140). -/
def serveAlignPath (stage : Nat) (s : State) : Served :=
  forStage stage s fun st =>
    if (s.paths.get st).state = .idle then (s, pathReply .notNow s st)
    else
      let s := s.onPath st Path.align
      (s, pathReply .ok s st)

/-- Whether a mask of alarms names a member beyond the four (R190). -/
def alarmsBeyond (m : Byte) : Bool := decide (16 ≤ m.toNat)

/-- SET PATH (R141). -/
def serveSetPath (stage : Nat) (f : SetPathFields) (s : State) : Served :=
  forStage stage s fun st =>
    if f.spareBits || (f.muteMask.map alarmsBeyond).getD false then (s, pathReply .badValue s st)
    else
      let s := s.onPath st (Path.write f)
      (s, pathReply .ok s st)

/-- CLEAR ALARMS (R137). -/
def serveClearAlarms (stage : Nat) (mask : Byte) (s : State) : Served :=
  forStage stage s fun st =>
    if alarmsBeyond mask then (s, pathReply .badValue s st)
    else
      let s := s.clearPathAlarms st (AlarmSet.ofMask mask)
      (s, pathReply .ok s st)

/-! ## Records -/

/-- READ RECORDS (R153). -/
def serveReadRecords (start count : Nat) (s : State) : Served :=
  (s, recordsReply s (clampTo 0 48 start) (clampTo 1 8 count))

/-- CLEAR CLOSED (R154). -/
def serveClearClosed (s : State) : Served :=
  let before := s.exceedances.records.length
  let s := s.clearClosedRecords
  let held := s.exceedances.records.length
  (s, [ReplyCode.ok.byte, byteOf (before - held), byteOf held])

/-! ## Notices of any link -/

/-- A link by its number (R194). -/
def linkOf (n : Nat) : Option LinkId :=
  match stageOf n with
  | some st => some (.desk st)
  | none => if n = 4 then some .officer else none

/-- Whether priorities name a kind beyond a link's own: there only FFh may stand (R194). -/
def prioritiesBeyond (l : LinkId) (p : List Nat) : Bool := (p.drop (linkKinds l)).any fun n => decide (n ≠ 255)

/-- Whether SET NOTICES is refused with BAD_VALUE (R190, R194). -/
def setNoticesRefused (l : LinkId) (f : SetNoticesFields) : Bool :=
  f.spareBits || (f.enables.map (maskBeyond l)).getD false || (f.priorities.map (prioritiesBeyond l)).getD false

/-- SET NOTICES (R194). -/
def serveSetNotices (link : Nat) (f : SetNoticesFields) (s : State) : Served :=
  match linkOf link with
  | none => (s, codeAlone .noSuch)
  | some l =>
    if setNoticesRefused l f then (s, setNoticesReply .badValue s l)
    else
      let s := s.onLink l (LinkInterface.write f.enables f.priorities)
      (s, setNoticesReply .ok s l)

/-! ## RESTART -/

/-- Every block's own reset, the exceedance list apart (R55, R61, R112, R126, R143, R168). -/
def State.resetBlocks (s : State) : State :=
  { s with
    loop := s.loop.restart
    zones := s.zones.map Zone.restart
    stages := s.stages.map Stage.restart
    pool := 0
    curfew := s.curfew.map Curfew.restart
    paths := s.paths.map (Path.restart s.now)
    links := s.links.emptyNotices }

/-- CURFEW added again to a stage that is in curfew (R126). -/
def State.curfewAgain (st : StageId) (s : State) : State :=
  if noZone (s.curfew.get st).zones then s else s.changeStage st (Stage.addCurfew s.now)

/-- The exceedance list at RESTART, with the close reports of the same moment that the RESTART overtakes (R155). -/
def State.restartList (o : Interleaving) (s : State) : State :=
  (s.emptyList (s.overtaken o)).takeOvertaken o (s.overtaken o)

/-- RESTART taken (R195): the resets, the exceedance list, the CURFEW reasons, the targets and the loop's next work. -/
def State.restartAll (s : State) : State :=
  let (o, s) := s.takeOrder
  (((s.resetBlocks.restartList o).eachStage State.curfewAgain).recomputeTargets).arbitrate

/-- RESTART (R195). -/
def serveRestart (s : State) : Served :=
  if s.mode.isShow then (s, restartReply .showLock s)
  else
    let s := s.restartAll
    (s, restartReply .ok s)

end Sys2Proof.Machine
end

