-- ==== Sys2Proof/Machine/Operands.lean ====
section
/-! DEFINITION. The operand forms: how the payload of a message is read into a request (R160, R169, R170,
R176, R180, R185, R191, R194), and which kinds a link permits. -/

namespace Sys2Proof.Machine

/-! ## Fields -/

/-- An optional field of `n` bytes: read where its presence bit is set. Absent overall where bytes are
missing. -/
def takeField (present : Bool) (n : Nat) (l : List Byte) : Option (Option (List Byte) × List Byte) :=
  if present then (if n ≤ l.length then some (some (l.take n), l.drop n) else none) else some (none, l)

/-- The number a field's bytes stand for, most significant byte first (R169). -/
def numberOf (l : List Byte) : Nat := l.foldl (fun a b => a * 256 + b.toNat) 0

/-- An optional number of `n` bytes. -/
def takeNumber (present : Bool) (n : Nat) (l : List Byte) : Option (Option Nat × List Byte) :=
  (takeField present n l).map fun r => (r.1.map numberOf, r.2)

/-- A number that its keep value leaves as it is (R191). -/
def keepAt (keep n : Nat) : Option Nat := if n = keep then none else some n

/-- A presence byte with a bit set beyond its first `n` (R190). -/
def spareSet (presence : Byte) (n : Nat) : Bool := decide (2 ^ n ≤ presence.toNat)

/-! ## Payloads -/

/-- SET DESK (R180). -/
def readSetDesk : List Byte → Option Request
  | [] => none
  | p :: l => do
    let (trim, l) ← takeNumber (p.getLsbD 0) 1 l
    let (lead, l) ← takeNumber (p.getLsbD 1) 1 l
    let (enables, l) ← takeNumber (p.getLsbD 2) 1 l
    let (prio, l) ← takeField (p.getLsbD 3) 6 l
    if l.isEmpty then
      some (.setDesk ⟨trim, lead, enables.map (BitVec.ofNat 8), prio.map (·.map BitVec.toNat), spareSet p 4⟩)
    else none

/-- The controller group of SET ZONE: four bytes, FFh leaving a field as it is (R191). -/
def readGroup : Option (List Byte) → Option Nat × Option Nat × Option Nat × Option Nat
  | some [a, b, c, d] =>
    (keepAt 255 a.toNat, keepAt 255 b.toNat, keepAt 255 c.toNat, keepAt 255 d.toNat)
  | _ => (none, none, none, none)

/-- The fallback pair of SET ZONE: two halves, FFFFh leaving a level as it is (R191). -/
def readFallbacks : Option (List Byte) → Option Nat × Option Nat
  | some [a, b, c, d] => (keepAt 65535 (word2 a b), keepAt 65535 (word2 c d))
  | _ => (none, none)

/-- SET ZONE (R191). -/
def readSetZone : List Byte → Option Request
  | z :: p :: l => do
    let (window, l) ← takeNumber (p.getLsbD 0) 1 l
    let (guardBand, l) ← takeNumber (p.getLsbD 1) 1 l
    let (fastMargin, l) ← takeNumber (p.getLsbD 2) 1 l
    let (releaseMargin, l) ← takeNumber (p.getLsbD 3) 1 l
    let (hysteresis, l) ← takeNumber (p.getLsbD 4) 1 l
    let (warnMargin, l) ← takeNumber (p.getLsbD 5) 1 l
    let (group, l) ← takeField (p.getLsbD 6) 4 l
    let (levels, l) ← takeField (p.getLsbD 7) 4 l
    let (a, b, c, d) := readGroup group
    let (fb, fl) := readFallbacks levels
    if l.isEmpty then
      some (.setZone z.toNat
        ⟨window, guardBand, fastMargin, releaseMargin, hysteresis, warnMargin, a, b, c, d, fb, fl⟩)
    else none
  | _ => none

/-- INSERT SEGMENT (R185). -/
def readInsert : List Byte → Option Request
  | z :: p :: s1 :: s0 :: k :: b1 :: b0 :: l1 :: l0 :: l => do
    let (eb, l) ← takeNumber (p.getLsbD 0) 2 l
    let (el, l) ← takeNumber (p.getLsbD 1) 2 l
    if l.isEmpty then
      some (.insertSegment z.toNat
        ⟨word2 s1 s0, k.toNat, word2 b1 b0, word2 l1 l0, eb, el, spareSet p 2⟩)
    else none
  | _ => none

/-- EDIT SEGMENT (R185). -/
def readEdit : List Byte → Option Request
  | z :: s1 :: s0 :: p :: l => do
    let (kind, l) ← takeNumber (p.getLsbD 0) 1 l
    let (broad, l) ← takeNumber (p.getLsbD 1) 2 l
    let (low, l) ← takeNumber (p.getLsbD 2) 2 l
    let (eb, l) ← takeNumber (p.getLsbD 3) 2 l
    let (el, l) ← takeNumber (p.getLsbD 4) 2 l
    if l.isEmpty then
      some (.editSegment z.toNat ⟨word2 s1 s0, kind, broad, low, eb, el, spareSet p 5⟩)
    else none
  | _ => none

/-- SET STAGE (R87, R185). -/
def readSetStage : List Byte → Option Request
  | st :: p :: l => do
    let (failsafe, l) ← takeNumber (p.getLsbD 0) 1 l
    let (mode, l) ← takeNumber (p.getLsbD 1) 1 l
    let (attack, l) ← takeNumber (p.getLsbD 2) 1 l
    let (rel, l) ← takeNumber (p.getLsbD 3) 2 l
    let (fadeStep, l) ← takeNumber (p.getLsbD 4) 2 l
    let (resume, l) ← takeNumber (p.getLsbD 5) 2 l
    let (lead, l) ← takeNumber (p.getLsbD 6) 1 l
    let (trim, l) ← takeNumber (p.getLsbD 7) 1 l
    if l.isEmpty then
      some (.setStage st.toNat ⟨failsafe, mode, attack, rel, fadeStep, resume, lead, trim⟩)
    else none
  | _ => none

/-- SET PATH (R141, R185). -/
def readSetPath : List Byte → Option Request
  | st :: p :: l => do
    let (d, l) ← takeNumber (p.getLsbD 0) 1 l
    let (m, l) ← takeNumber (p.getLsbD 1) 1 l
    let (f, l) ← takeNumber (p.getLsbD 2) 1 l
    if l.isEmpty then some (.setPath st.toNat ⟨d, m.map (BitVec.ofNat 8), f, spareSet p 3⟩) else none
  | _ => none

/-- SET NOTICES (R194). -/
def readSetNotices : List Byte → Option Request
  | k :: p :: l => do
    let (e, l) ← takeNumber (p.getLsbD 0) 2 l
    let (prio, l) ← takeField (p.getLsbD 1) 9 l
    if l.isEmpty then
      some (.setNotices k.toNat ⟨e.map (BitVec.ofNat 16), prio.map (·.map BitVec.toNat), spareSet p 2⟩)
    else none
  | _ => none

/-- A payload of no byte. -/
def readNone (r : Request) : List Byte → Option Request
  | [] => some r
  | _ => none

/-- A payload of one byte. -/
def readOne (f : Nat → Request) : List Byte → Option Request
  | [a] => some (f a.toNat)
  | _ => none

/-- A payload of two bytes. -/
def readTwo (f : Nat → Nat → Request) : List Byte → Option Request
  | [a, b] => some (f a.toNat b.toNat)
  | _ => none

/-- The mask of ACK NOTICES: one byte on a desk link, two on the officer link (R184). -/
def readAck (l : LinkId) (payload : List Byte) : Option Request :=
  match l, payload with
  | .desk _, [m] => some (.ackNotices (BitVec.ofNat 16 m.toNat))
  | .officer, [m1, m0] => some (.ackNotices (BitVec.ofNat 16 (word2 m1 m0)))
  | _, _ => none

/-! ## Kinds (R160, R170) -/

/-- Whether a kind byte names a request kind (R170). -/
def kindKnown (k : Nat) : Bool := (decide (1 ≤ k) && decide (k ≤ 7)) || (decide (0x10 ≤ k) && decide (k ≤ 0x2D))

/-- Whether a link permits a known kind (R160, R177). -/
def kindPermitted (l : LinkId) (k : Nat) : Bool :=
  match l with
  | .desk _ => decide (k ≤ 7)
  | .officer => decide (6 ≤ k)

/-- A payload read by its kind; absent where its length does not fit (R160.4, R170, R176, R185). -/
def readPayload (l : LinkId) (kind : Nat) (p : List Byte) : Option Request :=
  match kind with
  | 0x01 => readNone .stageStatus p
  | 0x02 => readNone .zoneView p
  | 0x03 => readSetDesk p
  | 0x04 => readOne .encore p
  | 0x05 => readNone .encoreEnd p
  | 0x06 => readNone .readNotices p
  | 0x07 => readAck l p
  | 0x10 => readSetZone p
  | 0x11 => readOne .enableZone p
  | 0x12 => readOne .disableZone p
  | 0x13 => readOne .readZone p
  | 0x14 => readInsert p
  | 0x15 => readEdit p
  | 0x16 => match p with
    | [z, s1, s0] => some (.deleteSegment z.toNat (word2 s1 s0))
    | _ => none
  | 0x17 => readOne .readSchedule p
  | 0x18 => match p with
    | [st, z, v] => some (.setCoupling st.toNat z.toNat v.toNat)
    | _ => none
  | 0x19 => readSetStage p
  | 0x1A => readTwo .assignMonitor p
  | 0x1B => readOne .unassignMonitor p
  | 0x1C => readOne .readMonitor p
  | 0x1D => match p with
    | [t2, t1, t0] => some (.setTime (numberOf [t2, t1, t0]))
    | _ => none
  | 0x1E => readOne .selectSource p
  | 0x1F => readNone .armShow p
  | 0x20 => readNone .endShow p
  | 0x21 => readOne .setPool p
  | 0x22 => readOne .muteNow p
  | 0x23 => readOne .fade p
  | 0x24 => readOne .release p
  | 0x25 => readOne .enablePath p
  | 0x26 => readOne .disablePath p
  | 0x27 => readOne .alignPath p
  | 0x28 => readSetPath p
  | 0x29 => match p with
    | [st, m] => some (.clearAlarms st.toNat m)
    | _ => none
  | 0x2A => readTwo .readRecords p
  | 0x2B => readNone .clearClosed p
  | 0x2C => readSetNotices p
  | 0x2D => readNone .restart p
  | _ => none

/-- The kind number of a request (R170). -/
def requestKind : Request → Byte
  | .unknownKind k => k
  | .forbidden k => k
  | .stageStatus => 0x01
  | .zoneView => 0x02
  | .setDesk _ => 0x03
  | .encore _ => 0x04
  | .encoreEnd => 0x05
  | .readNotices => 0x06
  | .ackNotices _ => 0x07
  | .setZone _ _ => 0x10
  | .enableZone _ => 0x11
  | .disableZone _ => 0x12
  | .readZone _ => 0x13
  | .insertSegment _ _ => 0x14
  | .editSegment _ _ => 0x15
  | .deleteSegment _ _ => 0x16
  | .readSchedule _ => 0x17
  | .setCoupling _ _ _ => 0x18
  | .setStage _ _ => 0x19
  | .assignMonitor _ _ => 0x1A
  | .unassignMonitor _ => 0x1B
  | .readMonitor _ => 0x1C
  | .setTime _ => 0x1D
  | .selectSource _ => 0x1E
  | .armShow => 0x1F
  | .endShow => 0x20
  | .setPool _ => 0x21
  | .muteNow _ => 0x22
  | .fade _ => 0x23
  | .release _ => 0x24
  | .enablePath _ => 0x25
  | .disablePath _ => 0x26
  | .alignPath _ => 0x27
  | .setPath _ _ => 0x28
  | .clearAlarms _ _ => 0x29
  | .readRecords _ _ => 0x2A
  | .clearClosed => 0x2B
  | .setNotices _ _ => 0x2C
  | .restart => 0x2D

/-! ## The judgement of a message (R160) -/

/-- A message without a line error becomes a request, or owes REJECT FORMAT: the length byte and the bytes
after it, judged by check, kind, link and length in that order (R160). -/
def judgeMessage (l : LinkId) (n : Nat) (bytes : List Byte) : Option Request :=
  if byteSum (byteOf n :: bytes) ≠ 0#8 then none
  else
    match bytes.dropLast with
    | [] => none
    | kind :: payload =>
      if !kindKnown kind.toNat then some (.unknownKind kind)
      else if !kindPermitted l kind.toNat then some (.forbidden kind)
      else readPayload l kind.toNat payload

end Sys2Proof.Machine
end

