-- ==== Sys2Proof/Machine/Link.lean ====
section
/-! DEFINITION. The link interfaces (R156 to R162): the receiver, the judging of messages, the owed rejects,
the pending place, the serving of requests, the transmitter, and the order of commands that arrive together. -/

namespace Sys2Proof.Machine

/-! ## Serving (R161, R162) -/

/-- The service of a request on a link: the state it leaves and the payload of its reply. A request of a kind
the link does not permit is answered FORBIDDEN, and nothing else is reached by it (R160, R162, R177). -/
def serveRequest (l : LinkId) (r : Request) (s : State) : Served :=
  match l, r with
  | _, .unknownKind k => (s, [ReplyCode.unknownKind.byte, k])
  | _, .forbidden _ => (s, codeAlone .forbidden)
  | l, .readNotices => serveReadNotices l s
  | l, .ackNotices m => serveAckNotices l m s
  | .desk st, .stageStatus => serveStageStatus st s
  | .desk st, .zoneView => serveZoneView st s
  | .desk st, .setDesk f => serveSetDesk st f s
  | .desk st, .encore m => serveEncore st m s
  | .desk st, .encoreEnd => serveEncoreEnd st s
  | .officer, .setZone z f => serveSetZone z f s
  | .officer, .enableZone z => serveEnableZone z s
  | .officer, .disableZone z => serveDisableZone z s
  | .officer, .readZone z => serveReadZone z s
  | .officer, .insertSegment z f => serveInsertSegment z f s
  | .officer, .editSegment z f => serveEditSegment z f s
  | .officer, .deleteSegment z start => serveDeleteSegment z start s
  | .officer, .readSchedule z => serveReadSchedule z s
  | .officer, .setCoupling st z v => serveSetCoupling st z v s
  | .officer, .setStage st f => serveSetStage st f s
  | .officer, .assignMonitor a z => serveAssignMonitor a z s
  | .officer, .unassignMonitor a => serveUnassignMonitor a s
  | .officer, .readMonitor a => serveReadMonitor a s
  | .officer, .setTime t => serveSetTime t s
  | .officer, .selectSource n => serveSelectSource n s
  | .officer, .armShow => serveArmShow s
  | .officer, .endShow => serveEndShow s
  | .officer, .setPool m => serveSetPool m s
  | .officer, .muteNow st => serveMuteNow st s
  | .officer, .fade st => serveFade st s
  | .officer, .release st => serveRelease st s
  | .officer, .enablePath st => serveEnablePath st s
  | .officer, .disablePath st => serveDisablePath st s
  | .officer, .alignPath st => serveAlignPath st s
  | .officer, .setPath st f => serveSetPath st f s
  | .officer, .clearAlarms st m => serveClearAlarms st m s
  | .officer, .readRecords i n => serveReadRecords i n s
  | .officer, .clearClosed => serveClearClosed s
  | .officer, .setNotices k f => serveSetNotices k f s
  | .officer, .restart => serveRestart s
  | _, _ => (s, codeAlone .forbidden)

/-- Whether a request is answered UNKNOWN_KIND. -/
def isUnknown : Request → Bool
  | .unknownKind _ => true
  | _ => false

/-- The reply message of a request with a payload (R170). -/
def replyFrame (r : Request) (payload : List Byte) : List Byte :=
  messageFrame (replyKind (isUnknown r) (requestKind r)) payload

/-- The transmitter goes to SENDING with a message (R161). The officer link takes its next request once that message has
been sent, so a RESTART can no longer come together with a close report from before it (R155, log entry 40). -/
def State.send (l : LinkId) (message : List Byte) (s : State) : State :=
  { s.onLink l (fun k => { k with transmitter := some message }) with
    reports := if l = .officer then [] else s.reports }

/-- A request is taken: its block serves it whole and its reply is sent (R161, R162). -/
def State.takeRequest (l : LinkId) (r : Request) (s : State) : State :=
  (serveRequest l r s).1.send l (replyFrame r (serveRequest l r s).2)

/-! ## The transmitter (R161) -/

/-- What the transmitter sends next: the oldest owed reject, else the reply to the request in the pending
place, else nothing. -/
def State.nextMessage (l : LinkId) (s : State) : State :=
  match (s.links.get l).owed, (s.links.get l).held with
  | c :: rest, _ => (s.onLink l fun k => { k with owed := rest }).send l (rejectFrame c)
  | [], some r => (s.onLink l fun k => { k with transmitter := none, held := none }).takeRequest l r
  | [], none => s.onLink l fun k => { k with transmitter := none }

/-- A code joins the owed rejects, unless it stands there already. -/
def LinkInterface.owe (c : Reject) (k : LinkInterface) : LinkInterface :=
  if c ∈ k.owed then k else { k with owed := k.owed ++ [c] }

/-- A reject becomes owed; an IDLE transmitter sends it at once (R161). -/
def State.oweReject (l : LinkId) (c : Reject) (s : State) : State :=
  let s := s.onLink l (LinkInterface.owe c)
  match (s.links.get l).transmitter with
  | none => s.nextMessage l
  | some _ => s

/-- A request reaches a link interface (R161). -/
def State.requestReaches (l : LinkId) (r : Request) (s : State) : State :=
  match (s.links.get l).transmitter, (s.links.get l).held with
  | none, _ => s.takeRequest l r
  | some _, none => s.onLink l fun k => { k with held := some r }
  | some _, some _ => s.oweReject l .busy

/-- A message has been sent (R161). -/
def State.messageSent (l : LinkId) (s : State) : State :=
  match (s.links.get l).transmitter with
  | none => s
  | some _ => s.nextMessage l

/-! ## The receiver (R157, R158) -/

/-- What a byte may bring about at a receiver. -/
inductive RxEvent where
  | badLength
  | frameEnd (n : Nat) (bytes : List Byte) (lineError : Bool)
deriving DecidableEq, Repr

/-- A receiver takes one byte (R157, R158). -/
def Receiver.take (b : LineByte) (r : Receiver) : Receiver × Option RxEvent :=
  match r with
  | .hunting =>
    if !b.lineError && b.byte == 0xA5#8 then (.inMessage .awaited [] false, none) else (.hunting, none)
  | .inMessage .awaited _ _ =>
    if b.lineError then (.inMessage .unknown [] true, none)
    else if decide (1 ≤ b.byte.toNat) && decide (b.byte.toNat ≤ 240) then
      (.inMessage (.known b.byte.toNat) [] false, none)
    else (.hunting, some .badLength)
  | .inMessage .unknown _ _ => (r, none)
  | .inMessage (.known n) l e =>
    let l := l ++ [b.byte]
    let e := e || b.lineError
    if n + 1 ≤ l.length then (.hunting, some (.frameEnd n l e)) else (.inMessage (.known n) l e, none)

/-- What a receiver's event brings about at its link (R157, R160). -/
def State.rxEvent (l : LinkId) (e : RxEvent) (s : State) : State :=
  match e with
  | .badLength => s.oweReject l .format
  | .frameEnd n bytes lineError =>
    if lineError then s.oweReject l .line
    else
      match judgeMessage l n bytes with
      | none => s.oweReject l .format
      | some r => s.requestReaches l r

/-- A link's interface receives one byte. -/
def State.receiveByte (l : LinkId) (b : LineByte) (s : State) : State :=
  let t := (s.links.get l).receiver.take b
  let s := s.onLink l fun k => { k with receiver := t.1 }
  match t.2 with
  | none => s
  | some e => s.rxEvent l e

/-- A link's interface receives bytes in order. -/
def State.receive (l : LinkId) (bytes : List LineByte) (s : State) : State :=
  bytes.foldl (fun s b => s.receiveByte l b) s

/-- The receiver gives up the message it is in and owes REJECT LINE (R158). -/
def State.dropMessage (l : LinkId) (s : State) : State :=
  (s.onLink l fun k => { k with receiver := .hunting }).oweReject l .line

/-- A gap of more than 5 ms (R158): a message in progress is given up. -/
def State.gap (l : LinkId) (s : State) : State :=
  match (s.links.get l).receiver with
  | .hunting => s
  | .inMessage _ _ _ => s.dropMessage l

/-- The line idle for more than 5 ms after a line error in the length byte (R158). -/
def State.idleAfterLengthError (l : LinkId) (s : State) : State :=
  match (s.links.get l).receiver with
  | .inMessage .unknown _ _ => s.dropMessage l
  | .inMessage .awaited _ _ => s
  | .inMessage (.known _) _ _ => s
  | .hunting => s

/-- A break (R159). -/
def State.breakFound (l : LinkId) (s : State) : State :=
  s.onLink l fun k => { k with receiver := .hunting, held := none, owed := [] }

/-! ## The arrival of commands (R125) -/

/-- The link and the request of a command that is a request reaching its link's interface (log entry 1). -/
def requestOf : Instr → Option (LinkId × Request)
  | .unknownKind l k => some (l, .unknownKind k)
  | .forbidden l k => some (l, .forbidden k)
  | .stageStatus d => some (.desk d, .stageStatus)
  | .zoneView d => some (.desk d, .zoneView)
  | .setDesk d f => some (.desk d, .setDesk f)
  | .encore d m => some (.desk d, .encore m)
  | .encoreEnd d => some (.desk d, .encoreEnd)
  | .readNotices l => some (l, .readNotices)
  | .ackNotices l m => some (l, .ackNotices m)
  | .setZone z f => some (.officer, .setZone z f)
  | .enableZone z => some (.officer, .enableZone z)
  | .disableZone z => some (.officer, .disableZone z)
  | .readZone z => some (.officer, .readZone z)
  | .insertSegment z f => some (.officer, .insertSegment z f)
  | .editSegment z f => some (.officer, .editSegment z f)
  | .deleteSegment z start => some (.officer, .deleteSegment z start)
  | .readSchedule z => some (.officer, .readSchedule z)
  | .setCoupling st z v => some (.officer, .setCoupling st z v)
  | .setStage st f => some (.officer, .setStage st f)
  | .assignMonitor a z => some (.officer, .assignMonitor a z)
  | .unassignMonitor a => some (.officer, .unassignMonitor a)
  | .readMonitor a => some (.officer, .readMonitor a)
  | .setTime t => some (.officer, .setTime t)
  | .selectSource n => some (.officer, .selectSource n)
  | .armShow => some (.officer, .armShow)
  | .endShow => some (.officer, .endShow)
  | .setPool m => some (.officer, .setPool m)
  | .muteNow st => some (.officer, .muteNow st)
  | .fade st => some (.officer, .fade st)
  | .release st => some (.officer, .release st)
  | .enablePath st => some (.officer, .enablePath st)
  | .disablePath st => some (.officer, .disablePath st)
  | .alignPath st => some (.officer, .alignPath st)
  | .setPath st f => some (.officer, .setPath st f)
  | .clearAlarms st m => some (.officer, .clearAlarms st m)
  | .readRecords i n => some (.officer, .readRecords i n)
  | .clearClosed => some (.officer, .clearClosed)
  | .setNotices l f => some (.officer, .setNotices l f)
  | .restart => some (.officer, .restart)
  | .powerOn | .expectedPoint | .ppsPulse _ | .windowClose | .lockLoss | .latnAsserted _ | .markSent
  | .loopResetDone | .identifyReply _ _ | .statusReply _ _ | .fetchReply _ | .replyTimeout | .replyBreak
  | .loopStall | .reseekExpiry _ | .settleExpiry _ | .rampExpiry _ | .frameArrival _ _ _
  | .outputFrameEvent | .noSignalExpiry _ | .messageEnd _ _ | .badLength _ _ | .interByteGap _ _
  | .lengthErrorIdle _ _ | .breakLine _ _ | .messageSent _ | .completeReplyFailed _ => none

/-- The link that a command comes from: a request row's, a receive row's, or that of the message that has been sent. -/
def commandLink (c : Instr) : Option LinkId :=
  match c with
  | .messageEnd l _ | .badLength l _ | .interByteGap l _ | .lengthErrorIdle l _ | .breakLine l _ | .messageSent l =>
    some l
  | c => (requestOf c).map Prod.fst

/-- A command's place among those of the links: the stages' desks, then the officer (R125). -/
def linkRank (c : Instr) : Nat := ((commandLink c).map linkNumber).getD 0

/-- A command put among those of the links, behind those of its own. -/
def insertByLink (c : Instr) : List Instr → List Instr
  | [] => [c]
  | d :: l => if linkRank c < linkRank d then c :: d :: l else d :: insertByLink c l

/-- Commands of the links by their links, those of one link as they stand. -/
def sortByLink (l : List Instr) : List Instr := l.foldl (fun q c => insertByLink c q) []

/-- A list with its commands of the links replaced, in their places, by others. -/
def replaceLinked : List Instr → List Instr → List Instr
  | _, [] => []
  | [], d :: l => d :: l
  | c :: sorted, d :: l =>
    if (commandLink d).isSome then c :: replaceLinked sorted l else d :: replaceLinked (c :: sorted) l

/-- Commands that reach the part together, so ordered that whatever requests the links take from them, as they come or
out of the pending places, reach the curfew unit in the order of its arbiter (R125): all of one link's before those of
the next, the officer's last. The commands of no link keep their places. -/
def arbiterOrder (l : List Instr) : List Instr :=
  replaceLinked (sortByLink (l.filter fun c => (commandLink c).isSome)) l

/-- Commands that arrive together join the queue in the arbiter's order (R125, log entry 25). -/
def State.arriveTogether (l : List Instr) (s : State) : State := { s with pending := s.pending ++ arbiterOrder l }

end Sys2Proof.Machine
end

