-- ==== Sys2Proof/Machine/Timers.lean ====
section
/-! DEFINITION. The events of the part's own timers, and which of them is due first (log entries 4 and 36). -/

namespace Sys2Proof.Machine

/-! ## The events -/

/-- The divider reaches the expected point (R15): a mark is issued, unless PPS steers the marks. -/
def State.expectedPoint (s : State) : State :=
  let s := s.advanceTo s.timeBase.expected
  if s.timeBase.steered then s
  else (s.onTimeBase fun t => { t with expected := t.expected + Config.second }).issueMark

/-- The acceptance window closes, 1 ms after the expected point (R20). -/
def State.windowEnd (s : State) : State :=
  if s.timeBase.steered then (s.advanceTo (s.timeBase.expected + Config.window)).windowCloses else s

/-- The lock is lost (R23). -/
def State.lockLost (s : State) : State :=
  match s.timeBase.lossMoment with
  | none => s
  | some m => ((s.advanceTo m).onTimeBase fun t => { t with state := .free }).timeEvent .lost

/-- A LOST slot's re-seek timer expires (R41). -/
def State.reseekExpires (a : SlotId) (s : State) : State :=
  match (s.loop.slots.get a).state, (s.loop.slots.get a).reseek with
  | .lost, .running due =>
    ((s.advanceTo due).onLoop (Loop.onSlot a fun u => { u with reseek := .probeDue })).arbitrate
  | _, _ => s

/-- A zone's settle timer expires (R76). -/
def State.settleExpires (z : ZoneId) (s : State) : State :=
  match (s.zones.get z).settle with
  | none => s
  | some due => (s.advanceTo due).onZone z fun zn => { zn with settle := none }

/-- A stage's ramp timer expires (R101). -/
def State.rampExpires (st : StageId) (s : State) : State :=
  match (s.stages.get st).ramp with
  | none => s
  | some r =>
    let s := s.advanceTo r.due
    s.changeStage st (Stage.rampStep s.now r.purpose)

/-- A path's no-signal timer expires (R135). -/
def State.noSignalExpires (st : StageId) (s : State) : State :=
  match (s.paths.get st).watch with
  | .present due => (s.advanceTo due).signalLost st
  | .notWatched => s
  | .absent => s

/-! ## The earliest -/

/-- A due moment with the command that stands for it. -/
abbrev Due := Nat × Instr

/-- The time base's own next event. -/
def TimeBase.due (t : TimeBase) : Due :=
  if t.steered then (t.expected + Config.window, .windowClose) else (t.expected, .expectedPoint)

/-- Every other timer that runs, in the order that decides among equal moments. -/
def State.otherDues (s : State) : List Due :=
  (s.timeBase.lossMoment.map fun m => ((m, Instr.lockLoss) : Due)).toList ++
  (allSlots.flatMap fun a =>
    match (s.loop.slots.get a).state, (s.loop.slots.get a).reseek with
    | .lost, .running due => [(due, Instr.reseekExpiry a)]
    | _, _ => []) ++
  (allZones.flatMap fun z => ((s.zones.get z).settle.map fun due => ((due, Instr.settleExpiry z) : Due)).toList) ++
  (allStages.flatMap fun st =>
    ((s.stages.get st).ramp.map fun r => ((r.due, Instr.rampExpiry st) : Due)).toList) ++
  (allStages.flatMap fun st =>
    match (s.paths.get st).watch with
    | .present due => [(due, Instr.noSignalExpiry st)]
    | _ => [])

/-- The earliest of some due moments, the first among equals. -/
def earliest (d : Due) (l : List Due) : Due := l.foldl (fun d e => if e.1 < d.1 then e else d) d

/-- The timer event that falls due first: the part always has one, since the divider always runs. -/
def State.nextDue (s : State) : Due := earliest s.timeBase.due s.otherDues

end Sys2Proof.Machine
end

