-- ==== Sys2Proof/Machine/Events.lean ====
section
/-! DEFINITION. The meanings of the event commands: the resets and timers of the part, its timing inputs, the
monitor loop, the audio paths and the links' lines. -/

namespace Sys2Proof.Machine

/-! ## Power-on and the time base -/

/-- POWER_ON (R14 and the power-on column of every block). What stands outside the part stays: the queue of
commands, the open orders and the level the units hold LATN at (log entry 27). -/
def execPowerOn (s : State) : Result :=
  .next { State.reset with
    orders := s.orders
    pending := s.pending
    loop := { Loop.reset with latn := s.loop.latn } }

/-- EXPECTED_POINT (R15, R20). -/
def execExpectedPoint (s : State) : Result := .next s.expectedPoint

/-- PPS_PULSE (R19 to R22): a rising edge at a moment. -/
def execPpsPulse (moment : Nat) (s : State) : Result := .next (s.advanceTo moment).pulse

/-- WINDOW_CLOSE (R20). -/
def execWindowClose (s : State) : Result := .next s.windowEnd

/-- LOCK_LOSS (R23). -/
def execLockLoss (s : State) : Result := .next s.lockLost

/-! ## The monitor loop -/

/-- LATN_ASSERTED (R45), with the level the units hold the line at (log entry 6). -/
def execLatnAsserted (level : Bool) (s : State) : Result :=
  let s := s.onLoop fun k => { k with latn := level }
  .next (if level then s.onLoop Loop.lookAtLatn else s).arbitrate

/-- MARK_SENT (R33, R44): the broadcast ends and the loop is free. With no MARK in flight nothing changes (log entry
46). -/
def execMarkSent (s : State) : Result :=
  match s.loop.flight.map Flight.transaction with
  | some (.mark _) => .next (s.onLoop Loop.free).arbitrate
  | _ => .next s

/-- LOOP_RESET_DONE (R50): the broadcast ends, the part releases LATN, and LATN is looked at afresh. With no LOOP
RESET in flight nothing changes (log entry 46). -/
def execLoopResetDone (s : State) : Result :=
  match s.loop.flight.map Flight.transaction with
  | some .loopReset => .next ((s.onLoop Loop.free).onLoop Loop.lookAtLatn).arbitrate
  | _ => .next s

/-- IDENTIFY_REPLY (R36, R40, R41). -/
def execIdentifyReply (kindCode serial : Nat) (s : State) : Result :=
  .next (s.completeReply (some (.identify kindCode serial)))

/-- STATUS_REPLY (R36, R46). -/
def execStatusReply (count : Nat) (health : Byte) (s : State) : Result :=
  .next (s.completeReply (some (.status count health)))

/-- FETCH_REPLY (R36, R46, R48). -/
def execFetchReply (record : Option MeasurementRecord) (s : State) : Result :=
  .next (s.completeReply (some (.fetched record)))

/-- REPLY_TIMEOUT (R36). -/
def execReplyTimeout (s : State) : Result := .next s.failAttempt

/-- REPLY_BREAK (R36). -/
def execReplyBreak (s : State) : Result := .next s.failAttempt

/-- COMPLETE_REPLY_FAILED (R36, R175): a frame as it came, judged like any complete reply (log entry 10). -/
def execCompleteReplyFailed (frame : List Byte) (s : State) : Result :=
  .next (s.completeReply (replyOfFrame frame))

/-- LOOP_STALL (R49, R53). -/
def execLoopStall (s : State) : Result := .next (s.loopMove (Loop.stall s.now)).arbitrate

/-- RESEEK_EXPIRY (R41). -/
def execReseekExpiry (slot : SlotId) (s : State) : Result := .next (s.reseekExpires slot)

/-! ## Zones, stages and paths -/

/-- SETTLE_EXPIRY (R76). -/
def execSettleExpiry (zone : ZoneId) (s : State) : Result := .next (s.settleExpires zone)

/-- RAMP_EXPIRY (R101 to R106). -/
def execRampExpiry (stage : StageId) (s : State) : Result := .next (s.rampExpires stage)

/-- FRAME_ARRIVAL (R127, R129 to R132, R135). -/
def execFrameArrival (stage : StageId) (frame : Frame) (strobe : Bool) (s : State) : Result :=
  .next (s.arrival stage frame strobe)

/-- OUTPUT_FRAME_EVENT (R127, R133): the one WCLK event reaches all four paths. -/
def execOutputFrameEvent (s : State) : Result := .next (s.eachStage State.outputAt)

/-- NO_SIGNAL_EXPIRY (R135). -/
def execNoSignalExpiry (stage : StageId) (s : State) : Result := .next (s.noSignalExpires stage)

/-! ## The links' lines -/

/-- MESSAGE_END (R157, R158, R160): the bytes that complete a message. -/
def execMessageEnd (link : LinkId) (bytes : List LineByte) (s : State) : Result := .next (s.receive link bytes)

/-- BAD_LENGTH (R157): the bytes up to a length byte of 0 or above 240. -/
def execBadLength (link : LinkId) (bytes : List LineByte) (s : State) : Result := .next (s.receive link bytes)

/-- INTER_BYTE_GAP (R158): the bytes before a gap of more than 5 ms. -/
def execInterByteGap (link : LinkId) (bytes : List LineByte) (s : State) : Result :=
  .next ((s.receive link bytes).gap link)

/-- LENGTH_ERROR_IDLE (R158): the bytes before the line has been idle for more than 5 ms. -/
def execLengthErrorIdle (link : LinkId) (bytes : List LineByte) (s : State) : Result :=
  .next ((s.receive link bytes).idleAfterLengthError link)

/-- BREAK (R159): the bytes before the line was held low. -/
def execBreakLine (link : LinkId) (bytes : List LineByte) (s : State) : Result :=
  .next ((s.receive link bytes).breakFound link)

/-- MESSAGE_SENT (R161). -/
def execMessageSent (link : LinkId) (s : State) : Result := .next (s.messageSent link)

/-! ## Requests that no block serves -/

/-- UNKNOWN_KIND (R160, R162, R170). -/
def execUnknownKind (link : LinkId) (kind : Byte) (s : State) : Result :=
  .next (s.requestReaches link (.unknownKind kind))

/-- FORBIDDEN (R160, R162, R177). -/
def execForbidden (link : LinkId) (kind : Byte) (s : State) : Result :=
  .next (s.requestReaches link (.forbidden kind))

end Sys2Proof.Machine
end

