-- ==== Sys2Proof/Machine/Requests.lean ====
section
/-! DEFINITION. The meanings of the request commands. Each is a sound request of its kind reaching the
interface of its link: served at once while the transmitter is IDLE, held in the pending place while it is
SENDING, or discarded for a REJECT BUSY (R161, log entry 1). -/

namespace Sys2Proof.Machine

/-! ## The desk kinds (R176) -/

/-- STAGE STATUS (R161, R178). -/
def execStageStatus (desk : StageId) (s : State) : Result :=
  .next (s.requestReaches (.desk desk) .stageStatus)

/-- ZONE VIEW (R161, R179). -/
def execZoneView (desk : StageId) (s : State) : Result := .next (s.requestReaches (.desk desk) .zoneView)

/-- SET DESK (R161, R181). -/
def execSetDesk (desk : StageId) (f : SetDeskFields) (s : State) : Result :=
  .next (s.requestReaches (.desk desk) (.setDesk f))

/-- ENCORE (R161, R182). -/
def execEncore (desk : StageId) (minutes : Nat) (s : State) : Result :=
  .next (s.requestReaches (.desk desk) (.encore minutes))

/-- ENCORE END (R161, R183). -/
def execEncoreEnd (desk : StageId) (s : State) : Result := .next (s.requestReaches (.desk desk) .encoreEnd)

/-! ## The kinds of every link (R184) -/

/-- READ NOTICES (R161, R165). -/
def execReadNotices (link : LinkId) (s : State) : Result := .next (s.requestReaches link .readNotices)

/-- ACK NOTICES (R161, R166). -/
def execAckNotices (link : LinkId) (mask : BitVec 16) (s : State) : Result :=
  .next (s.requestReaches link (.ackNotices mask))

/-! ## The officer kinds (R185) -/

/-- SET ZONE (R56). -/
def execSetZone (zone : Nat) (f : SetZoneFields) (s : State) : Result :=
  .next (s.requestReaches .officer (.setZone zone f))

/-- ENABLE ZONE (R59). -/
def execEnableZone (zone : Nat) (s : State) : Result := .next (s.requestReaches .officer (.enableZone zone))

/-- DISABLE ZONE (R60). -/
def execDisableZone (zone : Nat) (s : State) : Result :=
  .next (s.requestReaches .officer (.disableZone zone))

/-- READ ZONE (R83, R84). -/
def execReadZone (zone : Nat) (s : State) : Result := .next (s.requestReaches .officer (.readZone zone))

/-- INSERT SEGMENT (R26). -/
def execInsertSegment (zone : Nat) (f : InsertFields) (s : State) : Result :=
  .next (s.requestReaches .officer (.insertSegment zone f))

/-- EDIT SEGMENT (R27). -/
def execEditSegment (zone : Nat) (f : EditFields) (s : State) : Result :=
  .next (s.requestReaches .officer (.editSegment zone f))

/-- DELETE SEGMENT (R27). -/
def execDeleteSegment (zone : Nat) (start : Nat) (s : State) : Result :=
  .next (s.requestReaches .officer (.deleteSegment zone start))

/-- READ SCHEDULE (R192). -/
def execReadSchedule (zone : Nat) (s : State) : Result :=
  .next (s.requestReaches .officer (.readSchedule zone))

/-- SET COUPLING (R89, R90). -/
def execSetCoupling (stage : Nat) (zone : Nat) (value : Nat) (s : State) : Result :=
  .next (s.requestReaches .officer (.setCoupling stage zone value))

/-- SET STAGE (R87). -/
def execSetStage (stage : Nat) (f : SetStageFields) (s : State) : Result :=
  .next (s.requestReaches .officer (.setStage stage f))

/-- ASSIGN MONITOR (R38). -/
def execAssignMonitor (address : Nat) (zone : Nat) (s : State) : Result :=
  .next (s.requestReaches .officer (.assignMonitor address zone))

/-- UNASSIGN MONITOR (R39). -/
def execUnassignMonitor (address : Nat) (s : State) : Result :=
  .next (s.requestReaches .officer (.unassignMonitor address))

/-- READ MONITOR (R54). -/
def execReadMonitor (address : Nat) (s : State) : Result :=
  .next (s.requestReaches .officer (.readMonitor address))

/-- SET TIME (R17). -/
def execSetTime (time : Nat) (s : State) : Result := .next (s.requestReaches .officer (.setTime time))

/-- SELECT SOURCE (R18). -/
def execSelectSource (source : Nat) (s : State) : Result :=
  .next (s.requestReaches .officer (.selectSource source))

/-- ARM SHOW (R187). -/
def execArmShow (s : State) : Result := .next (s.requestReaches .officer .armShow)

/-- END SHOW (R126, R189). -/
def execEndShow (s : State) : Result := .next (s.requestReaches .officer .endShow)

/-- SET POOL (R118). -/
def execSetPool (minutes : Nat) (s : State) : Result := .next (s.requestReaches .officer (.setPool minutes))

/-- MUTE NOW (R98). -/
def execMuteNow (stage : Nat) (s : State) : Result := .next (s.requestReaches .officer (.muteNow stage))

/-- FADE (R99). -/
def execFade (stage : Nat) (s : State) : Result := .next (s.requestReaches .officer (.fade stage))

/-- RELEASE (R100). -/
def execRelease (stage : Nat) (s : State) : Result := .next (s.requestReaches .officer (.release stage))

/-- ENABLE PATH (R139). -/
def execEnablePath (stage : Nat) (s : State) : Result :=
  .next (s.requestReaches .officer (.enablePath stage))

/-- DISABLE PATH (R139). -/
def execDisablePath (stage : Nat) (s : State) : Result :=
  .next (s.requestReaches .officer (.disablePath stage))

/-- ALIGN PATH (R140). -/
def execAlignPath (stage : Nat) (s : State) : Result := .next (s.requestReaches .officer (.alignPath stage))

/-- SET PATH (R141). -/
def execSetPath (stage : Nat) (f : SetPathFields) (s : State) : Result :=
  .next (s.requestReaches .officer (.setPath stage f))

/-- CLEAR ALARMS (R137). -/
def execClearAlarms (stage : Nat) (mask : Byte) (s : State) : Result :=
  .next (s.requestReaches .officer (.clearAlarms stage mask))

/-- READ RECORDS (R153). -/
def execReadRecords (start : Nat) (count : Nat) (s : State) : Result :=
  .next (s.requestReaches .officer (.readRecords start count))

/-- CLEAR CLOSED (R154). -/
def execClearClosed (s : State) : Result := .next (s.requestReaches .officer .clearClosed)

/-- SET NOTICES (R194). -/
def execSetNotices (link : Nat) (f : SetNoticesFields) (s : State) : Result :=
  .next (s.requestReaches .officer (.setNotices link f))

/-- RESTART (R195). -/
def execRestart (s : State) : Result := .next (s.requestReaches .officer .restart)

end Sys2Proof.Machine
end

