-- ==== Sys2Proof/Machine/Dispatch.lean ====
section
/-! DEFINITION. The meaning of every command: one arm for each constructor of `Instr`. -/

namespace Sys2Proof.Machine

/-- What a command does to everything but the queue. -/
def exec (i : Instr) (s : State) : Host.Outcome State Fault Refusal :=
  match i with
  | .powerOn => Sys2Proof.Machine.execPowerOn s
  | .expectedPoint => Sys2Proof.Machine.execExpectedPoint s
  | .ppsPulse a => Sys2Proof.Machine.execPpsPulse a s
  | .windowClose => Sys2Proof.Machine.execWindowClose s
  | .lockLoss => Sys2Proof.Machine.execLockLoss s
  | .latnAsserted a => Sys2Proof.Machine.execLatnAsserted a s
  | .markSent => Sys2Proof.Machine.execMarkSent s
  | .loopResetDone => Sys2Proof.Machine.execLoopResetDone s
  | .identifyReply a b => Sys2Proof.Machine.execIdentifyReply a b s
  | .statusReply a b => Sys2Proof.Machine.execStatusReply a b s
  | .fetchReply a => Sys2Proof.Machine.execFetchReply a s
  | .replyTimeout => Sys2Proof.Machine.execReplyTimeout s
  | .replyBreak => Sys2Proof.Machine.execReplyBreak s
  | .loopStall => Sys2Proof.Machine.execLoopStall s
  | .reseekExpiry a => Sys2Proof.Machine.execReseekExpiry a s
  | .settleExpiry a => Sys2Proof.Machine.execSettleExpiry a s
  | .rampExpiry a => Sys2Proof.Machine.execRampExpiry a s
  | .frameArrival a b c => Sys2Proof.Machine.execFrameArrival a b c s
  | .outputFrameEvent => Sys2Proof.Machine.execOutputFrameEvent s
  | .noSignalExpiry a => Sys2Proof.Machine.execNoSignalExpiry a s
  | .messageEnd a b => Sys2Proof.Machine.execMessageEnd a b s
  | .badLength a b => Sys2Proof.Machine.execBadLength a b s
  | .interByteGap a b => Sys2Proof.Machine.execInterByteGap a b s
  | .lengthErrorIdle a b => Sys2Proof.Machine.execLengthErrorIdle a b s
  | .breakLine a b => Sys2Proof.Machine.execBreakLine a b s
  | .messageSent a => Sys2Proof.Machine.execMessageSent a s
  | .unknownKind a b => Sys2Proof.Machine.execUnknownKind a b s
  | .forbidden a b => Sys2Proof.Machine.execForbidden a b s
  | .stageStatus a => Sys2Proof.Machine.execStageStatus a s
  | .zoneView a => Sys2Proof.Machine.execZoneView a s
  | .setDesk a b => Sys2Proof.Machine.execSetDesk a b s
  | .encore a b => Sys2Proof.Machine.execEncore a b s
  | .encoreEnd a => Sys2Proof.Machine.execEncoreEnd a s
  | .readNotices a => Sys2Proof.Machine.execReadNotices a s
  | .ackNotices a b => Sys2Proof.Machine.execAckNotices a b s
  | .setZone a b => Sys2Proof.Machine.execSetZone a b s
  | .enableZone a => Sys2Proof.Machine.execEnableZone a s
  | .disableZone a => Sys2Proof.Machine.execDisableZone a s
  | .readZone a => Sys2Proof.Machine.execReadZone a s
  | .insertSegment a b => Sys2Proof.Machine.execInsertSegment a b s
  | .editSegment a b => Sys2Proof.Machine.execEditSegment a b s
  | .deleteSegment a b => Sys2Proof.Machine.execDeleteSegment a b s
  | .readSchedule a => Sys2Proof.Machine.execReadSchedule a s
  | .setCoupling a b c => Sys2Proof.Machine.execSetCoupling a b c s
  | .setStage a b => Sys2Proof.Machine.execSetStage a b s
  | .assignMonitor a b => Sys2Proof.Machine.execAssignMonitor a b s
  | .unassignMonitor a => Sys2Proof.Machine.execUnassignMonitor a s
  | .readMonitor a => Sys2Proof.Machine.execReadMonitor a s
  | .setTime a => Sys2Proof.Machine.execSetTime a s
  | .selectSource a => Sys2Proof.Machine.execSelectSource a s
  | .armShow => Sys2Proof.Machine.execArmShow s
  | .endShow => Sys2Proof.Machine.execEndShow s
  | .setPool a => Sys2Proof.Machine.execSetPool a s
  | .muteNow a => Sys2Proof.Machine.execMuteNow a s
  | .fade a => Sys2Proof.Machine.execFade a s
  | .release a => Sys2Proof.Machine.execRelease a s
  | .enablePath a => Sys2Proof.Machine.execEnablePath a s
  | .disablePath a => Sys2Proof.Machine.execDisablePath a s
  | .alignPath a => Sys2Proof.Machine.execAlignPath a s
  | .setPath a b => Sys2Proof.Machine.execSetPath a b s
  | .clearAlarms a b => Sys2Proof.Machine.execClearAlarms a b s
  | .readRecords a b => Sys2Proof.Machine.execReadRecords a b s
  | .clearClosed => Sys2Proof.Machine.execClearClosed s
  | .setNotices a b => Sys2Proof.Machine.execSetNotices a b s
  | .restart => Sys2Proof.Machine.execRestart s
  | .completeReplyFailed a => Sys2Proof.Machine.execCompleteReplyFailed a s

end Sys2Proof.Machine
end

