-- ==== Sys2Proof/Machine/Unit.lean ====
section
/-! DEFINITION. What the part requires of a boundary monitor unit (R34, R35), as a machine of its own. A unit
stands outside the part: State holds none, and the loop's reply commands stand for what the units send (log
entry 22). -/

namespace Sys2Proof.Machine

/-- A monitor unit: its unread queue, oldest first, whether it has been identified, the record it remembers
with its fetch number, its kind code, serial number and health flags. -/
structure MonitorUnit where
  unread : List MeasurementRecord
  identified : Bool
  remembered : Option (Nat × MeasurementRecord)
  kindCode : Nat
  serial : Nat
  health : Byte
deriving DecidableEq, Repr

/-- A unit right after its own power-up: not identified (R34). R34 and R35 do not give its unread queue, its remembered
record or its health flags then; here the queue is empty, no record is remembered and no health flag is set (DESIGN
CHOICE, log entry 48). -/
def MonitorUnit.powerUp (kindCode serial : Nat) : MonitorUnit := ⟨[], false, none, kindCode, serial, 0#8⟩

/-- A MARK with a tag (R34): the measurement just finished, stamped with the tag below, joins the unread queue,
pushing out the oldest of four. At the first MARK after its power-up a unit has begun no measurement at a previous
MARK, and the spec does not say what it does; here it makes a record of what it has measured since its power-up
(DESIGN CHOICE, log entry 37). -/
def MonitorUnit.hearMark (tag : Nat) (measured : MeasurementRecord) (u : MonitorUnit) : MonitorUnit :=
  { u with
    unread := (if 4 ≤ u.unread.length then u.unread.drop 1 else u.unread) ++
      [{ measured with tag := tagPlus tag 65535 }] }

/-- A LOOP RESET (R34): the identification and the remembered record are forgotten. -/
def MonitorUnit.hearReset (u : MonitorUnit) : MonitorUnit := { u with identified := false, remembered := none }

/-- Whether the unit holds LATN (R34). -/
def MonitorUnit.holdsLatn (u : MonitorUnit) : Bool := !u.unread.isEmpty && u.identified

/-- The answer to IDENTIFY (R35). -/
def MonitorUnit.answerIdentify (u : MonitorUnit) : MonitorUnit × Reply :=
  ({ u with identified := true, remembered := none }, .identify u.kindCode u.serial)

/-- The answer to STATUS (R35). -/
def MonitorUnit.answerStatus (u : MonitorUnit) : MonitorUnit × Reply :=
  (u, .status u.unread.length u.health)

/-- The answer to a FETCH that is no repeat (R35). -/
def MonitorUnit.answerNew (n : Nat) (u : MonitorUnit) : MonitorUnit × Reply :=
  match u.unread with
  | [] => (u, .fetched none)
  | r :: rest => ({ u with unread := rest, remembered := some (n, r) }, .fetched (some r))

/-- The answer to FETCH with a number (R35). -/
def MonitorUnit.answerFetch (n : Nat) (u : MonitorUnit) : MonitorUnit × Reply :=
  match u.remembered with
  | none => u.answerNew n
  | some (m, r) => if n = m then (u, .fetched (some r)) else u.answerNew n

end Sys2Proof.Machine
end

