-- ==== Sys2Proof/Safety.lean ====
section
/-! DEFINITION. The terms the claims use: how a command completes, and what a sound state of the part is, block by
block, as the ranges and ties that the spec's rules give each item. Each block's is an invariant of its own;
`State.Sound` is all of them together. -/

namespace Sys2Proof.Machine

/-! ## How a command completes -/

/-- The command completes, and the state it leaves has a property. -/
def leadsTo (c : Instr) (s : State) (P : State → Prop) : Prop := ∃ t, exec c s = .next t ∧ P t

/-- A link's transmitter is IDLE (R161): a request that reaches the link is taken at once. -/
abbrev idle (l : LinkId) (s : State) : Prop := (s.links.get l).transmitter = none

/-- The command is taken at once on a link: it leaves `u`, with the reply of a kind and a payload being sent on
the link. On the officer link that reply also ends the keeping of close reports, which is the model's choice (log entry
40). -/
abbrev completes (c : Instr) (l : LinkId) (s u : State) (kind : Byte) (payload : List Byte) : Prop :=
  exec c s = .next (u.send l (messageFrame kind payload))

/-- The message a link is sending, if any, as its kind and payload. -/
def sentReply (l : LinkId) (s : State) : Option (Byte × List Byte) :=
  match (s.links.get l).transmitter with
  | some (_ :: _ :: kind :: rest) => some (kind, rest.dropLast)
  | _ => none

/-- A command is a request that reaches a stage's own desk link. -/
def fromDesk (c : Instr) (n : StageId) : Bool :=
  match requestOf c with
  | some (l, _) => decide (l = .desk n)
  | none => false

/-! ## The layouts of the requests (R169, R176, R180, R185, R191, R194) -/

/-- A presence byte: bit 0 for the first flag and so on, with every bit beyond them where `spare` holds. -/
def presenceByte (flags : List Bool) (spare : Bool) : Byte :=
  byteOf ((flags.mapIdx fun i b => bitOf b i).sum + if spare then 256 - 2 ^ flags.length else 0)

/-- An optional field of one byte. -/
def byteField (n : Option Nat) : List Byte := n.toList.map byteOf

/-- An optional field of two bytes. -/
def wordField (n : Option Nat) : List Byte := n.toList.flatMap bytes2

/-- An optional field of one byte for each priority. -/
def priorityField (l : Option (List Nat)) : List Byte := l.toList.flatMap fun p => p.map byteOf

def setDeskLayout (f : SetDeskFields) : List Byte :=
  presenceByte [f.trim.isSome, f.lead.isSome, f.enables.isSome, f.priorities.isSome] f.spareBits ::
  (byteField f.trim ++ byteField f.lead ++ f.enables.toList ++ priorityField f.priorities)

/-- The controller group and the fallback pair are sent where any of their fields is given, the others of the group
or pair with the keep value (R191). -/
def setZoneLayout (f : SetZoneFields) : List Byte :=
  let group := f.fastStep.isSome || f.attackCap.isSome || f.settlePeriod.isSome || f.releaseInterval.isSome
  let levels := f.fallbackBroad.isSome || f.fallbackLow.isSome
  presenceByte [f.window.isSome, f.guardBand.isSome, f.fastMargin.isSome, f.releaseMargin.isSome,
    f.hysteresis.isSome, f.warnMargin.isSome, group, levels] false ::
  (byteField f.window ++ byteField f.guardBand ++ byteField f.fastMargin ++ byteField f.releaseMargin ++
    byteField f.hysteresis ++ byteField f.warnMargin ++
    (if group then
      [f.fastStep, f.attackCap, f.settlePeriod, f.releaseInterval].map fun n => byteOf (n.getD 255)
    else []) ++
    (if levels then bytes2 (f.fallbackBroad.getD 65535) ++ bytes2 (f.fallbackLow.getD 65535) else []))

def insertLayout (f : InsertFields) : List Byte :=
  presenceByte [f.encoreBroad.isSome, f.encoreLow.isSome] f.spareBits ::
  (bytes2 f.start ++ byteOf f.kind :: (bytes2 f.broad ++ bytes2 f.low ++ wordField f.encoreBroad ++
    wordField f.encoreLow))

def editLayout (f : EditFields) : List Byte :=
  bytes2 f.start ++
  presenceByte [f.kind.isSome, f.broad.isSome, f.low.isSome, f.encoreBroad.isSome, f.encoreLow.isSome]
    f.spareBits ::
  (byteField f.kind ++ wordField f.broad ++ wordField f.low ++ wordField f.encoreBroad ++ wordField f.encoreLow)

def setStageLayout (f : SetStageFields) : List Byte :=
  presenceByte [f.failsafe.isSome, f.changeMode.isSome, f.attack.isSome, f.releaseStep.isSome,
    f.fadeStep.isSome, f.resumeStep.isSome, f.lead.isSome, f.trim.isSome] false ::
  (byteField f.failsafe ++ byteField f.changeMode ++ byteField f.attack ++ wordField f.releaseStep ++
    wordField f.fadeStep ++ wordField f.resumeStep ++ byteField f.lead ++ byteField f.trim)

def setPathLayout (f : SetPathFields) : List Byte :=
  presenceByte [f.delay.isSome, f.muteMask.isSome, f.followStrobe.isSome] f.spareBits ::
  (byteField f.delay ++ f.muteMask.toList ++ byteField f.followStrobe)

def setNoticesLayout (f : SetNoticesFields) : List Byte :=
  presenceByte [f.enables.isSome, f.priorities.isSome] f.spareBits ::
  (wordField (f.enables.map BitVec.toNat) ++ priorityField f.priorities)

/-- The payload that carries a request on a link; nothing for the two that stand for a message of another kind. -/
def requestPayload (l : LinkId) : Request → List Byte
  | .unknownKind _ | .forbidden _ => []
  | .stageStatus | .zoneView | .encoreEnd | .readNotices | .armShow | .endShow | .clearClosed | .restart => []
  | .setDesk f => setDeskLayout f
  | .encore n | .enableZone n | .disableZone n | .readZone n | .readSchedule n | .unassignMonitor n
  | .readMonitor n | .selectSource n | .setPool n | .muteNow n | .fade n | .release n | .enablePath n
  | .disablePath n | .alignPath n => [byteOf n]
  | .ackNotices m =>
    match l with
    | .desk _ => [byteOf m.toNat]
    | .officer => bytes2 m.toNat
  | .setZone z f => byteOf z :: setZoneLayout f
  | .insertSegment z f => byteOf z :: insertLayout f
  | .editSegment z f => byteOf z :: editLayout f
  | .deleteSegment z start => byteOf z :: bytes2 start
  | .setCoupling st z v => [byteOf st, byteOf z, byteOf v]
  | .setStage st f => byteOf st :: setStageLayout f
  | .assignMonitor a z => [byteOf a, byteOf z]
  | .setTime t => bytes3 t
  | .setPath st f => byteOf st :: setPathLayout f
  | .clearAlarms st m => [byteOf st, m]
  | .readRecords i n => [byteOf i, byteOf n]
  | .setNotices k f => byteOf k :: setNoticesLayout f

/-- The kind at a position is pending on a link (R164). -/
abbrev noticeAt (l : LinkId) (n : Nat) (s : State) : Bool := (s.links.get l).noticeSet.getLsbD n

/-- The commands that carry or stand for a moment: every other command leaves the present moment as it is. -/
def movesTime : Instr → Bool
  | .powerOn | .expectedPoint | .ppsPulse _ | .windowClose | .lockLoss | .reseekExpiry _ | .settleExpiry _
  | .rampExpiry _ | .noSignalExpiry _ => true
  | _ => false

/-- A number within a range, both ends included. -/
abbrev within (lo hi n : Nat) : Prop := lo ≤ n ∧ n ≤ hi

/-! ## Link interfaces (R156, R161, R167, R168) -/

/-- The parts of a receive state in their ranges (R156, R157). -/
def receiverOk : Receiver → Bool
  | .inMessage (.known n) l _ => decide (1 ≤ n) && decide (n ≤ 240) && decide (l.length ≤ n)
  | .inMessage _ l _ => l.isEmpty
  | .hunting => true

/-- One interface: ALERT exact, sets within the link's kinds, priorities 0..3, owed rejects each at most once,
and nothing waiting while the transmitter is IDLE. -/
abbrev linkOk (l : LinkId) (k : LinkInterface) : Prop :=
  k.alert = ((k.noticeSet &&& k.enables) != 0#16) ∧
  k.noticeSet.toNat < 2 ^ linkKinds l ∧ k.enables.toNat < 2 ^ linkKinds l ∧
  k.priorities.length = linkKinds l ∧ (∀ p ∈ k.priorities, p ≤ 3) ∧
  k.owed.Nodup ∧ receiverOk k.receiver = true ∧
  (k.transmitter = none → k.held = none ∧ k.owed = [])

abbrev linksOk (s : State) : Prop :=
  (∀ st : StageId, linkOk (.desk st) (s.links.desk.get st)) ∧ linkOk .officer s.links.officer

/-! ## Stage attenuation units (R85, R86, R94 to R106, R109) -/

abbrev stageRecordOk (r : StageRecord) : Prop :=
  (∀ z : ZoneId, r.coupling.get z ≤ 100) ∧ r.failsafe ≤ 96 ∧ within 1 100 r.attack ∧
  within 50 2000 r.releaseStep ∧ within 25 1000 r.fadeStep ∧ within 10 500 r.resumeStep ∧
  within 1 30 r.lead ∧ r.trim ≤ 24

/-- The purpose a stage's ramp timer runs for, absent while it is stopped. -/
abbrev rampPurpose (g : Stage) : Option RampPurpose := g.ramp.map Ramp.purpose

/-- One unit: the gain state against the reasons (R95), and the applied attenuation and the timer against the
target in each gain state (R102 to R106). -/
abbrev stageOk (g : Stage) : Prop :=
  stageRecordOk g.record ∧ g.target ≤ 96 ∧ g.applied ≤ 96 ∧
  (g.reasons.isEmpty = false → g.gain = .fading ∨ g.gain = .muted) ∧
  (g.reasons.isEmpty = true → g.gain = .opened ∨ g.gain = .resuming) ∧
  (g.gain = .muted → g.applied = 96 ∧ g.ramp = none) ∧
  (g.gain = .fading → g.target ≤ g.applied ∧ g.applied < 96 ∧ rampPurpose g = some .fade) ∧
  (g.gain = .resuming → g.target < g.applied ∧ rampPurpose g = some .resume) ∧
  (g.gain = .opened → g.record.mode = .hard → g.applied = g.target ∧ g.ramp = none) ∧
  (g.gain = .opened → g.record.mode = .soft →
    (g.applied < g.target → rampPurpose g = some .attack) ∧
    (g.target < g.applied → rampPurpose g = some .release) ∧
    (g.applied = g.target → g.ramp = none))

abbrev stagesOk (s : State) : Prop := ∀ st : StageId, stageOk (s.stages.get st)

/-- Every stage holds the target its inputs give (R93). -/
abbrev targetsOk (s : State) : Prop := ∀ st : StageId, (s.stages.get st).target = targetOf s st

/-! ## Time base (R14) -/

abbrev timeOk (s : State) : Prop :=
  s.timeBase.tag < 65536 ∧ s.timeBase.timeOfDay < 86400 ∧ s.timeBase.lockCount ≤ 2 ∧
  (s.timeBase.state = .unset → s.timeBase.timeOfDay = 0) ∧
  (s.timeBase.state = .locked → s.timeBase.source = .pps) ∧
  (s.timeBase.source = .internal ∨ s.timeBase.state = .unset → s.timeBase.lockCount = 0)

/-! ## Schedule tables (R25, R28) -/

abbrev levelOk (l : Nat) : Prop := within 400 1300 l

def segmentKindOk : SegmentKind → Bool
  | .play => true
  | .curfew eb el => decide (levelOk eb) && decide (levelOk el)

abbrev segmentOk (g : Segment) : Prop :=
  g.start ≤ 1439 ∧ levelOk g.broad ∧ levelOk g.low ∧ segmentKindOk g.kind = true

/-- One table: 1 to 8 segments in strictly increasing order of start, the first at 0, and the segment in force
the one the programme minute gives. -/
abbrev tableOk (minute : Option Nat) (t : Table) : Prop :=
  t.segments.length ≤ 8 ∧ (t.segments.head?.map Segment.start) = some 0 ∧
  (t.segments.map Segment.start).Pairwise (· < ·) ∧ (∀ g ∈ t.segments, segmentOk g) ∧
  t.inForce = segmentAt t.segments minute

abbrev tablesOk (s : State) : Prop := ∀ z : ZoneId, tableOk s.minute (s.tables.get z)

/-! ## Zone accounts (R56, R58, R69 to R71, R75, R77, R80) -/

abbrev zoneConfigOk (c : ZoneConfig) : Prop :=
  within 1 15 c.window ∧ c.guardBand ≤ 50 ∧ c.fastMargin ≤ 200 ∧ c.releaseMargin ≤ 100 ∧
  c.hysteresis ≤ 50 ∧ c.warnMargin ≤ 100 ∧ within 1 12 c.fastStep ∧ within 1 8 c.attackCap ∧
  within 1 30 c.settlePeriod ∧ within 1 60 c.releaseInterval ∧ levelOk c.fallback.broad ∧
  levelOk c.fallback.low

abbrev fastFlagOk (f : FastFlag) : Prop := f.quiet ≤ 2 ∧ (f.isSet = false → f.quiet = 0)

/-- The rings of one account: at most ten figures per metric, each at most 2^40, and at most fifteen slots, each
of 1 to 60 seconds, no more of them substituted than counted, with sums within 60 × 2^40. -/
abbrev ringsOk (zn : Zone) : Prop :=
  zn.seconds.broad.length ≤ 10 ∧ zn.seconds.low.length ≤ 10 ∧
  (∀ e ∈ zn.seconds.broad, e ≤ 2 ^ 40) ∧ (∀ e ∈ zn.seconds.low, e ≤ 2 ^ 40) ∧
  zn.slots.length ≤ 15 ∧
  (∀ m ∈ zn.slots, within 1 60 m.counted ∧ m.substituted ≤ m.counted ∧
    m.sums.broad ≤ m.counted * 2 ^ 40 ∧ m.sums.low ≤ m.counted * 2 ^ 40)

/-- The hold levels and the levels of the last close are in the accounting range where they are present. -/
abbrev levelsOk (zn : Zone) : Prop :=
  (∀ h ∈ zn.hold, levelOk h.broad ∧ levelOk h.low) ∧
  (∀ v ∈ zn.levels, ∀ m ∈ [Metric.broad, Metric.low],
    levelOk (v.get m).closing ∧ levelOk (v.get m).short ∧ levelOk (v.get m).rolling)

/-- One account: a disabled zone holds the disabled values, an enabled one its feed state by the missing run. -/
abbrev zoneOk (zn : Zone) : Prop :=
  zoneConfigOk zn.config ∧ (zn.enabled = false → zn = zn.cleared) ∧
  (zn.enabled = true → zn.feed = feedOf zn.missingRun) ∧ zn.missingRun ≤ 255 ∧ zn.demand ≤ 96 ∧
  zn.releaseCount ≤ 59 ∧ fastFlagOk zn.fast.broad ∧ fastFlagOk zn.fast.low ∧
  (zn.levels = none ↔ zn.slots = []) ∧ ringsOk zn ∧ levelsOk zn

abbrev zonesOk (s : State) : Prop := ∀ z : ZoneId, zoneOk (s.zones.get z)

/-! ## Curfew unit (R113 to R118) -/

/-- The zones a stage's curfew zone set must hold (R113). -/
abbrev inCurfew (s : State) (st : StageId) (z : ZoneId) : Bool :=
  reaches s st z && (s.tables.get z).inForce.kind.isCurfew

def grantOk (c : Curfew) : Bool :=
  match c.grant with
  | .none => !c.endSoon
  | .booked m => !c.endSoon && decide (1 ≤ m) && noZone c.zones
  | .running m e => decide (1 ≤ m) && decide (e < 65536) && !noZone c.zones

/-- One stage's items and their ties to the stage, the zones and the tables. -/
abbrev curfewOk (s : State) (st : StageId) : Prop :=
  (s.curfew.get st).zones = Bank8.ofFn (inCurfew s st) ∧
  (s.curfew.get st).onsetTag.isSome = !noZone (s.curfew.get st).zones ∧
  (s.curfew.get st).total ≤ 15 ∧ grantOk (s.curfew.get st) = true ∧
  (s.stages.get st).reasons.curfew =
    (!noZone (s.curfew.get st).zones && !(s.curfew.get st).grant.isRunning)

abbrev curfewsOk (s : State) : Prop := s.pool ≤ 30 ∧ ∀ st : StageId, curfewOk s st

/-! ## Stage audio paths (R128, R130) -/

/-- The state of one path against its buffer, its write index and its watch. -/
def pathStateOk (p : Path) : Bool :=
  match p.state, p.writeIndex with
  | .idle, none => p.buffer.isEmpty && decide (p.watch = .notWatched)
  | .idle, some _ => false
  | .aligning, none => p.buffer.isEmpty && decide (p.watch ≠ .notWatched)
  | .aligning, some n =>
    decide (n < 16) && decide (1 ≤ p.buffer.length) && decide (p.buffer.length < p.delay) &&
      decide (p.watch ≠ .notWatched)
  | .running, some n => decide (n < 16) && decide (p.watch ≠ .notWatched)
  | .running, none => false

abbrev pathOk (p : Path) : Prop :=
  p.buffer.length ≤ 32 ∧ within 2 30 p.delay ∧ pathStateOk p = true

abbrev pathsOk (s : State) : Prop := ∀ st : StageId, pathOk (s.paths.get st)

/-! ## Exceedance list (R144, R145, R151) -/

/-- The zone, metric and kind of a record. -/
abbrev recordKey (r : Exceedance) : ZoneId × Metric × RecordKind := (r.zone, r.metric, r.kind)

abbrev recordOk (r : Exceedance) : Prop :=
  r.number < 65536 ∧ within 1 65535 r.duration ∧ r.substituted ≤ r.duration ∧
  (r.cause = none → r.endMinute = none)

/-- The list: at most 48 records, at most one open for each zone, metric and kind. -/
abbrev recordsOk (s : State) : Prop :=
  s.exceedances.records.length ≤ 48 ∧ s.exceedances.counter < 65536 ∧
  (∀ r ∈ s.exceedances.records, recordOk r) ∧
  ((s.exceedances.records.filter Exceedance.isOpen).map recordKey).Nodup

/-- A record is open for a zone, metric and kind exactly while its condition is OVER, or its FAST flag set, in a zone
that has levels (R146); a disabled zone has none open (R150). A zone that has not closed a second since a RESTART may
still have one open from a close report that the RESTART overtook (R155). -/
abbrev recordsAgree (s : State) : Prop :=
  ∀ z : ZoneId,
    ((s.zones.get z).enabled = false →
      s.exceedances.records.any (fun r => r.isOpen && decide (r.zone = z)) = false) ∧
    ((s.zones.get z).levels ≠ none → ∀ m ∈ [Metric.broad, Metric.low],
      (s.exceedances.records.any (Exceedance.isFor z (m, .rolling)) =
        decide ((s.zones.get z).conditions.get m = .over)) ∧
      (s.exceedances.records.any (Exceedance.isFor z (m, .fast)) = ((s.zones.get z).fast.get m).isSet))

/-- The kept close reports: one for a zone, of enabled zones (the model's own, log entry 40). -/
abbrev reportsOk (s : State) : Prop :=
  (s.reports.map fun r => r.report.zone).Nodup ∧
  ∀ r ∈ s.reports, (s.zones.get r.report.zone).enabled = true

/-! ## Monitor loop (R33, R37, R43, R45, R47) -/

/-- One slot: VACANT with every field at its power-on value, a zone exactly while not VACANT, a lost cause
exactly while LOST, and the re-seek timer at work only in LOST. -/
abbrev slotOk (u : UnitSlot) : Prop :=
  (u.state = .vacant → u = UnitSlot.reset) ∧ (u.zone.isSome = decide (u.state ≠ .vacant)) ∧
  (u.cause.isSome = decide (u.state = .lost)) ∧ u.failed ≤ 3 ∧ u.nextFetch ≤ 255 ∧
  (u.reseek ≠ .stopped → u.state = .lost)

/-- No two slots serve one zone (R37). -/
abbrev slotsApart (k : Loop) : Prop :=
  ∀ a b : SlotId, a ≠ b → (k.slots.get a).zone.isSome = true → (k.slots.get a).zone ≠ (k.slots.get b).zone

/-- A transaction whose outcome counts is about a slot in the state that gives it work (R37, R40, R41, R46). -/
def flightOk (k : Loop) : Bool :=
  match k.flight with
  | none => true
  | some f =>
    f.disregarded ||
      match f.transaction with
      | .identify a false => decide (k.slotState a = .seeking)
      | .identify a true => decide (k.slotState a = .lost)
      | .status a => decide (k.slotState a = .active)
      | .fetch a _ => decide (k.slotState a = .active)
      | .mark _ => true
      | .loopReset => true

/-- A loop that is free has no work waiting (R33). -/
abbrev loopBusy (k : Loop) : Prop :=
  k.flight = none →
    k.pendingMark = none ∧ k.pendingReset = false ∧ k.scan = none ∧ k.identification = none

/-- While a unit asserts LATN, no slot is ACTIVE without a scan in progress, a LOOP RESET apart (R45, R47,
R50). -/
abbrev latnHeeded (k : Loop) : Prop :=
  k.latn = true → k.scan = none → k.pendingReset = false →
    k.flight.map Flight.transaction ≠ some .loopReset → k.activeFrom 0 = none

/-- Identification work goes before a scan that is in progress (R47). -/
abbrev scanOk (k : Loop) : Prop := k.identifyFirst = true → k.scan.isSome = true

abbrev loopOk (s : State) : Prop :=
  (∀ a : SlotId, slotOk (s.loop.slots.get a)) ∧ slotsApart s.loop ∧ flightOk s.loop = true ∧
  loopBusy s.loop ∧ latnHeeded s.loop ∧ scanOk s.loop

/-! ## All together -/

abbrev State.Sound (s : State) : Prop :=
  linksOk s ∧ stagesOk s ∧ targetsOk s ∧ timeOk s ∧ tablesOk s ∧ zonesOk s ∧ curfewsOk s ∧ pathsOk s ∧
  recordsOk s ∧ recordsAgree s ∧ reportsOk s ∧ loopOk s

end Sys2Proof.Machine
end

