-- ==== Sys2Proof/WellFormed.lean ====
section
/-! DEFINITION. Which commands a sender can send at all: every operand fits the field that carries it in
the spec's layouts (R170, R175, R176, R185), the priority lists have the length of their link's kinds, and
an audio sample is a signed 24-bit integer (R127). A value that fits its field and is out of the range a
rule gives is well formed: the rule clamps or refuses it. -/

namespace Sys2Proof

/-- A field of one byte. -/
def fitsByte (n : Nat) : Bool := n < 256

/-- A field of two bytes. -/
def fitsWord (n : Nat) : Bool := n < 65536

def optFits (fits : Nat → Bool) : Option Nat → Bool
  | none => true
  | some n => fits n

/-- A signed 24-bit sample. -/
def fitsSample (x : Int) : Bool := decide (-8388608 ≤ x) && decide (x ≤ 8388607)

/-- A priority list of `n` kinds, one byte each. -/
def prioritiesFit (n : Nat) : Option (List Nat) → Bool
  | none => true
  | some l => l.length == n && l.all fitsByte

def SetDeskFields.wf (f : SetDeskFields) : Bool :=
  optFits fitsByte f.trim && optFits fitsByte f.lead && prioritiesFit 6 f.priorities

def SetZoneFields.wf (f : SetZoneFields) : Bool :=
  optFits fitsByte f.window && optFits fitsByte f.guardBand && optFits fitsByte f.fastMargin &&
  optFits fitsByte f.releaseMargin && optFits fitsByte f.hysteresis && optFits fitsByte f.warnMargin &&
  optFits (· < 255) f.fastStep && optFits (· < 255) f.attackCap &&
  optFits (· < 255) f.settlePeriod && optFits (· < 255) f.releaseInterval &&
  optFits (· < 65535) f.fallbackBroad && optFits (· < 65535) f.fallbackLow

def InsertFields.wf (f : InsertFields) : Bool :=
  fitsWord f.start && fitsByte f.kind && fitsWord f.broad && fitsWord f.low &&
  optFits fitsWord f.encoreBroad && optFits fitsWord f.encoreLow

def EditFields.wf (f : EditFields) : Bool :=
  fitsWord f.start && optFits fitsByte f.kind && optFits fitsWord f.broad && optFits fitsWord f.low &&
  optFits fitsWord f.encoreBroad && optFits fitsWord f.encoreLow

def SetStageFields.wf (f : SetStageFields) : Bool :=
  optFits fitsByte f.failsafe && optFits fitsByte f.changeMode && optFits fitsByte f.attack &&
  optFits fitsWord f.releaseStep && optFits fitsWord f.fadeStep && optFits fitsWord f.resumeStep &&
  optFits fitsByte f.lead && optFits fitsByte f.trim

def SetPathFields.wf (f : SetPathFields) : Bool :=
  optFits fitsByte f.delay && optFits fitsByte f.followStrobe

def SetNoticesFields.wf (f : SetNoticesFields) : Bool := prioritiesFit 9 f.priorities

def MeasurementRecord.wf (r : MeasurementRecord) : Bool :=
  fitsWord r.tag && fitsWord r.broadRaw && fitsWord r.lowRaw

def Frame.wf (f : Frame) : Bool := f.toList.all fitsSample

/-- A mask of a link's notice kinds as the link's own requests carry it: one byte on a desk link. -/
def maskFits (l : LinkId) (m : BitVec 16) : Bool :=
  match l with
  | .desk _ => decide (m.toNat < 256)
  | .officer => true

/-- A command whose operands fit the fields that carry them. -/
def Instr.wf : Instr → Bool
  | .powerOn | .expectedPoint | .ppsPulse _ | .windowClose | .lockLoss | .latnAsserted _ | .markSent
  | .loopResetDone | .replyTimeout | .replyBreak | .loopStall | .reseekExpiry _ | .settleExpiry _
  | .rampExpiry _ | .outputFrameEvent | .noSignalExpiry _ => true
  | .identifyReply k serial => fitsByte k && decide (serial < 4294967296)
  | .statusReply c _ => fitsByte c
  | .fetchReply none => true
  | .fetchReply (some r) => r.wf
  | .completeReplyFailed _ => true
  | .frameArrival _ f _ => f.wf
  | .messageEnd _ _ | .badLength _ _ | .interByteGap _ _ | .lengthErrorIdle _ _ | .breakLine _ _ => true
  | .messageSent _ | .unknownKind _ _ | .forbidden _ _ => true
  | .stageStatus _ | .zoneView _ | .encoreEnd _ | .readNotices _ => true
  | .setDesk _ f => f.wf
  | .encore _ m => fitsByte m
  | .ackNotices l m => maskFits l m
  | .setZone z f => fitsByte z && f.wf
  | .enableZone z | .disableZone z | .readZone z | .readSchedule z => fitsByte z
  | .insertSegment z f => fitsByte z && f.wf
  | .editSegment z f => fitsByte z && f.wf
  | .deleteSegment z st => fitsByte z && fitsWord st
  | .setCoupling st z v => fitsByte st && fitsByte z && fitsByte v
  | .setStage st f => fitsByte st && f.wf
  | .assignMonitor a z => fitsByte a && fitsByte z
  | .unassignMonitor a | .readMonitor a => fitsByte a
  | .setTime t => decide (t < 16777216)
  | .selectSource v => fitsByte v
  | .armShow | .endShow | .clearClosed | .restart => true
  | .setPool m => fitsByte m
  | .muteNow st | .fade st | .release st | .enablePath st | .disablePath st | .alignPath st => fitsByte st
  | .setPath st f => fitsByte st && f.wf
  | .clearAlarms st _ => fitsByte st
  | .readRecords i n => fitsByte i && fitsByte n
  | .setNotices l f => fitsByte l && f.wf

end Sys2Proof
end

