-- ==== Sys2Proof/Certificates/Slice0/Obligations.lean ====
section
/-! DEFINITION. What this package states about the model, for the provers. Each docstring names the rule of the
spec that a statement formalises, or the log entry whose choice it describes. -/

open Sys2Proof Sys2Proof.Machine

/-! ## The block and its queue -/

/-- A step with a command at the front of the queue is that command's meaning on the state with the queue's
rest. -/
def Obligations.StepRunsFrontCommand : Prop :=
  ∀ (c : Instr) (rest : List Instr) (s : State),
    s.pending = c :: rest → step s = exec c { s with pending := rest }

/-- With no command waiting, a step is the timer event that falls due first among all that run. That the idle
step does so is the model's choice (log entry 4). -/
def Obligations.IdleStepTakesEarliestTimer : Prop :=
  ∀ s : State, s.pending = [] →
    step s = exec s.nextDue.2 s ∧
    s.nextDue ∈ s.timeBase.due :: s.otherDues ∧
    (∀ d ∈ s.timeBase.due :: s.otherDues, s.nextDue.1 ≤ d.1)

/-- Every command completes in every state, and none touches the queue: the part refuses by a reply code, never
by stopping (R161, R162). Time never goes back, power-on apart, and only the timers' events and a pulse move it: that
moments work so is the model's choice (log entries 2 and 3). -/
def Obligations.EveryCommandCompletes : Prop :=
  ∀ (c : Instr) (s : State),
    leadsTo c s fun t =>
      t.pending = s.pending ∧ (c ≠ .powerOn → s.now ≤ t.now) ∧ (movesTime c = false → t.now = s.now)

/-- POWER_ON gives every block its power-on values, whatever went before (R14, R25, R37, R56, R58, R85, R86, R113,
R128, R144, R156, R186). The model's choices among these values are the moment 0, counted from power-on (log entry 2), the
moment 0 of the last mark (log entry 7), the empty list of kept reports (log entry 40), and that what stands outside the
part is kept (log entry 27). -/
def Obligations.PowerOnGivesPowerOnValues : Prop :=
  ∀ s : State, leadsTo .powerOn s fun t =>
    t.mode = .setup ∧ t.now = 0 ∧ t.pool = 0 ∧ t.exceedances = ⟨[], 0⟩ ∧
    t.reports = [] ∧
    t.timeBase =
      { state := .unset, source := .internal, tag := 0, timeOfDay := 0, expected := 1000000, lockCount := 0
        lastPulse := none, lastEvent := none, lastMark := 0, firstEmpty := none } ∧
    (∀ z : ZoneId,
      t.tables.get z = ⟨[⟨0, .play, 1300, 1300⟩], ⟨0, .play, 1300, 1300⟩⟩ ∧
      t.zones.get z =
        { config := ⟨15, 10, 100, 20, 5, 20, 4, 2, 5, 3, ⟨850, 900⟩⟩, enabled := false, feed := .idle
          awaiting := none, missingRun := 0, hold := none, seconds := ⟨[], []⟩, slots := [], levels := none
          conditions := ⟨.clear, .clear⟩, fast := ⟨⟨false, 0⟩, ⟨false, 0⟩⟩, demand := 0, settle := none
          releaseCount := 0, snapshot := ⟨⟨.clear, false⟩, ⟨.clear, false⟩⟩ }) ∧
    (∀ st : StageId,
      t.stages.get st =
        ⟨⟨Bank8.fill 0, 24, .soft, 10, 250, 125, 50, 10, 0⟩, ⟨true, false, false⟩, .muted, 24, 96, none⟩ ∧
      t.curfew.get st = ⟨Bank8.fill false, none, .none, false, 0, none⟩ ∧
      (t.paths.get st).state = .idle ∧ (t.paths.get st).buffer = [] ∧
      (t.paths.get st).writeIndex = none ∧ (t.paths.get st).alarms = AlarmSet.empty ∧
      (t.paths.get st).watch = .notWatched ∧ (t.paths.get st).delay = 8 ∧
      (t.paths.get st).muteMask = ⟨true, true, true, true⟩ ∧ (t.paths.get st).followStrobe = false) ∧
    (∀ a : SlotId, t.loop.slots.get a =
      { state := .vacant, zone := none, cause := none, failed := 0, late := false, misdated := false
        serial := none, health := none, nextFetch := 0, reseek := .stopped }) ∧
    t.loop.flight = none ∧ t.loop.pendingMark = none ∧ t.loop.pendingReset = false ∧ t.loop.scan = none ∧
    t.loop.identifyFirst = false ∧ t.loop.latn = s.loop.latn ∧
    (∀ l : LinkId,
      t.links.get l =
        { receiver := .hunting, transmitter := none, held := none, owed := [], noticeSet := 0#16, enables := 0#16
          priorities := List.replicate (if l = .officer then 9 else 6) 0, alert := false }) ∧
    t.pending = s.pending ∧ t.orders = s.orders

/-! ## Levels, energies and gains -/

/-- Energy-to-level gives the greatest level whose figure does not exceed M, and so the exact round trip, no
overstatement, and a monotone conversion (R4). -/
def Obligations.ConversionsAreMatched : Prop :=
  (∀ M : Nat, 1024 ≤ M → M ≤ 2 ^ 40 →
    within 400 1300 (energyToLevel M) ∧ levelToEnergy (energyToLevel M) ≤ M ∧
    ∀ L : Nat, within 400 1300 L → levelToEnergy L ≤ M → L ≤ energyToLevel M) ∧
  (∀ L : Nat, within 400 1300 L → energyToLevel (levelToEnergy L) = L) ∧
  (∀ M L : Nat, within 400 1300 L → M ≤ levelToEnergy L → energyToLevel M ≤ L) ∧
  (∀ M N : Nat, M ≤ N → energyToLevel M ≤ energyToLevel N)

/-- The level of a collection lies between its lowest and its highest member level, and is the common level where
all agree (R6). -/
def Obligations.CollectionLevelLiesBetweenMembers : Prop :=
  ∀ (lo hi : Nat) (l : List Nat), l ≠ [] → 400 ≤ lo → hi ≤ 1300 → (∀ x ∈ l, lo ≤ x ∧ x ≤ hi) →
    within lo hi (levelOfList (l.map fun x => levelToEnergy (x : Int)))

/-- Ceiling division is the least integer not below the quotient, and the weighting of a demand by a coupling has
the five properties R9 names. -/
def Obligations.WeightingOfDemand : Prop :=
  (∀ a b : Nat, 0 < b →
    ceilDiv a b = (a + b - 1) / b ∧ a ≤ b * ceilDiv a b ∧ ∀ n : Nat, a ≤ b * n → ceilDiv a b ≤ n) ∧
  (∀ d c : Nat, d ≤ 96 → c ≤ 100 →
    (d = 0 ∨ c = 0 → ceilDiv (d * c) 100 = 0) ∧
    (1 ≤ d → 1 ≤ c → 1 ≤ ceilDiv (d * c) 100) ∧
    ceilDiv (d * c) 100 ≤ d ∧ ceilDiv (d * 100) 100 = d) ∧
  (∀ d e c f : Nat, d ≤ e → c ≤ f → ceilDiv (d * c) 100 ≤ ceilDiv (e * f) 100)

/-- The gains by the table: unity at 0, 128 at 96, each twelve steps a halving, and a strict fall (R11). Every output
sample is 0, or no larger than its input and of no opposite sign; a deeper attenuation never gives a greater
magnitude (R13). -/
def Obligations.GainsFallAndSamplesNeverGrow : Prop :=
  ((∀ a : Nat, a ≤ 96 → ∀ T : List Nat,
      T = [32768, 30929, 29193, 27554, 26008, 24548, 23170, 21870, 20643, 19484, 18390, 17358] →
      gain a = T.getD (a % 12) 0 / 2 ^ (a / 12)) ∧
    gain 0 = 32768 ∧ gain 96 = 128 ∧ (∀ a : Nat, a ≤ 84 → gain (a + 12) = gain a / 2) ∧
    (∀ a b : Nat, a < b → b ≤ 96 → gain b < gain a)) ∧
  (∀ (g : Stage) (muted : Bool) (f : Frame) (c : Fin 8), g.applied ≤ 96 →
    -8388608 ≤ f.get c → f.get c ≤ 8388607 →
    ((outputFrame g muted f).get c).natAbs ≤ (f.get c).natAbs ∧
    (0 ≤ f.get c → 0 ≤ (outputFrame g muted f).get c) ∧
    (f.get c ≤ 0 → (outputFrame g muted f).get c ≤ 0)) ∧
  (∀ (a b : Nat) (x : Int), a ≤ b → b ≤ 96 → -8388608 ≤ x → x ≤ 8388607 →
    (scaleSample x (gain b)).natAbs ≤ (scaleSample x (gain a)).natAbs)

/-! ## The time base -/

/-- An unsteered expected point issues a mark (R15): tag and time of day advance, the next expected point is one
second later, and the MARK begins on a free loop or waits in the pending place (R44). The premise `loopBusy`, that a free
loop has no work waiting (R33), is part of the invariant that LoopStaysSound states. That the command moves time to the
expected point, or leaves it where that is already past, is the model's choice (log entry 4). -/
def Obligations.ExpectedPointIssuesMark : Prop :=
  ∀ s : State, loopBusy s.loop → s.timeBase.source = .internal ∨ s.timeBase.state = .unset →
    leadsTo .expectedPoint s fun t =>
      t.now = max s.now s.timeBase.expected ∧
      t.timeBase = { s.timeBase with
        tag := (s.timeBase.tag + 1) % 65536
        timeOfDay :=
          if s.timeBase.state = .unset then s.timeBase.timeOfDay else (s.timeBase.timeOfDay + 1) % 86400
        expected := s.timeBase.expected + 1000000
        lastMark := max s.now s.timeBase.expected } ∧
      (s.loop.flight = none →
        t.loop = { s.loop with
          pendingMark := none
          flight := some ⟨.mark t.timeBase.tag, false⟩
          sent := withCheck ([0#8, 4#8] ++ bytes2 t.timeBase.tag) }) ∧
      (s.loop.flight ≠ none → t.loop = { s.loop with pendingMark := some t.timeBase.tag }) ∧
      t.paths = s.paths ∧ t.mode = s.mode

/-- With source PPS in FREE or LOCKED, reaching the expected point issues no mark; the window's close with no pulse
issues it 1 ms late and keeps the divider's phase (R20). Without steering there is no window. In LOCKED, 1.5 s after
the expected point of the first empty window since the last pulse, the state becomes FREE with TIME_EVENT raised;
without such a window there is no loss (R23). That these commands move time to their due moments and have no effect
without a running timer is the model's choice (log entry 4), and `firstEmpty` is how it holds R23's window (log entry
8). -/
def Obligations.MissingPulsesKeepPhaseThenLoseLock : Prop :=
  ∀ s : State,
    (s.timeBase.source = .pps → s.timeBase.state ≠ .unset →
      exec .expectedPoint s = .next { s with now := max s.now s.timeBase.expected } ∧
      leadsTo .windowClose s fun t =>
        t.now = max s.now (s.timeBase.expected + 1000) ∧
        t.timeBase = { s.timeBase with
          tag := (s.timeBase.tag + 1) % 65536
          timeOfDay := (s.timeBase.timeOfDay + 1) % 86400
          expected := s.timeBase.expected + 1000000
          lockCount := 0
          firstEmpty := some (s.timeBase.firstEmpty.getD s.timeBase.expected)
          lastMark := max s.now (s.timeBase.expected + 1000) }) ∧
    (s.timeBase.source = .internal ∨ s.timeBase.state = .unset → exec .windowClose s = .next s) ∧
    (∀ p : Nat, s.timeBase.state = .locked → s.timeBase.firstEmpty = some p →
      exec .lockLoss s = .next (({ s with
        now := max s.now (p + 1500000)
        timeBase := { s.timeBase with state := .free, lastEvent := some .lost } } : State).raiseOfficer
          .timeEvent)) ∧
    (s.timeBase.state ≠ .locked ∨ s.timeBase.firstEmpty = none → exec .lockLoss s = .next s)

/-- The three fates of a pulse, and its record in every state (R19 to R22): inside the window it issues the mark and
counts toward the lock; outside it cuts the second short from 500 ms after the last mark on, and lengthens it
before that. That a pulse carries its moment, and that both ends of the window lie inside, is the model's choice
(log entries 3 and 30). -/
def Obligations.PulseFollowsWhereItFalls : Prop :=
  ∀ (s : State) (m : Nat), s.now ≤ m →
    (s.timeBase.source = .internal ∨ s.timeBase.state = .unset →
      exec (.ppsPulse m) s =
        .next { s with now := m, timeBase := { s.timeBase with lastPulse := some m, firstEmpty := none } }) ∧
    (s.timeBase.source = .pps → s.timeBase.state ≠ .unset →
      (s.timeBase.expected ≤ m + 1000 ∧ m ≤ s.timeBase.expected + 1000 →
        leadsTo (.ppsPulse m) s fun t =>
          t.timeBase = { s.timeBase with
            tag := (s.timeBase.tag + 1) % 65536
            timeOfDay := (s.timeBase.timeOfDay + 1) % 86400
            expected := m + 1000000
            lockCount := min 2 (s.timeBase.lockCount + 1)
            lastPulse := some m
            firstEmpty := none
            lastMark := m
            state :=
              if s.timeBase.state = .free ∧ min 2 (s.timeBase.lockCount + 1) = 2 then .locked
              else s.timeBase.state
            lastEvent :=
              if s.timeBase.state = .free ∧ min 2 (s.timeBase.lockCount + 1) = 2 then some .locked
              else s.timeBase.lastEvent }) ∧
      (¬(s.timeBase.expected ≤ m + 1000 ∧ m ≤ s.timeBase.expected + 1000) →
        (s.timeBase.lastMark + 500000 ≤ m →
          leadsTo (.ppsPulse m) s fun t =>
            noticeAt .officer 6 t = true ∧
            t.timeBase = { s.timeBase with
              tag := (s.timeBase.tag + 1) % 65536
              timeOfDay := (s.timeBase.timeOfDay + 1) % 86400
              expected := m + 1000000
              lockCount := 0
              state := .free
              lastEvent := some .short
              lastPulse := some m
              firstEmpty := none
              lastMark := m }) ∧
        (m < s.timeBase.lastMark + 500000 →
          exec (.ppsPulse m) s = .next (({ s with
            now := m
            timeBase := { s.timeBase with
              expected := m + 1000000
              lockCount := 0
              state := .free
              lastEvent := some .long
              lastPulse := some m
              firstEmpty := none } } : State).raiseOfficer .timeEvent))))

/-- SET TIME (R17): refused at 86400 and above, refused in SHOW more than 120 s away the short way round the day, and
otherwise stored, with UNSET left for FREE and every segment in force that of the new minute. Every table
re-evaluates at every SET TIME taken (log entry 16). -/
def Obligations.SetTimeRequest : Prop :=
  ∀ (s : State) (time : Nat), idle .officer s →
    (86400 ≤ time → completes (.setTime time) .officer s s 0x9D#8 (3#8 :: timeStatus s)) ∧
    (time < 86400 → s.mode = .show →
      120 < min ((time : Int) - s.timeBase.timeOfDay).natAbs
        (86400 - ((time : Int) - s.timeBase.timeOfDay).natAbs) →
      completes (.setTime time) .officer s s 0x9D#8 (7#8 :: timeStatus s)) ∧
    (time < 86400 →
      (s.mode = .show → min ((time : Int) - s.timeBase.timeOfDay).natAbs
        (86400 - ((time : Int) - s.timeBase.timeOfDay).natAbs) ≤ 120) →
      leadsTo (.setTime time) s fun t =>
        t.timeBase = { s.timeBase with
          timeOfDay := time
          state := if s.timeBase.state = .unset then .free else s.timeBase.state
          lastEvent := some .set } ∧
        (∀ z : ZoneId, (t.tables.get z).segments = (s.tables.get z).segments ∧
          (t.tables.get z).inForce =
            segmentAt (s.tables.get z).segments (some ((time / 60 + 720) % 1440))) ∧
        (s.timeBase.state = .unset → targetsOk t) ∧
        noticeAt .officer 6 t = true ∧ sentReply .officer t = some (0x9D#8, 0#8 :: timeStatus t) ∧
        t.zones = s.zones ∧ t.loop = s.loop ∧ t.paths = s.paths ∧ t.exceedances = s.exceedances ∧
        t.mode = s.mode ∧ t.now = s.now)

/-- SELECT SOURCE (R18, R19): SOURCE_ABSENT for PPS with no pulse in the last 2 s, no change for the held source, and a
change of source in either direction; BAD_VALUE outside the list is R190's. That the held source is answered OK whether
or not a pulse is present is the model's choice (log entry 17). -/
def Obligations.SelectSourceRequest : Prop :=
  ∀ s : State, idle .officer s →
    (∀ n : Nat, 2 ≤ n → completes (.selectSource n) .officer s s 0x9E#8 (3#8 :: timeStatus s)) ∧
    (s.timeBase.source = .internal →
      completes (.selectSource 0) .officer s s 0x9E#8 (0#8 :: timeStatus s) ∧
      ((∀ p ∈ s.timeBase.lastPulse, p + 2000000 < s.now) →
        completes (.selectSource 1) .officer s s 0x9E#8 (9#8 :: timeStatus s)) ∧
      (∀ p ∈ s.timeBase.lastPulse, s.now ≤ p + 2000000 →
        leadsTo (.selectSource 1) s fun t =>
          t = ((({ s with
            timeBase := { s.timeBase with
              source := .pps, lockCount := 0, lastEvent := some .source } } : State).raiseOfficer
                .timeEvent).send .officer (messageFrame 0x9E#8 (0#8 :: timeStatus t))))) ∧
    (s.timeBase.source = .pps →
      completes (.selectSource 1) .officer s s 0x9E#8 (0#8 :: timeStatus s) ∧
      leadsTo (.selectSource 0) s fun t =>
        t.timeBase.source = .internal ∧ t.timeBase.lockCount = 0 ∧
        t.timeBase.lastEvent = some .source ∧ noticeAt .officer 6 t = true ∧
        t.timeBase.state = (if s.timeBase.state = .locked then .free else s.timeBase.state) ∧
        (if s.timeBase.state ≠ .unset ∧ s.timeBase.expected ≤ s.now then
          t.timeBase.tag = (s.timeBase.tag + 1) % 65536 ∧
            t.timeBase.expected = s.timeBase.expected + 1000000
        else t.timeBase.tag = s.timeBase.tag ∧ t.timeBase.expected = s.timeBase.expected))

/-! ## Schedules -/

/-- INSERT SEGMENT (R26, R32), `g` being the segment it would store. The refusals come in the order DUPLICATE, FULL,
SHOW_LOCK, after NO_SUCH and BAD_VALUE (R190); a request that is taken places the segment by its start and the table
re-evaluates. In SHOW the start lies above the programme minute and no limit is above the predecessor's. That the
refusals name a segment by its clamped start is the model's choice (log entry 23). -/
def Obligations.InsertSegmentRequest : Prop :=
  ∀ (s : State) (f : InsertFields), idle .officer s →
    ∀ g : Segment, g = ⟨min 1439 f.start,
      if f.kind = 0 then .play
      else .curfew (clampTo 400 1300 (f.encoreBroad.getD f.broad)) (clampTo 400 1300 (f.encoreLow.getD f.low)),
      clampTo 400 1300 f.broad, clampTo 400 1300 f.low⟩ →
    (∀ n : Nat, 8 ≤ n → completes (.insertSegment n f) .officer s s 0x94#8 [4#8]) ∧
    ∀ z : ZoneId, ∀ l : List Segment, l = (s.tables.get z).segments →
      ∀ q : Segment, q = segmentAt l (some g.start) →
      (f.spareBits = true ∨ 2 ≤ f.kind →
        completes (.insertSegment z.val f) .officer s s 0x94#8
          (segmentReply .badValue s z (segmentStarting l g.start))) ∧
      (f.spareBits = false → f.kind ≤ 1 →
        ((∃ h ∈ l, h.start = g.start) →
          completes (.insertSegment z.val f) .officer s s 0x94#8
            (segmentReply .duplicate s z (segmentStarting l g.start))) ∧
        ((∀ h ∈ l, h.start ≠ g.start) →
          (8 ≤ l.length →
            completes (.insertSegment z.val f) .officer s s 0x94#8 (segmentReply .full s z none)) ∧
          (l.length < 8 →
            (s.mode = .show →
              ((∀ p ∈ s.minute, g.start ≤ p) ∨ q.broad < g.broad ∨ q.low < g.low ∨
                (∃ eb el, g.kind = .curfew eb el ∧ (q.ceiling.broad < eb ∨ q.ceiling.low < el))) →
              completes (.insertSegment z.val f) .officer s s 0x94#8 (segmentReply .showLock s z none)) ∧
            ((s.mode = .show →
              (∃ p ∈ s.minute, p < g.start) ∧ g.broad ≤ q.broad ∧ g.low ≤ q.low ∧
                (∀ eb el, g.kind = .curfew eb el → eb ≤ q.ceiling.broad ∧ el ≤ q.ceiling.low)) →
              leadsTo (.insertSegment z.val f) s fun t =>
                (t.tables.get z).segments =
                  (l.filter fun h => h.start < g.start) ++ g :: (l.filter fun h => g.start < h.start) ∧
                (t.tables.get z).inForce = segmentAt (t.tables.get z).segments s.minute ∧
                t.tables = s.tables.set z (t.tables.get z) ∧
                sentReply .officer t = some (0x94#8, segmentReply .ok t z (some g)) ∧
                t.zones = s.zones ∧ t.timeBase = s.timeBase ∧ t.exceedances = s.exceedances ∧
                t.loop = s.loop ∧ t.paths = s.paths ∧ t.mode = s.mode ∧ t.now = s.now))))

/-- EDIT SEGMENT (R27, R32), `e` being the segment it would store in place of `g`: the fields given are clamped, the
others keep their values, an edit to CURFEW of a PLAY segment takes the ordinary limits where encore limits are
absent, and an edit to PLAY drops them. In SHOW no stored limit may rise. NO_SUCH and BAD_VALUE are R190's. That
the encore limits of an edit to CURFEW come from the ordinary limits the same edit stores, and that encore limits given
to a segment that stays PLAY are dropped, is the model's choice (log entry 23). -/
def Obligations.EditAndDeleteSegmentRequests : Prop :=
  ∀ (s : State) (f : EditFields) (start : Nat), idle .officer s →
    ((∀ n : Nat, 8 ≤ n → completes (.editSegment n f) .officer s s 0x95#8 [4#8]) ∧
      ∀ z : ZoneId, ∀ l : List Segment, l = (s.tables.get z).segments →
        ((∀ h ∈ l, h.start ≠ f.start) →
          completes (.editSegment z.val f) .officer s s 0x95#8 (segmentReply .noSuch s z none)) ∧
        ∀ g : Segment, segmentStarting l f.start = some g → ∀ e : Segment,
          e = ⟨g.start,
            if f.kind = some 0 then .play
            else match g.kind with
              | .play =>
                if f.kind = none then .play
                else .curfew
                  ((f.encoreBroad.map (clampTo 400 1300)).getD ((f.broad.map (clampTo 400 1300)).getD g.broad))
                  ((f.encoreLow.map (clampTo 400 1300)).getD ((f.low.map (clampTo 400 1300)).getD g.low))
              | .curfew eb el =>
                .curfew ((f.encoreBroad.map (clampTo 400 1300)).getD eb)
                  ((f.encoreLow.map (clampTo 400 1300)).getD el),
            (f.broad.map (clampTo 400 1300)).getD g.broad, (f.low.map (clampTo 400 1300)).getD g.low⟩ →
          (f.spareBits = true ∨ (∃ n ∈ f.kind, 2 ≤ n) →
            completes (.editSegment z.val f) .officer s s 0x95#8 (segmentReply .badValue s z (some g))) ∧
          (f.spareBits = false → (∀ n ∈ f.kind, n ≤ 1) →
            (s.mode = .show →
              (g.broad < e.broad ∨ g.low < e.low ∨
                (∃ eb el, e.kind = .curfew eb el ∧ (g.ceiling.broad < eb ∨ g.ceiling.low < el))) →
              completes (.editSegment z.val f) .officer s s 0x95#8 (segmentReply .showLock s z (some g))) ∧
            ((s.mode = .show →
              e.broad ≤ g.broad ∧ e.low ≤ g.low ∧
                (∀ eb el, e.kind = .curfew eb el → eb ≤ g.ceiling.broad ∧ el ≤ g.ceiling.low)) →
              leadsTo (.editSegment z.val f) s fun t =>
                ((l.map Segment.start).Nodup →
                  (t.tables.get z).segments = l.map fun h => if h.start = f.start then e else h) ∧
                (t.tables.get z).inForce = segmentAt (t.tables.get z).segments s.minute ∧
                t.tables = s.tables.set z (t.tables.get z) ∧
                sentReply .officer t = some (0x95#8, segmentReply .ok t z (some e)) ∧
                t.zones = s.zones ∧ t.timeBase = s.timeBase ∧ t.exceedances = s.exceedances ∧
                t.loop = s.loop ∧ t.paths = s.paths ∧ t.mode = s.mode ∧ t.now = s.now))) ∧
    ((∀ n : Nat, 8 ≤ n → completes (.deleteSegment n start) .officer s s 0x96#8 [4#8]) ∧
      ∀ z : ZoneId, ∀ l : List Segment, l = (s.tables.get z).segments →
        ((∀ h ∈ l, h.start ≠ start) →
          completes (.deleteSegment z.val start) .officer s s 0x96#8 (segmentReply .noSuch s z none)) ∧
        ∀ g : Segment, segmentStarting l start = some g →
          (start = 0 →
            completes (.deleteSegment z.val start) .officer s s 0x96#8 (segmentReply .badValue s z (some g))) ∧
          (start ≠ 0 → s.mode = .show →
            completes (.deleteSegment z.val start) .officer s s 0x96#8 (segmentReply .showLock s z (some g))) ∧
          (start ≠ 0 → s.mode = .setup →
            leadsTo (.deleteSegment z.val start) s fun t =>
              (t.tables.get z).segments = (l.filter fun h => h.start ≠ start) ∧
              (t.tables.get z).inForce = segmentAt (t.tables.get z).segments s.minute ∧
              t.tables = s.tables.set z (t.tables.get z) ∧
              sentReply .officer t = some (0x96#8, segmentReply .ok t z (some g)) ∧
              t.zones = s.zones ∧ t.timeBase = s.timeBase ∧ t.exceedances = s.exceedances ∧
              t.loop = s.loop ∧ t.paths = s.paths ∧ t.mode = s.mode ∧ t.now = s.now))

/-! ## Reads -/

/-- The five plain reads are answered OK with their layouts and leave everything but the reply as it was: STAGE
STATUS, ZONE VIEW, READ NOTICES, READ SCHEDULE and READ RECORDS (R153, R165, R178, R179, R192). READ ZONE and READ
MONITOR answer what stands and then clear what they report: the zone's snapshot is reloaded with what it holds now
(R84), the record flags of the slots covered are cleared (R54), and nothing else changes. -/
def Obligations.ReadsAnswerAndClear : Prop :=
  ∀ s : State,
    (∀ d : StageId, idle (.desk d) s →
      completes (.stageStatus d) (.desk d) s s 0x81#8 (stageStatusReply s d) ∧
      completes (.zoneView d) (.desk d) s s 0x82#8 (zoneViewReply s d) ∧
      (stageStatusReply s d).length = 20 ∧
      (zoneViewReply s d).length = 2 + 10 * (allZones.filter (reaches s d)).length) ∧
    (∀ l : LinkId, idle l s →
      completes (.readNotices l) l s s 0x86#8 (noticesReply s l) ∧
      ((s.links.get l).priorities.length = linkKinds l →
        (noticesReply s l).length = if l = .officer then 15 else 10)) ∧
    (idle .officer s →
      (∀ z : ZoneId, completes (.readSchedule z.val) .officer s s 0x97#8 (scheduleReply s z) ∧
        (scheduleReply s z).length = 11 + 11 * (s.tables.get z).segments.length) ∧
      (∀ n : Nat, 8 ≤ n → completes (.readSchedule n) .officer s s 0x97#8 [4#8]) ∧
      (∀ i n : Nat,
        completes (.readRecords i n) .officer s s 0xAA#8 (recordsReply s (min 48 i) (clampTo 1 8 n)))) ∧
    (idle .officer s →
      (∀ n : Nat, 8 ≤ n → completes (.readZone n) .officer s s 0x93#8 [4#8]) ∧
      (∀ z : ZoneId, ∀ zn : Zone, zn = s.zones.get z →
        completes (.readZone z.val) .officer s
          { s with zones := s.zones.set z { zn with
            snapshot := ⟨⟨zn.conditions.broad, zn.fast.broad.isSet⟩, ⟨zn.conditions.low, zn.fast.low.isSet⟩⟩ } }
          0x93#8 (zoneReply s z) ∧
        (zoneReply s z).length = 52) ∧
      (∀ n : Nat, 9 ≤ n → completes (.readMonitor n) .officer s s 0x9C#8 [4#8]) ∧
      (∀ a : SlotId,
        completes (.readMonitor (a.val + 1)) .officer s
          { s with loop := { s.loop with
            slots := s.loop.slots.modify a fun u => { u with late := false, misdated := false } } }
          0x9C#8 (monitorReply s [a]) ∧
        (monitorReply s [a]).length = 14) ∧
      completes (.readMonitor 0) .officer s
        { s with loop := { s.loop with
          slots := s.loop.slots.map fun u => { u with late := false, misdated := false } } }
        0x9C#8 (monitorReply s allSlots) ∧
      (monitorReply s allSlots).length = 91)

/-! ## The monitor loop -/

/-- The arbiter's order (R43, R44, R47). A busy loop is left alone. In a free loop the scan first works out where it
stands: at its first ACTIVE slot, at its present slot while fetches are left there, or nowhere once it has passed
address 8, when it ends; and there a follow-on scan starts while LATN is held and a slot is ACTIVE, behind one
identification transaction where one is waiting (R45 to R47). Then a pending MARK goes first, a pending LOOP RESET
next, then the scan's transaction, then identification work, SEEKING slots before due probes and lower addresses
first. That the scan's position is worked out whenever the loop is free, before the choice, is the model's choice (log
entry 15). -/
def Obligations.ArbiterFollowsClassOrder : Prop :=
  ∀ k : Loop,
    (k.flight ≠ none → k.arbitrate = k) ∧
    (k.flight = none → ∀ j : Loop, j = k.settleScan →
      (∀ tag : Nat, j.pendingMark = some tag →
        k.arbitrate = { j with
          pendingMark := none
          flight := some ⟨.mark tag, false⟩
          sent := withCheck ([0#8, 4#8] ++ bytes2 tag) }) ∧
      (j.pendingMark = none → j.pendingReset = true →
        k.arbitrate = { j with
          pendingReset := false
          flight := some ⟨.loopReset, false⟩
          sent := [0#8, 5#8, 0xFB#8] }) ∧
      (j.pendingMark = none → j.pendingReset = false →
        (j.scan = none ∨ j.identifyFirst = true →
          (∀ a : SlotId, j.slotState a = .seeking → (∀ b : SlotId, b < a → j.slotState b ≠ .seeking) →
            k.arbitrate = { j with
              identifyFirst := if j.scan = none then j.identifyFirst else false
              flight := some ⟨.identify a false, false⟩
              sent := withCheck [byteOf (a.val + 1), 1#8] }) ∧
          ((∀ b : SlotId, j.slotState b ≠ .seeking) →
            ∀ a : SlotId, j.slotState a = .lost → (j.slots.get a).reseek = .probeDue →
              (∀ b : SlotId, b < a → j.slotState b = .lost → (j.slots.get b).reseek ≠ .probeDue) →
              k.arbitrate = { j with
                identifyFirst := if j.scan = none then j.identifyFirst else false
                slots := j.slots.modify a fun u => { u with reseek := .stopped }
                flight := some ⟨.identify a true, false⟩
                sent := withCheck [byteOf (a.val + 1), 1#8] })) ∧
        (j.scan = none → (∀ b : SlotId, j.slotState b ≠ .seeking) →
          (∀ a : SlotId, j.slotState a = .lost → (j.slots.get a).reseek ≠ .probeDue) → k.arbitrate = j) ∧
        (j.identifyFirst = false → ∀ a : SlotId,
          (j.scan = some ⟨a.val, .status⟩ →
            k.arbitrate = { j with
              flight := some ⟨.status a, false⟩
              sent := withCheck [byteOf (a.val + 1), 2#8] }) ∧
          (∀ r : Nat, j.scan = some ⟨a.val, .fetch r none⟩ →
            k.arbitrate = { j with
              slots := j.slots.modify a fun u => { u with nextFetch := (u.nextFetch + 1) % 256 }
              flight := some ⟨.fetch a (j.slots.get a).nextFetch, false⟩
              sent := withCheck [byteOf (a.val + 1), 3#8, byteOf (j.slots.get a).nextFetch] }) ∧
          (∀ r n : Nat, j.scan = some ⟨a.val, .fetch r (some n)⟩ →
            k.arbitrate = { j with
              scan := some ⟨a.val, .fetch r none⟩
              flight := some ⟨.fetch a n, false⟩
              sent := withCheck [byteOf (a.val + 1), 3#8, byteOf n] })))) ∧
    (k.scan = none → k.settleScan = k) ∧
    (∀ c : Scan, k.scan = some c →
      (k.identifyFirst = true → k.identification ≠ none → k.settleScan = k) ∧
      (k.identifyFirst = false ∨ k.identification = none →
        (∀ a : SlotId, c.phase = .status → c.slot ≤ a.val → k.slotState a = .active →
          (∀ b : SlotId, c.slot ≤ b.val → b < a → k.slotState b ≠ .active) →
          k.settleScan = { k with scan := some ⟨a.val, .status⟩, identifyFirst := false }) ∧
        (∀ (r : Nat) (again : Option Nat), c.phase = .fetch r again →
          (∀ a : SlotId, a.val = c.slot → k.slotState a = .active → 0 < r →
            k.settleScan = { k with identifyFirst := false }) ∧
          (r = 0 ∨ (∀ a : SlotId, a.val = c.slot → k.slotState a ≠ .active) →
            k.settleScan = ({ k with scan := some ⟨c.slot + 1, .status⟩ } : Loop).settleScan)) ∧
        ((∀ a : SlotId, c.slot ≤ a.val → k.slotState a ≠ .active) →
          (k.latn = false ∨ (∀ a : SlotId, k.slotState a ≠ .active) →
            k.settleScan = { k with scan := none, identifyFirst := false }) ∧
          (k.latn = true → ∀ a : SlotId, k.slotState a = .active → (∀ b : SlotId, b < a → k.slotState b ≠ .active) →
            k.settleScan =
              if k.identification = none then { k with scan := some ⟨a.val, .status⟩, identifyFirst := false }
              else { k with scan := some ⟨0, .status⟩, identifyFirst := true }))))

/-- LATN and the ends of the two broadcasts: an asserted LATN starts a scan where none is in progress, no LOOP RESET
is pending and the part holds none itself (R45); a MARK ends when it has been sent (R44); at the end of a LOOP RESET
LATN is looked at afresh (R50). The loop is free each time and the arbiter chooses. The model's choices are that LATN
comes with its level (log entry 6), that its level at the end of a LOOP RESET is the one last given (log entry 33), and
that MARK_SENT and LOOP_RESET_DONE change nothing where no such broadcast is in flight (log entry 46). -/
def Obligations.LatnAndBroadcastEnds : Prop :=
  ∀ s : State,
    (∀ level : Bool, ∀ k : Loop,
      k = (if level = true ∧ s.loop.scan = none ∧ s.loop.pendingReset = false ∧
            s.loop.flight.map Flight.transaction ≠ some .loopReset then
          { s.loop with latn := level, scan := some ⟨0, .status⟩ }
        else { s.loop with latn := level }) →
      exec (.latnAsserted level) s = .next { s with loop := k.arbitrate }) ∧
    (∀ f : Flight, s.loop.flight = some f →
      (∀ tag : Nat, f.transaction = .mark tag →
        exec .markSent s = .next { s with loop := { s.loop with flight := none }.arbitrate }) ∧
      (f.transaction = .loopReset → exec .markSent s = .next s ∧
        ∀ k : Loop, k = (if s.loop.latn = true ∧ s.loop.scan = none ∧ s.loop.pendingReset = false then
            { s.loop with flight := none, scan := some ⟨0, .status⟩ }
          else { s.loop with flight := none }) →
        exec .loopResetDone s = .next { s with loop := k.arbitrate }) ∧
      (f.transaction.slot ≠ none → exec .markSent s = .next s ∧ exec .loopResetDone s = .next s)) ∧
    (s.loop.flight = none → exec .markSent s = .next s ∧ exec .loopResetDone s = .next s)

/-- An accepted reply to IDENTIFY: for a SEEKING slot the right kind code leads to ACTIVE and any other to LOST with
WRONG_KIND (R40); for a LOST slot's probe the right kind code leads to SEEKING, and any other leaves it LOST with
WRONG_KIND, raising UNIT_CHANGE where cause or serial number changed (R41, R42). An accepted reply clears the count of
failed attempts (R36). That LATN is looked at at every entry to ACTIVE is the model's choice (log entry 14). -/
def Obligations.IdentifyReplyMovesSlot : Prop :=
  ∀ (s : State) (a : SlotId) (code serial : Nat), ∀ u : UnitSlot, u = s.loop.slots.get a →
    (s.loop.flight = some ⟨.identify a false, false⟩ →
      (code = 0x31 → ∀ k : Loop,
        k = { s.loop with
          flight := none
          slots := s.loop.slots.set a
            { u with state := .active, failed := 0, nextFetch := 0, serial := some serial } } →
        exec (.identifyReply code serial) s =
          .next (({ s with loop := k.lookAtLatn.arbitrate } : State).raiseOfficer .unitChange)) ∧
      (code ≠ 0x31 → ∀ k : Loop,
        k = { s.loop with
          flight := none
          slots := s.loop.slots.set a
            { u with
              state := .lost, cause := some .wrongKind, failed := 0, serial := some serial
              reseek := .running (s.now + 10000000) } } →
        exec (.identifyReply code serial) s =
          .next (({ s with loop := k.arbitrate } : State).raiseOfficer .unitChange))) ∧
    (s.loop.flight = some ⟨.identify a true, false⟩ →
      (code = 0x31 → ∀ k : Loop,
        k = { s.loop with
          flight := none
          slots := s.loop.slots.set a
            { u with
              state := .seeking, cause := none, failed := 0, serial := some serial, reseek := .stopped } } →
        exec (.identifyReply code serial) s =
          .next (({ s with loop := k.arbitrate } : State).raiseOfficer .unitChange)) ∧
      (code ≠ 0x31 → ∀ k : Loop,
        k = { s.loop with
          flight := none
          slots := s.loop.slots.set a
            { u with
              state := .lost, cause := some .wrongKind, serial := some serial
              reseek := .running (s.now + 10000000) } } →
        exec (.identifyReply code serial) s =
          .next (({ s with loop := k.arbitrate } : State).raiseOfficerIf
            (decide (u.cause ≠ some .wrongKind ∨ u.serial ≠ some serial)) .unitChange)))

/-- The replies of a scan's transactions (R46): STATUS stores the health flags and gives the scan that many fetches,
or passes it on at a count of 0; the empty indication passes it on; and a record counts as one fetch and is handed to
the zone account of the slot's zone, whose verdict sets the slot's flag (R48, R64). A count above 4 and a raw level
above 1500 fail the attempt (R36). That the bits of a health byte beyond the three flags are ignored, and that health
flags which come for the first time are a change, is the model's choice (log entries 12 and 13). -/
def Obligations.ScanRepliesFeedZones : Prop :=
  ∀ (s : State) (a : SlotId), ∀ u : UnitSlot, u = s.loop.slots.get a →
    (s.loop.flight = some ⟨.status a, false⟩ → ∀ (count : Nat) (health : Byte),
      (4 < count → exec (.statusReply count health) s = exec .replyTimeout s) ∧
      (count ≤ 4 → ∀ h : HealthFlags, h = ⟨health.getLsbD 0, health.getLsbD 1, health.getLsbD 2⟩ →
        ∀ k : Loop,
        k = { s.loop with
          flight := none
          slots := s.loop.slots.set a { u with failed := 0, health := some h }
          scan := s.loop.scan.map fun c =>
            if count = 0 then ⟨a.val + 1, .status⟩ else ⟨c.slot, .fetch count none⟩ } →
        exec (.statusReply count health) s =
          .next (({ s with loop := k.arbitrate } : State).raiseOfficerIf (decide (u.health ≠ some h))
            .unitChange))) ∧
    (∀ n : Nat, s.loop.flight = some ⟨.fetch a n, false⟩ → ∀ c : Scan, s.loop.scan = some c →
      (∀ k : Loop,
        k = { s.loop with
          flight := none
          slots := s.loop.slots.set a { u with failed := 0 }
          scan := some ⟨a.val + 1, .status⟩ } →
        exec (.fetchReply none) s = .next { s with loop := k.arbitrate }) ∧
      ∀ r : MeasurementRecord,
        (1500 < r.broadRaw ∨ 1500 < r.lowRaw → exec (.fetchReply (some r)) s = exec .replyTimeout s) ∧
        (r.broadRaw ≤ 1500 → r.lowRaw ≤ 1500 → ∀ z : ZoneId, u.zone = some z →
          ∀ zn : Zone, zn = s.zones.get z →
          ∀ behind : Nat, behind = (match zn.awaiting with
            | some aw => (aw.tag + 65536 - r.tag % 65536) % 65536
            | none => ((s.timeBase.tag + 65535) % 65536 + 65536 - r.tag % 65536) % 65536) →
          ∀ late misdated : Bool,
          late = (zn.enabled && (decide (1 ≤ behind ∧ behind ≤ 32767) ||
            decide (behind = 0 ∧ ∀ aw ∈ zn.awaiting, aw.isOpen = false))) →
          misdated = (zn.enabled && decide (32768 ≤ behind)) →
          leadsTo (.fetchReply (some r)) s fun t =>
            (∀ remaining : Nat, ∀ again : Option Nat, c.phase = .fetch remaining again →
              t.loop = ({ s.loop with
                flight := none
                slots := s.loop.slots.set a
                  { u with failed := 0, late := u.late || late, misdated := u.misdated || misdated }
                scan := some (if remaining ≤ 1 then ⟨a.val + 1, .status⟩
                  else ⟨c.slot, .fetch (remaining - 1) none⟩) } : Loop).arbitrate) ∧
            (zn.enabled = false ∨ late = true ∨ misdated = true →
              t = { s with loop := t.loop }) ∧
            (zn.enabled = true → late = false → misdated = false →
              ∀ aw : Awaiting, zn.awaiting = some aw →
                t.zones = s.zones.set z (zn.close s.now (limitsInForce s z) aw (some r)) ∧
                t.timeBase = s.timeBase ∧ t.tables = s.tables ∧ t.curfew = s.curfew ∧ t.pool = s.pool ∧
                t.paths = s.paths ∧ t.mode = s.mode ∧ t.now = s.now)))

/-- A failed attempt (R36): the count rises and the transaction waits to be repeated, a FETCH with the same number;
the third failure in a row loses the slot with NO_ANSWER and passes a scan on (R46). A failed probe leaves its slot
LOST with its count (R41). An outcome that is disregarded counts for nothing (R39, R55). A complete reply with a
wrong check or of no form a transaction has fails the attempt like a timeout. That a reply with no addressed
transaction in flight has no effect is the model's choice (log entry 11). -/
def Obligations.FailedAttemptsCount : Prop :=
  ∀ (s : State) (c : Instr), c = .replyTimeout ∨ c = .replyBreak →
    (∀ frame : List Byte, byteSum frame ≠ 0#8 ∨ replyOfFrame frame = none →
      exec (.completeReplyFailed frame) s = exec c s) ∧
    (s.loop.flight = none → exec c s = .next s) ∧
    ∀ (tr : Transaction) (off : Bool), s.loop.flight = some ⟨tr, off⟩ →
      (tr.slot = none → exec c s = .next s) ∧
      (tr.slot ≠ none → off = true →
        exec c s = .next { s with loop := { s.loop with flight := none }.arbitrate }) ∧
      (off = false → ∀ a : SlotId, ∀ u : UnitSlot, u = s.loop.slots.get a →
        (tr = .identify a true → ∀ k : Loop,
          k = { s.loop with
            flight := none
            slots := s.loop.slots.set a { u with reseek := .running (s.now + 10000000) } } →
          exec c s = .next { s with loop := k.arbitrate }) ∧
        (∀ n : Nat, tr = .identify a false ∨ tr = .status a ∨ tr = .fetch a n →
          (u.failed + 1 < 3 → ∀ k : Loop,
            k = { s.loop with
              flight := none
              slots := s.loop.slots.set a { u with failed := u.failed + 1 }
              scan := if tr = .fetch a n then
                  s.loop.scan.map fun c => match c.phase with
                    | .status => c
                    | .fetch remaining _ => ⟨c.slot, .fetch remaining (some n)⟩
                else s.loop.scan } →
            exec c s = .next { s with loop := k.arbitrate }) ∧
          (3 ≤ u.failed + 1 → ∀ k : Loop,
            k = { s.loop with
              flight := none
              slots := s.loop.slots.set a
                { u with
                  state := .lost, cause := some .noAnswer, failed := 3
                  reseek := .running (s.now + 10000000) }
              scan := if tr = .identify a false then s.loop.scan
                else s.loop.scan.map fun _ => ⟨a.val + 1, .status⟩ } →
            exec c s = .next (({ s with loop := k.arbitrate } : State).raiseOfficer .unitChange))))

/-- A loop stall (R49): the transaction in flight is abandoned with no attempt counted, SEEKING and ACTIVE slots go
to SEEKING, LOST and VACANT ones stay, the scan ends and a LOOP RESET becomes pending, behind a pending MARK. A
stall during a LOOP RESET moves every assigned slot to LOST with LOOP_STALL and abandons the reset (R53). -/
def Obligations.StallClearsTheLoop : Prop :=
  ∀ s : State,
    (s.loop.flight.map Flight.transaction ≠ some .loopReset →
      leadsTo .loopStall s fun t =>
        t = { s with loop := t.loop, links := t.links } ∧
        t.links = (s.raiseOfficerIf (decide (∃ a : SlotId, s.loop.slotState a = .active)) .unitChange).links ∧
        t.loop.scan = none ∧ t.loop.identifyFirst = false ∧ t.loop.latn = s.loop.latn ∧
        t.loop.pendingMark = none ∧
        (s.loop.pendingMark = none →
          t.loop.flight = some ⟨.loopReset, false⟩ ∧ t.loop.pendingReset = false) ∧
        (∀ tag : Nat, s.loop.pendingMark = some tag →
          t.loop.flight = some ⟨.mark tag, false⟩ ∧ t.loop.pendingReset = true) ∧
        (∀ a : SlotId, ∀ u : UnitSlot, u = s.loop.slots.get a →
          (u.state = .seeking ∨ u.state = .active →
            s.loop.flight ≠ some ⟨.identify a true, false⟩ →
            t.loop.slots.get a = { u with state := .seeking, failed := 0 }) ∧
          (u.state = .vacant ∨ u.state = .lost →
            t.loop.slots.get a =
              if s.loop.flight = some ⟨.identify a true, false⟩ then
                { u with reseek := .running (s.now + 10000000) }
              else u))) ∧
    (s.loop.flight.map Flight.transaction = some .loopReset →
      leadsTo .loopStall s fun t =>
        t = { s with loop := t.loop, links := t.links } ∧
        t.links = (s.raiseOfficerIf (decide (∃ a : SlotId, s.loop.slotState a ≠ .vacant ∧
          (s.loop.slotState a ≠ .lost ∨ (s.loop.slots.get a).cause ≠ some .loopStall))) .unitChange).links ∧
        t.loop = ({ s.loop with
          flight := none
          slots := s.loop.slots.map fun u =>
            if u.state = .vacant ∨ (u.state = .lost ∧ u.cause = some .loopStall) then u
            else { u with
              state := .lost, cause := some .loopStall, reseek := .running (s.now + 10000000) } } :
          Loop).arbitrate)

/-- ASSIGN MONITOR (R38) and UNASSIGN MONITOR (R39): the refusals in their order, the slot set to SEEKING with its
zone or returned to VACANT, UNIT_CHANGE raised, and a transaction in flight to an unassigned slot disregarded. That a
scan passes an unassigned slot at once where no addressed transaction is in flight is the model's choice (log entry
15). -/
def Obligations.SlotAssignments : Prop :=
  ∀ s : State, idle .officer s →
    (∀ n m : Nat, n = 0 ∨ 9 ≤ n ∨ 8 ≤ m → completes (.assignMonitor n m) .officer s s 0x9A#8 [4#8]) ∧
    (∀ n : Nat, n = 0 ∨ 9 ≤ n → completes (.unassignMonitor n) .officer s s 0x9B#8 [4#8]) ∧
    (∀ a : SlotId,
      (∀ z : ZoneId,
        ((∃ b : SlotId, (s.loop.slots.get b).zone = some z) ∨ s.loop.slotState a ≠ .vacant →
          completes (.assignMonitor (a.val + 1) z.val) .officer s s 0x9A#8 (slotReply .duplicate s a)) ∧
        ((∀ b : SlotId, (s.loop.slots.get b).zone ≠ some z) → s.loop.slotState a = .vacant →
          (s.mode = .show →
            completes (.assignMonitor (a.val + 1) z.val) .officer s s 0x9A#8 (slotReply .showLock s a)) ∧
          (s.mode = .setup →
            ∀ k : Loop, k = { s.loop with
              slots := s.loop.slots.set a { UnitSlot.reset with state := .seeking, zone := some z } } →
            ∀ u : State, u = ({ s with loop := k.arbitrate } : State).raiseOfficer .unitChange →
            completes (.assignMonitor (a.val + 1) z.val) .officer s u 0x9A#8 (slotReply .ok u a)))) ∧
      (s.loop.slotState a = .vacant →
        completes (.unassignMonitor (a.val + 1)) .officer s s 0x9B#8 (slotReply .noSuch s a)) ∧
      (s.loop.slotState a ≠ .vacant →
        (s.mode = .show →
          completes (.unassignMonitor (a.val + 1)) .officer s s 0x9B#8 (slotReply .showLock s a)) ∧
        (s.mode = .setup →
          ∀ k : Loop, k = { s.loop with
            slots := s.loop.slots.set a UnitSlot.reset
            flight := s.loop.flight.map fun f =>
              if f.transaction.slot = some a then { f with disregarded := true } else f } →
          ∀ m : Loop, m = (match s.loop.flight with
            | none => k.settleScan
            | some f => if f.transaction.slot = none then k.settleScan else k) →
          ∀ u : State, u = ({ s with loop := m } : State).raiseOfficer .unitChange →
          completes (.unassignMonitor (a.val + 1)) .officer s u 0x9B#8 (slotReply .ok u a))))

/-! ## Zone accounts -/

/-- SET ZONE (R56, R57, R188, R191): each field given is clamped and stored, the others kept, and nothing is
recomputed; in SHOW a request that gives W, guard, fast margin, release margin, hysteresis or a fallback level is
refused whole. -/
def Obligations.SetZoneRequest : Prop :=
  ∀ (s : State) (f : SetZoneFields), idle .officer s →
    (∀ n : Nat, 8 ≤ n → completes (.setZone n f) .officer s s 0x90#8 [4#8]) ∧
    ∀ z : ZoneId, ∀ zn : Zone, zn = s.zones.get z →
      ∀ gives : Bool, gives = (f.window.isSome || f.guardBand.isSome || f.fastMargin.isSome ||
        f.releaseMargin.isSome || f.hysteresis.isSome || f.fallbackBroad.isSome || f.fallbackLow.isSome) →
      (s.mode = .show → gives = true →
        completes (.setZone z.val f) .officer s s 0x90#8 (zoneConfigReply .showLock s z)) ∧
      (s.mode = .setup ∨ gives = false →
        ∀ c : ZoneConfig, c =
          { window := (f.window.map (clampTo 1 15)).getD zn.config.window
            guardBand := (f.guardBand.map (clampTo 0 50)).getD zn.config.guardBand
            fastMargin := (f.fastMargin.map (clampTo 0 200)).getD zn.config.fastMargin
            releaseMargin := (f.releaseMargin.map (clampTo 0 100)).getD zn.config.releaseMargin
            hysteresis := (f.hysteresis.map (clampTo 0 50)).getD zn.config.hysteresis
            warnMargin := (f.warnMargin.map (clampTo 0 100)).getD zn.config.warnMargin
            fastStep := (f.fastStep.map (clampTo 1 12)).getD zn.config.fastStep
            attackCap := (f.attackCap.map (clampTo 1 8)).getD zn.config.attackCap
            settlePeriod := (f.settlePeriod.map (clampTo 1 30)).getD zn.config.settlePeriod
            releaseInterval := (f.releaseInterval.map (clampTo 1 60)).getD zn.config.releaseInterval
            fallback := ⟨(f.fallbackBroad.map (clampTo 400 1300)).getD zn.config.fallback.broad,
              (f.fallbackLow.map (clampTo 400 1300)).getD zn.config.fallback.low⟩ } →
        ∀ u : State, u = { s with zones := s.zones.set z { zn with config := c } } →
        completes (.setZone z.val f) .officer s u 0x90#8 (zoneConfigReply .ok u z))

/-- ENABLE ZONE (R59): OK with no change for an enabled zone; a disabled one starts afresh with feed state FED, counts
toward the targets, joins the curfew zone sets where its segment is CURFEW (R114), and raises FEED_CHANGE. -/
def Obligations.EnableZoneRequest : Prop :=
  ∀ s : State, idle .officer s →
    (∀ n : Nat, 8 ≤ n → completes (.enableZone n) .officer s s 0x91#8 [4#8]) ∧
    ∀ z : ZoneId, ∀ zn : Zone, zn = s.zones.get z →
      (zn.enabled = true → completes (.enableZone z.val) .officer s s 0x91#8 (zoneEnableReply .ok s z)) ∧
      (zn.enabled = false →
        leadsTo (.enableZone z.val) s fun t =>
          t.zones = s.zones.set z { Zone.reset with
            config := zn.config, snapshot := zn.snapshot, enabled := true, feed := .fed } ∧
          (∀ st : StageId, (t.stages.get st).target = targetOf t st ∧
            (t.stages.get st).record = (s.stages.get st).record ∧
            (t.curfew.get st).zones =
              if (s.tables.get z).inForce.kind.isCurfew = true ∧ 0 < (s.stages.get st).record.coupling.get z then
                (s.curfew.get st).zones.set z true
              else (s.curfew.get st).zones) ∧
          noticeAt .officer 1 t = true ∧
          sentReply .officer t = some (0x91#8, [0#8, byteOf z.val, 1#8, 1#8]) ∧
          t.tables = s.tables ∧ t.timeBase = s.timeBase ∧ t.exceedances = s.exceedances ∧
          t.loop = s.loop ∧ t.paths = s.paths ∧ t.mode = s.mode ∧ t.now = s.now)

/-- DISABLE ZONE (R60): refused in SHOW, OK with no change for a disabled zone; an enabled one takes the disabled
values with its configuration and snapshot kept, leaves every target and curfew zone set (R114), and its open records
close with cause DISABLED (R150). -/
def Obligations.DisableZoneRequest : Prop :=
  ∀ s : State, idle .officer s →
    (∀ n : Nat, 8 ≤ n → completes (.disableZone n) .officer s s 0x92#8 [4#8]) ∧
    ∀ z : ZoneId, ∀ zn : Zone, zn = s.zones.get z →
      (s.mode = .show →
        completes (.disableZone z.val) .officer s s 0x92#8 (zoneEnableReply .showLock s z)) ∧
      (s.mode = .setup → zn.enabled = false →
        completes (.disableZone z.val) .officer s s 0x92#8 (zoneEnableReply .ok s z)) ∧
      (s.mode = .setup → zn.enabled = true →
        leadsTo (.disableZone z.val) s fun t =>
          t.zones = s.zones.set z { Zone.reset with config := zn.config, snapshot := zn.snapshot } ∧
          t.exceedances = { s.exceedances with
            records := s.exceedances.records.map fun r =>
              if r.cause = none ∧ r.zone = z then { r with endMinute := s.minute, cause := some .disabled }
              else r } ∧
          (∀ st : StageId, (t.stages.get st).target = targetOf t st ∧
            (t.stages.get st).record = (s.stages.get st).record ∧
            (t.curfew.get st).zones = (s.curfew.get st).zones.set z false) ∧
          noticeAt .officer 1 t = true ∧
          (noticeAt .officer 0 t = (noticeAt .officer 0 s ||
            decide (zn.conditions.broad ≠ .clear ∨ zn.conditions.low ≠ .clear) || zn.fast.broad.isSet ||
              zn.fast.low.isSet)) ∧
          (noticeAt .officer 4 t = (noticeAt .officer 4 s ||
            s.exceedances.records.any fun r => decide (r.cause = none ∧ r.zone = z))) ∧
          sentReply .officer t = some (0x92#8, [0#8, byteOf z.val, 0#8, 0#8]) ∧
          t.tables = s.tables ∧ t.timeBase = s.timeBase ∧ t.loop = s.loop ∧ t.paths = s.paths ∧
          t.mode = s.mode ∧ t.now = s.now)

/-- The closing deadline (R63): at a second mark an enabled zone closes an awaiting second that is still open,
substituted, and the ended second becomes the awaiting second with its programme minute (R62); a disabled zone does
nothing. The limits of the close are given where no re-evaluation or grant can move them at this mark. That the close's
moment is the later of the expected point and the present one is the model's choice (log entry 4). -/
def Obligations.DeadlineAtMark : Prop :=
  ∀ s : State, s.timeBase.source = .internal ∨ s.timeBase.state = .unset →
    leadsTo .expectedPoint s fun t => ∀ z : ZoneId, ∀ zn : Zone, zn = s.zones.get z →
      (zn.enabled = false → t.zones.get z = zn) ∧
      (zn.enabled = true →
        (t.zones.get z).awaiting = some ⟨s.timeBase.tag, true, s.minute⟩ ∧
        ((∀ aw ∈ zn.awaiting, aw.isOpen = false) →
          t.zones.get z = { zn with awaiting := some ⟨s.timeBase.tag, true, s.minute⟩ }) ∧
        (∀ aw : Awaiting, zn.awaiting = some aw → aw.isOpen = true →
          (t.zones.get z).missingRun = min 255 (zn.missingRun + 1) ∧
          (t.minute = s.minute → (∀ st : StageId, (s.curfew.get st).grant.isRunning = false) →
            t.zones.get z =
              { zn.close (max s.now s.timeBase.expected) (limitsInForce s z) aw none with
                awaiting := some ⟨s.timeBase.tag, true, s.minute⟩ })))

/-- The closing levels of a second (R67, R68, R69), and the rings they enter (R70, R71): a usable record's clamped
levels, 1300 with OVERLOAD, which become the hold levels; otherwise hold or fallback levels by the missing run. Each
ring keeps its newest ten figures, and the minute ring its newest fifteen slots. -/
def Obligations.CloseTakesLevelsIntoRings : Prop :=
  ∀ (zn : Zone) (now : Nat) (limits : Pair Nat) (aw : Awaiting) (rec : Option MeasurementRecord),
    ∀ n : Zone, n = zn.close now limits aw rec → ∀ v : Pair MetricLevels, n.levels = some v →
      (∀ r : MeasurementRecord, rec = some r → r.wind = false → r.cal = false →
        n.missingRun = 0 ∧ n.feed = .fed ∧ n.hold = some ⟨v.broad.closing, v.low.closing⟩ ∧
        (r.overload = true → v.broad.closing = 1300 ∧ v.low.closing = 1300) ∧
        (r.overload = false →
          v.broad.closing = clampTo 400 1300 r.broadRaw ∧ v.low.closing = clampTo 400 1300 r.lowRaw)) ∧
      ((∀ r ∈ rec, r.wind = true ∨ r.cal = true) →
        n.missingRun = min 255 (zn.missingRun + 1) ∧ n.hold = zn.hold ∧
        n.feed = (if n.missingRun ≤ 2 then .holding else .fallback) ∧
        (⟨v.broad.closing, v.low.closing⟩ : Pair Nat) =
          if n.missingRun ≤ 2 then zn.hold.getD zn.config.fallback else zn.config.fallback) ∧
      n.awaiting = some ⟨aw.tag, false, aw.minute⟩ ∧
      (∀ m : Metric, ∀ ring : List Nat,
        ring = zn.seconds.get m ++ [levelToEnergy ((v.get m).closing : Int)] →
        n.seconds.get m = ring.drop (ring.length - 10) ∧ (v.get m).short = levelOfList (n.seconds.get m) ∧
        (v.get m).rolling = rollingLevel zn.config.window n.slots m) ∧
      (∀ entry : MinuteSlot,
        entry = ⟨aw.minute, ⟨levelToEnergy (v.broad.closing : Int), levelToEnergy (v.low.closing : Int)⟩, 1,
          if n.missingRun = 0 then 0 else 1⟩ →
        (zn.slots = [] → n.slots = [entry]) ∧
        (∀ last : MinuteSlot, zn.slots.getLast? = some last →
          (last.minute ≠ aw.minute ∨ 60 ≤ last.counted →
            n.slots = (zn.slots ++ [entry]).drop ((zn.slots ++ [entry]).length - 15)) ∧
          (last.minute = aw.minute → last.counted < 60 →
            n.slots = zn.slots.dropLast ++
              [⟨last.minute, ⟨last.sums.broad + entry.sums.broad, last.sums.low + entry.sums.low⟩,
                last.counted + 1, last.substituted + entry.substituted⟩])))

/-- The demand controller (R73 to R77): `e` is the greater of the two errors against the target short levels, and the
first branch that applies moves the demand, the settle timer and the release count. -/
def Obligations.CloseSteersDemand : Prop :=
  ∀ (zn : Zone) (now : Nat) (limits : Pair Nat) (aw : Awaiting) (rec : Option MeasurementRecord),
    zn.demand ≤ 96 → ∀ n : Zone, n = zn.close now limits aw rec →
    ∀ v : Pair MetricLevels, n.levels = some v →
      ∀ above : Pair Int,
        above = ⟨(v.broad.rolling : Int) - (limits.broad - zn.config.guardBand),
          (v.low.rolling : Int) - (limits.low - zn.config.guardBand)⟩ →
      ∀ target : Pair Int,
        target = ⟨if above.broad ≤ 0 then (limits.broad : Int)
            else max ((limits.broad : Int) - 2 * above.broad) ((limits.broad : Int) - 100),
          if above.low ≤ 0 then (limits.low : Int)
            else max ((limits.low : Int) - 2 * above.low) ((limits.low : Int) - 100)⟩ →
      ∀ e : Int, e = max ((v.broad.short : Int) - target.broad) ((v.low.short : Int) - target.low) →
      ∀ isFast : Bool,
        isFast = decide (limits.broad + zn.config.fastMargin < v.broad.closing ∨
          limits.low + zn.config.fastMargin < v.low.closing) →
      ∀ due : Nat, due = now + 1000000 * zn.config.settlePeriod →
      (isFast = true →
        n.demand = min 96 (zn.demand + zn.config.fastStep) ∧ n.settle = some due ∧ n.releaseCount = 0) ∧
      (isFast = false → 0 < e → zn.settle = none →
        n.demand = min 96 (zn.demand + min zn.config.attackCap (ceilDiv e.toNat 5)) ∧ n.settle = some due ∧
        n.releaseCount = 0) ∧
      (isFast = false → -(zn.config.releaseMargin : Int) ≤ e → ¬(0 < e ∧ zn.settle = none) →
        n.demand = zn.demand ∧ n.settle = zn.settle ∧ n.releaseCount = 0) ∧
      (isFast = false → e < -(zn.config.releaseMargin : Int) →
        n.settle = zn.settle ∧
        (zn.releaseCount + 1 < zn.config.releaseInterval →
          n.demand = zn.demand ∧ n.releaseCount = zn.releaseCount + 1) ∧
        (zn.config.releaseInterval ≤ zn.releaseCount + 1 →
          n.demand = zn.demand - 1 ∧ n.releaseCount = 0))

/-- The conditions (R79), the FAST flags with their quiet counts (R80) and the snapshot (R84) after a close. -/
def Obligations.CloseJudgesConditions : Prop :=
  ∀ (zn : Zone) (now : Nat) (limits : Pair Nat) (aw : Awaiting) (rec : Option MeasurementRecord),
    ∀ n : Zone, n = zn.close now limits aw rec → ∀ v : Pair MetricLevels, n.levels = some v →
    ∀ m : Metric, ∀ r : Int, r = ((v.get m).rolling : Int) → ∀ lim : Int, lim = (limits.get m : Int) →
      (n.conditions.get m =
        if lim < r then .over
        else if zn.conditions.get m = .over ∧ lim - zn.config.hysteresis < r then .over
        else if lim - zn.config.warnMargin < r then .near
        else .clear) ∧
      (lim + zn.config.fastMargin < (v.get m).closing → n.fast.get m = ⟨true, 0⟩) ∧
      ((v.get m).closing ≤ lim + zn.config.fastMargin →
        ((zn.fast.get m).isSet = false → n.fast.get m = ⟨false, 0⟩) ∧
        ((zn.fast.get m).isSet = true →
          n.fast.get m = if 2 ≤ (zn.fast.get m).quiet then ⟨false, 0⟩
            else ⟨true, (zn.fast.get m).quiet + 1⟩)) ∧
      ((n.snapshot.get m).fastSeen =
        ((zn.snapshot.get m).fastSeen || decide (lim + zn.config.fastMargin < (v.get m).closing))) ∧
      ((n.snapshot.get m).worst =
        if n.conditions.get m ≠ zn.conditions.get m ∧
            (zn.snapshot.get m).worst.rank < (n.conditions.get m).rank then n.conditions.get m
        else (zn.snapshot.get m).worst)

/-- The expiry of a settle timer (R76), of a LOST slot's re-seek timer (R41) and of a path's no-signal timer (R135),
each at its due moment. That the command moves time to the due moment, or leaves it where that is already past, and has
no effect where the timer does not run, is the model's choice (log entry 4). -/
def Obligations.BlockTimersExpire : Prop :=
  ∀ s : State,
    (∀ z : ZoneId,
      ((s.zones.get z).settle = none → exec (.settleExpiry z) s = .next s) ∧
      (∀ due : Nat, (s.zones.get z).settle = some due →
        exec (.settleExpiry z) s =
          .next { s with
            now := max s.now due
            zones := s.zones.set z { s.zones.get z with settle := none } })) ∧
    (∀ a : SlotId,
      ((∀ due : Nat, (s.loop.slots.get a).reseek ≠ .running due) ∨ s.loop.slotState a ≠ .lost →
        exec (.reseekExpiry a) s = .next s) ∧
      (∀ due : Nat, s.loop.slotState a = .lost → (s.loop.slots.get a).reseek = .running due →
        exec (.reseekExpiry a) s =
          .next { s with
            now := max s.now due
            loop := ({ s.loop with
              slots := s.loop.slots.modify a fun u => { u with reseek := .probeDue } } : Loop).arbitrate })) ∧
    (∀ st : StageId,
      ((∀ due : Nat, (s.paths.get st).watch ≠ .present due) → exec (.noSignalExpiry st) s = .next s) ∧
      (∀ due : Nat, (s.paths.get st).watch = .present due →
        leadsTo (.noSignalExpiry st) s fun t =>
          t = { s with
            now := max s.now due
            paths := s.paths.set st { s.paths.get st with
              watch := .absent, alarms := { (s.paths.get st).alarms with noSignal := true } }
            links := t.links } ∧
          t.links = (if (s.paths.get st).alarms.noSignal = true then s
            else (s.raiseDesk st .pathAlarm).raiseOfficer .pathAlarm).links))

/-! ## Stage attenuation units -/

/-- MUTE NOW, FADE and RELEASE (R94, R96 to R100, R102, R103): OFFICER is added with a cut or a fade, START and OFFICER
are removed, and a removal that empties the set brings the stage back in. A rise of the applied attenuation from 0
raises ATTENUATING (R110). NO_SUCH is R190's. That a FADING stage resumes from the attenuation it has reached is the
model's choice (log entry 38). -/
def Obligations.OfficerMutesAndReleases : Prop :=
  ∀ s : State, idle .officer s →
    (∀ n : Nat, 4 ≤ n →
      completes (.muteNow n) .officer s s 0xA2#8 [4#8] ∧ completes (.fade n) .officer s s 0xA3#8 [4#8] ∧
      completes (.release n) .officer s s 0xA4#8 [4#8]) ∧
    ∀ st : StageId, ∀ g : Stage, g = s.stages.get st →
      (∀ h : Stage,
        h = { g with reasons := { g.reasons with officer := true }, gain := .muted, applied := 96, ramp := none } →
        ∀ u : State, u = ({ s with stages := s.stages.set st h } : State).raiseDeskIf
          (decide (g.applied = 0 ∧ 0 < h.applied)) st .attenuating →
        completes (.muteNow st.val) .officer s u 0xA2#8
          [0#8, byteOf st.val, byteOf h.gain.position, byteOf h.reasons.mask, byteOf h.applied]) ∧
      (∀ h : Stage,
        h = (if g.gain = .fading ∨ g.gain = .muted then { g with reasons := { g.reasons with officer := true } }
          else if 96 ≤ max g.applied g.target then
            { g with
              reasons := { g.reasons with officer := true }, gain := .muted, applied := 96, ramp := none }
          else
            { g with
              reasons := { g.reasons with officer := true }, gain := .fading
              applied := max g.applied g.target
              ramp := some ⟨.fade, s.now + 1000 * g.record.fadeStep⟩ }) →
        ∀ u : State, u = ({ s with stages := s.stages.set st h } : State).raiseDeskIf
          (decide (g.applied = 0 ∧ 0 < h.applied)) st .attenuating →
        completes (.fade st.val) .officer s u 0xA3#8
          [0#8, byteOf st.val, byteOf h.gain.position, byteOf h.reasons.mask, byteOf h.applied]) ∧
      (∀ h : Stage,
        h = (if g.reasons.curfew = true ∨ (g.reasons.start = false ∧ g.reasons.officer = false) ∨
              g.gain = .opened ∨ g.gain = .resuming then
            { g with reasons := ⟨false, false, g.reasons.curfew⟩ }
          else if g.applied ≤ g.target then
            { g with reasons := ⟨false, false, false⟩, gain := .opened, applied := g.target, ramp := none }
          else
            { g with
              reasons := ⟨false, false, false⟩, gain := .resuming
              ramp := some ⟨.resume, s.now + 1000 * g.record.resumeStep⟩ }) →
        ∀ u : State, u = ({ s with stages := s.stages.set st h } : State).raiseDeskIf
          (decide (g.applied = 0 ∧ 0 < h.applied)) st .attenuating →
        completes (.release st.val) .officer s u 0xA4#8
          [0#8, byteOf st.val, byteOf h.gain.position, byteOf h.reasons.mask, byteOf h.applied])

/-- A ramp timer's expiry (R101 to R103, R106): one step for its purpose, from the expiry's moment, until the fade
ends in MUTED, the resumption in OPEN, and a run in OPEN at its target. That the command moves time to the due moment,
or leaves it where that is already past, and does nothing without a running timer, is the model's choice (log entry
4). -/
def Obligations.RampExpiryTakesOneStep : Prop :=
  ∀ (s : State) (st : StageId), ∀ g : Stage, g = s.stages.get st →
    (g.ramp = none → exec (.rampExpiry st) s = .next s) ∧
    ∀ r : Ramp, g.ramp = some r → ∀ m : Nat, m = max s.now r.due → ∀ h : Stage,
      (g.gain = .fading ∧ r.purpose = .fade ∧
        h = (if 96 ≤ max (g.applied + 1) g.target then { g with gain := .muted, applied := 96, ramp := none }
          else { g with
            applied := max (g.applied + 1) g.target, ramp := some ⟨.fade, m + 1000 * g.record.fadeStep⟩ })) ∨
      (g.gain = .resuming ∧ r.purpose = .resume ∧
        h = (if g.applied - 1 ≤ g.target then { g with gain := .opened, applied := g.applied - 1, ramp := none }
          else { g with
            applied := g.applied - 1, ramp := some ⟨.resume, m + 1000 * g.record.resumeStep⟩ })) ∨
      (g.gain = .opened ∧ r.purpose = .attack ∧ g.applied < 96 ∧
        h = (if g.target ≤ g.applied + 1 then { g with applied := g.applied + 1, ramp := none }
          else { g with
            applied := g.applied + 1, ramp := some ⟨.attack, m + 1000 * g.record.attack⟩ })) ∨
      (g.gain = .opened ∧ r.purpose = .release ∧
        h = (if g.applied - 1 ≤ g.target then { g with applied := g.applied - 1, ramp := none }
          else { g with
            applied := g.applied - 1, ramp := some ⟨.release, m + 1000 * g.record.releaseStep⟩ })) →
      exec (.rampExpiry st) s =
        .next (({ s with now := m, stages := s.stages.set st h } : State).raiseDeskIf
          (decide (g.applied = 0 ∧ 0 < h.applied)) st .attenuating)

/-- The target (R91 to R93) is the least of 96 and the greatest of the weighted demands of the coupled enabled zones,
the desk trim and the force floor; and a target change acts by gain state and change mode (R102 to R106). -/
def Obligations.TargetAndItsChanges : Prop :=
  (∀ (s : State) (st : StageId), ∀ r : StageRecord, r = (s.stages.get st).record → ∀ d f : Nat,
    (∀ z : ZoneId, (s.zones.get z).enabled = true → 0 < r.coupling.get z →
      ceilDiv ((s.zones.get z).demand * r.coupling.get z) 100 ≤ d) →
    (d = 0 ∨ ∃ z : ZoneId, (s.zones.get z).enabled = true ∧ 0 < r.coupling.get z ∧
      d = ceilDiv ((s.zones.get z).demand * r.coupling.get z) 100) →
    f = (if s.timeBase.state = .unset ∨ ∃ z : ZoneId, (s.zones.get z).enabled = true ∧ 0 < r.coupling.get z ∧
      (s.zones.get z).feed = .fallback then r.failsafe else 0) →
    targetOf s st = min 96 (max d (max r.trim f))) ∧
  (∀ (g : Stage) (now n : Nat),
    (g.gain = .muted → g.retarget now n = { g with target := n }) ∧
    (g.gain = .fading →
      g.retarget now n =
        if n ≤ g.applied then { g with target := n }
        else if 96 ≤ n then { g with target := n, gain := .muted, applied := 96, ramp := none }
        else { g with target := n, applied := n }) ∧
    (g.gain = .resuming →
      g.retarget now n =
        if g.applied ≤ n then { g with target := n, gain := .opened, applied := n, ramp := none }
        else { g with target := n }) ∧
    (g.gain = .opened →
      (g.record.mode = .hard → g.retarget now n = { g with target := n, applied := n, ramp := none }) ∧
      (g.record.mode = .soft →
        (n = g.applied → g.retarget now n = { g with target := n, ramp := none }) ∧
        (g.applied < n →
          g.retarget now n = { g with
            target := n
            ramp := if rampPurpose g = some .attack then g.ramp
              else some ⟨.attack, now + 1000 * g.record.attack⟩ }) ∧
        (n < g.applied →
          g.retarget now n = { g with
            target := n
            ramp := if rampPurpose g = some .release then g.ramp
              else some ⟨.release, now + 1000 * g.record.releaseStep⟩ }))))

/-- SET STAGE (R87, R106, R107): a change mode out of its list is refused, in SHOW a failsafe below the one held is,
and otherwise every field given is clamped and stored, the target recomputed where failsafe or trim is given, a change
to HARD while OPEN settles the stage, and an interval leaves a running timer alone. That the fields are all stored
before any acts (log entry 20), and that the reply ends the keeping of close reports (log entry 40), is the model's
choice. -/
def Obligations.SetStageRequest : Prop :=
  ∀ (s : State) (f : SetStageFields), idle .officer s →
    (∀ n : Nat, 4 ≤ n → completes (.setStage n f) .officer s s 0x99#8 [4#8]) ∧
    ∀ st : StageId, ∀ g : Stage, g = s.stages.get st →
      ((∃ n ∈ f.changeMode, 2 ≤ n) →
        completes (.setStage st.val f) .officer s s 0x99#8 (stageRecordReply .badValue s st)) ∧
      ((∀ n ∈ f.changeMode, n ≤ 1) →
        (s.mode = .show → (∃ n ∈ f.failsafe, min 96 n < g.record.failsafe) →
          completes (.setStage st.val f) .officer s s 0x99#8 (stageRecordReply .showLock s st)) ∧
        (s.mode = .setup ∨ (∀ n ∈ f.failsafe, g.record.failsafe ≤ min 96 n) →
          ∀ r : StageRecord, r =
            { g.record with
              failsafe := (f.failsafe.map (clampTo 0 96)).getD g.record.failsafe
              mode := (f.changeMode.map fun n => if n = 0 then ChangeMode.hard else .soft).getD g.record.mode
              attack := (f.attack.map (clampTo 1 100)).getD g.record.attack
              releaseStep := (f.releaseStep.map (clampTo 50 2000)).getD g.record.releaseStep
              fadeStep := (f.fadeStep.map (clampTo 25 1000)).getD g.record.fadeStep
              resumeStep := (f.resumeStep.map (clampTo 10 500)).getD g.record.resumeStep
              lead := (f.lead.map (clampTo 1 30)).getD g.record.lead
              trim := (f.trim.map (clampTo 0 24)).getD g.record.trim } →
          leadsTo (.setStage st.val f) s fun t =>
            t = { s with
              stages := t.stages, curfew := t.curfew, reports := [], links := t.links, orders := t.orders } ∧
            t.stages = s.stages.set st (t.stages.get st) ∧
            (t.stages.get st).record = r ∧ (t.stages.get st).reasons = g.reasons ∧
            (t.stages.get st).target = (if f.failsafe.isSome ∨ f.trim.isSome then targetOf t st else g.target) ∧
            (g.gain = .opened → f.changeMode = some 0 →
              (t.stages.get st).applied = (t.stages.get st).target ∧ (t.stages.get st).ramp = none) ∧
            (f.failsafe = none → f.trim = none → f.changeMode = none →
              t.stages.get st = { g with record := r }) ∧
            t.curfew = s.curfew.set st { s.curfew.get st with soonMinute := (t.curfew.get st).soonMinute } ∧
            (f.lead = none → t.curfew = s.curfew) ∧
            sentReply .officer t = some (0x99#8, stageRecordReply .ok t st)))

/-- SET COUPLING (R89, R90): in SHOW a fall is refused; otherwise the clamped value is stored, the target recomputed,
and a change between 0 and a value above 0 brings the zone into or out of the stage's curfew zone set (R114). -/
def Obligations.SetCouplingRequest : Prop :=
  ∀ (s : State) (value : Nat), idle .officer s → ∀ v : Nat, v = min 100 value →
    (∀ n m : Nat, 4 ≤ n ∨ 8 ≤ m → completes (.setCoupling n m value) .officer s s 0x98#8 [4#8]) ∧
    ∀ (st : StageId) (z : ZoneId), ∀ g : Stage, g = s.stages.get st →
      (s.mode = .show → v < g.record.coupling.get z →
        completes (.setCoupling st.val z.val value) .officer s s 0x98#8 (couplingReply .showLock s st)) ∧
      (s.mode = .setup ∨ g.record.coupling.get z ≤ v →
        leadsTo (.setCoupling st.val z.val value) s fun t =>
          (t.stages.get st).record = { g.record with coupling := g.record.coupling.set z v } ∧
          (t.stages.get st).target = targetOf t st ∧
          (∀ other : StageId, other ≠ st →
            t.stages.get other = s.stages.get other ∧
            (t.curfew.get other).zones = (s.curfew.get other).zones) ∧
          (t.curfew.get st).zones =
            (if 0 < v ∧ g.record.coupling.get z = 0 ∧ (s.zones.get z).enabled = true ∧
                (s.tables.get z).inForce.kind.isCurfew = true then
              (s.curfew.get st).zones.set z true
            else if v = 0 ∧ 0 < g.record.coupling.get z then (s.curfew.get st).zones.set z false
            else (s.curfew.get st).zones) ∧
          sentReply .officer t = some (0x98#8, couplingReply .ok t st) ∧
          t.zones = s.zones ∧ t.tables = s.tables ∧ t.timeBase = s.timeBase ∧
          t.exceedances = s.exceedances ∧ t.loop = s.loop ∧ t.paths = s.paths ∧ t.mode = s.mode ∧
          t.now = s.now)

/-! ## Curfew and the encore pool -/

/-- ENCORE (R119 to R121): the window, the stage total, the zones and the pool are checked in that order, and a
request that passes books, starts or extends a grant with the minutes that total, pool and bound leave. -/
def Obligations.EncoreRequest : Prop :=
  ∀ (s : State) (st : StageId) (m : Nat), idle (.desk st) s → s.timeBase.tag < 65536 →
    ∀ c : Curfew, c = s.curfew.get st → ∀ asked : Nat, asked = clampTo 1 10 m →
    ∀ before : Bool, before = (noZone c.zones && !c.grant.isRunning && (match onsetSeconds s st with
      | none => false
      | some n => decide (1 ≤ n ∧ n ≤ 300))) →
    ∀ late : Bool, late = ((s.stages.get st).reasons.curfew && !c.grant.isRunning && !before &&
      (match c.onsetTag with
        | none => false
        | some tag => decide ((s.timeBase.tag + 65536 - tag % 65536) % 65536 ≤ 120))) →
    ∀ loud : Bool, loud = allZones.any (fun z =>
      (s.zones.get z).enabled && decide (0 < (s.stages.get st).record.coupling.get z) &&
        decide ((s.zones.get z).conditions.broad = .over ∨ (s.zones.get z).conditions.low = .over)) →
    (before = false → late = false → c.grant.isRunning = false →
      completes (.encore st m) (.desk st) s s 0x84#8 (encoreReply .outsideWindow asked 0 s st)) ∧
    (before = true ∨ late = true ∨ c.grant.isRunning = true →
      (15 ≤ c.total → completes (.encore st m) (.desk st) s s 0x84#8 (encoreReply .limitReached asked 0 s st)) ∧
      (c.total < 15 → loud = true →
        completes (.encore st m) (.desk st) s s 0x84#8 (encoreReply .zoneOver asked 0 s st)) ∧
      (c.total < 15 → loud = false → s.pool = 0 →
        completes (.encore st m) (.desk st) s s 0x84#8 (encoreReply .poolShort asked 0 s st)) ∧
      (c.total < 15 → loud = false → 0 < s.pool → ∀ g : Nat, g = min (min asked (15 - c.total)) s.pool →
        (before = true → ∀ u : State,
          u = ({ s with
            pool := s.pool - g
            curfew := s.curfew.set st
              { c with grant := .booked (c.grant.minutes + g), total := c.total + g } } : State).raiseOfficer
                .encore →
          completes (.encore st m) (.desk st) s u 0x84#8 (encoreReply .ok asked g u st)) ∧
        (late = true →
          leadsTo (.encore st m) s fun t =>
            t = { s with pool := s.pool - g, curfew := t.curfew, stages := t.stages, links := t.links } ∧
            t.curfew = s.curfew.set st { c with
              grant := .running g ((s.timeBase.tag + 60 * g) % 65536)
              endSoon := c.endSoon || decide (g = 1)
              total := c.total + g } ∧
            t.stages = s.stages.set st (Stage.dropCurfew s.now (s.stages.get st)) ∧
            noticeAt .officer 8 t = true ∧
            noticeAt (.desk st) 4 t = (noticeAt (.desk st) 4 s || (decide (g = 1) && !c.endSoon)) ∧
            sentReply (.desk st) t = some (0x84#8, encoreReply .ok asked g t st)) ∧
        (∀ minutes e : Nat, c.grant = .running minutes e →
          ∀ left : Nat, left = (e + 65536 - s.timeBase.tag) % 65536 →
          ∀ h : Nat, h = min g ((32767 - left) / 60) →
          (h = 0 →
            completes (.encore st m) (.desk st) s s 0x84#8 (encoreReply .limitReached asked 0 s st)) ∧
          (0 < h →
            leadsTo (.encore st m) s fun t =>
              t = { s with pool := s.pool - h, curfew := t.curfew, links := t.links } ∧
              t.curfew = s.curfew.set st { c with
                grant := .running (minutes + h) ((e + 60 * h) % 65536)
                endSoon := decide (left + 60 * h ≤ 60)
                total := c.total + h } ∧
              noticeAt .officer 8 t = true ∧
              sentReply (.desk st) t = some (0x84#8, encoreReply .ok asked h t st)))))

/-- ENCORE END (R123): NOT_NOW without a grant; a booking returns all its minutes; a running grant returns its whole
minutes left and ends, with CURFEW added and CURFEW_NOW raised (R121). What is returned stops the pool at 30 and the
total at 0 (R118). The reply is R183's, and its byte for a number of minutes above 255 is a free value (log entry 39). -/
def Obligations.EncoreEndRequest : Prop :=
  ∀ (s : State) (st : StageId), idle (.desk st) s → ∀ c : Curfew, c = s.curfew.get st →
    (c.grant = .none →
      completes (.encoreEnd st) (.desk st) s s 0x85#8 [8#8, 0#8, 0#8, byteOf s.pool, byteOf c.total]) ∧
    (∀ m : Nat, c.grant = .booked m → ∀ b : Byte, b = (if m ≤ 255 then byteOf m else Config.minutesByte m) →
      ∀ u : State, u = ({ s with
        pool := min 30 (s.pool + m)
        curfew := s.curfew.set st { c with grant := .none, endSoon := false, total := c.total - m } } :
          State).raiseOfficer .encore →
      completes (.encoreEnd st) (.desk st) s u 0x85#8
        [0#8, b, 0#8, byteOf (min 30 (s.pool + m)), byteOf (c.total - m)]) ∧
    (∀ minutes e m : Nat, c.grant = .running minutes e →
      m = tagDistance e s.timeBase.tag / 60 →
      ∀ b : Byte, b = (if m ≤ 255 then byteOf m else Config.minutesByte m) →
      leadsTo (.encoreEnd st) s fun t =>
        t = { s with
          pool := min 30 (s.pool + m)
          curfew := s.curfew.set st { c with grant := .none, endSoon := false, total := c.total - m }
          stages := s.stages.set st (Stage.addCurfew s.now (s.stages.get st))
          links := t.links } ∧
        noticeAt (.desk st) 3 t = true ∧ noticeAt .officer 8 t = true ∧
        sentReply (.desk st) t =
          some (0x85#8, [0#8, b, 0#8, byteOf (min 30 (s.pool + m)), byteOf (c.total - m)]))

/-- SET POOL (R118), ARM SHOW (R187) and END SHOW (R126, R189): the pool replaced and the totals cleared; the mode
SHOW where the time is set and every enabled zone has an ACTIVE unit; the mode SETUP with every grant ended. That the
reply ends the keeping of close reports is the model's choice (log entry 40). -/
def Obligations.PoolAndShowRequests : Prop :=
  ∀ s : State, idle .officer s →
    (∀ m : Nat, ∀ u : State,
      u = { s with pool := min 30 m, curfew := s.curfew.map fun c => { c with total := 0 } } →
      completes (.setPool m) .officer s u 0xA1#8 [0#8, byteOf (min 30 m), 0#8, 0#8, 0#8, 0#8]) ∧
    (s.mode = .show → completes .armShow .officer s s 0x9F#8 (armReply .ok s)) ∧
    (s.mode = .setup →
      (s.timeBase.state = .unset ∨ (∃ z : ZoneId, (s.zones.get z).enabled = true ∧
          ∀ a : SlotId, (s.loop.slots.get a).zone = some z → s.loop.slotState a ≠ .active) →
        completes .armShow .officer s s 0x9F#8 (armReply .notNow s)) ∧
      (s.timeBase.state ≠ .unset → (∀ z : ZoneId, (s.zones.get z).enabled = true →
          ∃ a : SlotId, (s.loop.slots.get a).zone = some z ∧ s.loop.slotState a = .active) →
        completes .armShow .officer s { s with mode := .show } 0x9F#8 [0#8, 1#8, 0#8, 0#8])) ∧
    leadsTo .endShow s fun t =>
      t = { s with mode := .setup, curfew := t.curfew, stages := t.stages, reports := [], links := t.links } ∧
      (∀ st : StageId, ∀ c : Curfew, c = s.curfew.get st →
        (c.grant = .none → t.curfew.get st = c ∧ t.stages.get st = s.stages.get st) ∧
        (c.grant ≠ .none → t.curfew.get st = { c with grant := .none, endSoon := false } ∧
          noticeAt .officer 8 t = true) ∧
        (c.grant.isRunning = true →
          t.stages.get st = Stage.addCurfew s.now (s.stages.get st) ∧ noticeAt (.desk st) 3 t = true) ∧
        (c.grant.isRunning = false → t.stages.get st = s.stages.get st)) ∧
      sentReply .officer t = some (0xA0#8,
        [0#8, 0#8, byteOf (allStages.filter fun st => decide ((s.curfew.get st).grant ≠ .none)).length,
          byteOf s.pool])

/-- A RUNNING grant at a second mark within a minute (R122): the mark that carries its end point ends it and adds
CURFEW; with 60 s or less left ENCORE_END_SOON is raised, once. -/
def Obligations.GrantAtMark : Prop :=
  ∀ s : State, s.timeBase.source = .internal ∨ s.timeBase.state = .unset →
    leadsTo .expectedPoint s fun t => t.minute = s.minute →
      t.pool = s.pool ∧
      ∀ st : StageId, ∀ c : Curfew, c = s.curfew.get st →
        (c.grant.isRunning = false → t.curfew.get st = c) ∧
        (∀ minutes e : Nat, c.grant = .running minutes e →
          (e = t.timeBase.tag →
            t.curfew.get st = { c with grant := .none, endSoon := false } ∧
            (t.stages.get st).reasons = { (s.stages.get st).reasons with curfew := true } ∧
            noticeAt (.desk st) 3 t = true ∧ noticeAt .officer 8 t = true) ∧
          (e ≠ t.timeBase.tag →
            t.curfew.get st =
              { c with endSoon := c.endSoon || decide (tagDistance e t.timeBase.tag ≤ 60) } ∧
            (t.stages.get st).reasons = (s.stages.get st).reasons ∧
            (c.endSoon = false → tagDistance e t.timeBase.tag ≤ 60 → noticeAt (.desk st) 4 t = true)))

/-- The curfew unit's answer to a re-evaluated table (R28, R29, R114 to R116): an onset joins the zone to the set of
each stage it reaches, and a stage whose set was empty takes CURFEW or starts its booking; an end takes the zone out,
and a stage whose set becomes empty loses CURFEW and a running grant. -/
def Obligations.OnsetsAndEnds : Prop :=
  ∀ (s : State) (z : ZoneId) (t : State), t = s.reevaluate z → ∀ new : Segment,
    new = segmentAt (s.tables.get z).segments s.minute →
    t.tables = s.tables.set z ⟨(s.tables.get z).segments, new⟩ ∧
    t = { s with
      tables := t.tables, stages := t.stages, curfew := t.curfew, pool := t.pool, links := t.links } ∧
    ∀ st : StageId, ∀ c : Curfew, c = s.curfew.get st → ∀ g : Stage, g = s.stages.get st →
      ((s.tables.get z).inForce.kind.isCurfew = new.kind.isCurfew →
        (t.curfew.get st).zones = c.zones ∧ t.stages.get st = g) ∧
      ((s.tables.get z).inForce.kind.isCurfew = false → new.kind.isCurfew = true →
        (reaches s st z = false → (t.curfew.get st).zones = c.zones ∧ t.stages.get st = g) ∧
        (reaches s st z = true →
          (t.curfew.get st).zones = c.zones.set z true ∧
          (noZone c.zones = false → t.stages.get st = g ∧ (t.curfew.get st).onsetTag = c.onsetTag) ∧
          (noZone c.zones = true →
            (t.curfew.get st).onsetTag = some s.timeBase.tag ∧
            (c.grant = .none →
              t.stages.get st = Stage.addCurfew s.now g ∧ noticeAt (.desk st) 3 t = true) ∧
            (∀ m : Nat, c.grant = .booked m →
              (t.curfew.get st).grant = .running m ((s.timeBase.tag + 60 * m) % 65536) ∧
              t.stages.get st = g ∧ noticeAt .officer 8 t = true)))) ∧
      ((s.tables.get z).inForce.kind.isCurfew = true → new.kind.isCurfew = false →
        (t.curfew.get st).zones = c.zones.set z false ∧
        (noZone c.zones = true ∨ noZone (c.zones.set z false) = false →
          t.stages.get st = g ∧ (t.curfew.get st).onsetTag = c.onsetTag) ∧
        (noZone c.zones = false → noZone (c.zones.set z false) = true →
          (t.curfew.get st).onsetTag = none ∧ t.stages.get st = Stage.dropCurfew s.now g ∧
          (c.grant.isRunning = true →
            (t.curfew.get st).grant = .none ∧ (t.curfew.get st).total = c.total ∧
            noticeAt .officer 8 t = true)))

/-! ## Stage audio paths -/

/-- FRAME_ARRIVAL (R129 to R132, R135, R136): what the path's state makes of the frame, the watch PRESENT with its
timer 1 ms on, and PATH_ALARM on both links where an alarm goes from clear to set. -/
def Obligations.FrameArrivesAtPath : Prop :=
  ∀ (s : State) (st : StageId) (f : Frame) (strobe : Bool), ∀ p : Path, p = s.paths.get st →
    (p.state = .idle → exec (.frameArrival st f strobe) s = .next s) ∧
    (p.state ≠ .idle → ∀ w : Path, w = { p with watch := .present (s.now + 1000) } →
      ∀ n : Nat, n = (p.writeIndex.getD 15 + 1) % 16 →
      ∀ slip : Bool, slip = (strobe && p.writeIndex.isSome && decide (n ≠ 0)) →
      ∀ q : Path, q =
        (if p.state = .aligning then
          (if p.writeIndex = none ∧ strobe = false then w
          else if p.writeIndex = none ∨ slip = true then
            { w with
              buffer := [f], writeIndex := some 0
              state := if p.delay ≤ 1 then .running else .aligning
              alarms := { p.alarms with strobeSlip := p.alarms.strobeSlip || slip } }
          else
            { w with
              buffer := p.buffer ++ [f], writeIndex := some n
              state := if p.delay ≤ p.buffer.length + 1 then .running else .aligning })
        else if slip = true ∧ p.followStrobe = true then
          { w with
            buffer := [f], writeIndex := some 0
            state := if p.delay ≤ 1 then .running else .aligning
            alarms := { p.alarms with strobeSlip := true } }
        else
          { w with
            buffer := if p.buffer.length < 32 then p.buffer ++ [f] else p.buffer
            writeIndex := some (if slip = true then 0 else n)
            alarms := { p.alarms with
              strobeSlip := p.alarms.strobeSlip || slip
              overflow := p.alarms.overflow || decide (32 ≤ p.buffer.length) } }) →
      leadsTo (.frameArrival st f strobe) s fun t =>
        t = { s with paths := s.paths.set st q, links := t.links } ∧
        t.links = (if q.alarms = p.alarms then s
          else (s.raiseDesk st .pathAlarm).raiseOfficer .pathAlarm).links)

/-- OUTPUT_FRAME_EVENT (R127, R129, R130, R133, R138): each path sends one frame, a path in RUNNING its oldest one
scaled by the stage's gain (R11, R12), and zero samples where the stage is MUTED, the path path-muted or its buffer
empty, which sets UNDERFLOW. -/
def Obligations.OutputEventSendsOneFrameEach : Prop :=
  ∀ s : State, leadsTo .outputFrameEvent s fun t =>
    t = { s with paths := t.paths, links := t.links } ∧
    ∀ st : StageId, ∀ p : Path, p = s.paths.get st → ∀ g : Stage, g = s.stages.get st →
      ∀ silent : Bool, silent = (decide (g.gain = .muted) ||
        (p.alarms.overflow && p.muteMask.overflow) || (p.alarms.underflow && p.muteMask.underflow) ||
        (p.alarms.strobeSlip && p.muteMask.strobeSlip) || (p.alarms.noSignal && p.muteMask.noSignal)) →
      (p.state ≠ .running → t.paths.get st = { p with sent := Bank8.fill 0 }) ∧
      (p.state = .running →
        (p.buffer = [] →
          t.paths.get st = { p with
            sent := Bank8.fill 0, alarms := { p.alarms with underflow := true } } ∧
          (p.alarms.underflow = false →
            noticeAt (.desk st) 5 t = true ∧ noticeAt .officer 7 t = true)) ∧
        (∀ f : Frame, p.buffer.head? = some f →
          t.paths.get st = { p with
            buffer := p.buffer.tail
            sent := if silent = true then Bank8.fill 0
              else f.map fun x => (x * (gain g.applied : Int) + 16384) / 32768 }))

/-- The officer's path requests: ENABLE PATH, DISABLE PATH (R139), ALIGN PATH (R140), SET PATH (R141) and CLEAR ALARMS
(R137), each answered with the path status (R142); NO_SUCH and BAD_VALUE are R190's. That any follow-strobe byte but 0
means on is the model's choice (log entry 18). -/
def Obligations.PathRequests : Prop :=
  ∀ (s : State) (f : SetPathFields) (mask : Byte), idle .officer s →
    (∀ n : Nat, 4 ≤ n →
      completes (.enablePath n) .officer s s 0xA5#8 [4#8] ∧
      completes (.disablePath n) .officer s s 0xA6#8 [4#8] ∧
      completes (.alignPath n) .officer s s 0xA7#8 [4#8] ∧
      completes (.setPath n f) .officer s s 0xA8#8 [4#8] ∧
      completes (.clearAlarms n mask) .officer s s 0xA9#8 [4#8]) ∧
    ∀ st : StageId, ∀ p : Path, p = s.paths.get st →
      (∀ q : Path, q = (if p.state = .idle then
          { p with state := .aligning, buffer := [], writeIndex := none, watch := .present (s.now + 1000) }
        else p) →
        ∀ u : State, u = { s with paths := s.paths.set st q } →
        completes (.enablePath st.val) .officer s u 0xA5#8 (pathReply .ok u st)) ∧
      (∀ q : Path, q = { p with state := .idle, buffer := [], writeIndex := none, watch := .notWatched } →
        ∀ u : State, u = { s with paths := s.paths.set st q } →
        completes (.disablePath st.val) .officer s u 0xA6#8 (pathReply .ok u st)) ∧
      (p.state = .idle → completes (.alignPath st.val) .officer s s 0xA7#8 (pathReply .notNow s st)) ∧
      (p.state ≠ .idle →
        ∀ q : Path, q = { p with state := .aligning, buffer := [], writeIndex := none } →
        ∀ u : State, u = { s with paths := s.paths.set st q } →
        completes (.alignPath st.val) .officer s u 0xA7#8 (pathReply .ok u st)) ∧
      (f.spareBits = true ∨ (∃ m ∈ f.muteMask, 16 ≤ m.toNat) →
        completes (.setPath st.val f) .officer s s 0xA8#8 (pathReply .badValue s st)) ∧
      (f.spareBits = false → (∀ m ∈ f.muteMask, m.toNat < 16) →
        ∀ d : Nat, d = (f.delay.map (clampTo 2 30)).getD p.delay →
        ∀ q : Path, q = { p with
            delay := d
            muteMask := (f.muteMask.map fun m =>
              (⟨m.getLsbD 0, m.getLsbD 1, m.getLsbD 2, m.getLsbD 3⟩ : AlarmSet)).getD p.muteMask
            followStrobe := (f.followStrobe.map fun n => decide (n ≠ 0)).getD p.followStrobe
            state := if p.state = .aligning ∧ f.delay.isSome ∧ p.writeIndex.isSome ∧ d ≤ p.buffer.length
              then .running else p.state } →
        ∀ u : State, u = { s with paths := s.paths.set st q } →
        completes (.setPath st.val f) .officer s u 0xA8#8 (pathReply .ok u st)) ∧
      (16 ≤ mask.toNat → completes (.clearAlarms st.val mask) .officer s s 0xA9#8 (pathReply .badValue s st)) ∧
      (mask.toNat < 16 →
        ∀ again : Bool, again = (mask.getLsbD 3 && decide (p.watch = .absent)) →
        ∀ q : Path, q = { p with
            alarms := ⟨p.alarms.overflow && !mask.getLsbD 0, p.alarms.underflow && !mask.getLsbD 1,
              p.alarms.strobeSlip && !mask.getLsbD 2, (p.alarms.noSignal && !mask.getLsbD 3) || again⟩ } →
        ∀ v : State, v = { s with paths := s.paths.set st q } →
        ∀ u : State, u = (if again = true then (v.raiseDesk st .pathAlarm).raiseOfficer .pathAlarm else v) →
        completes (.clearAlarms st.val mask) .officer s u 0xA9#8 (pathReply .ok u st))

/-! ## Exceedance records -/

/-- A close report at the exceedance list (R146 to R149, R151), and CLEAR CLOSED (R154). Open records of the zone are
updated where their pair is active and closed where it is not; then each active pair without one opens a record, as
the newest, numbered by the counter; an opening at a full list of 48 first removes the oldest closed record, with
DISCARD raised. The premise on the list is the invariant that ZonesAndRecordsStaySound states. That the reply of
CLEAR CLOSED ends the keeping of close reports is the model's choice (log entry 40). -/
def Obligations.ListTakesCloseReport : Prop :=
  ∀ (s : State) (c : CloseReport),
  (∀ t : State, t = s.takeReport c →
    ∀ active : Metric × RecordKind → Bool,
    active = (fun p => match p.2 with
      | .rolling => decide (c.conditions.get p.1 = .over)
      | .fast => c.fast.get p.1) →
    ∀ level : Metric × RecordKind → Nat,
    level = (fun p => match p.2 with
      | .rolling => c.rolling.get p.1
      | .fast => c.closing.get p.1) →
    ∀ stages : Bank4 Bool, stages = (s.stages.map fun g => decide (0 < g.applied)) →
    ∀ one : Nat, one = (if c.substituted = true then 1 else 0) →
    ∀ held : List Exceedance,
    held = (s.exceedances.records.map fun r =>
      if r.cause = none ∧ r.zone = c.zone then
        if active (r.metric, r.kind) = true then
          { r with
            duration := min 65535 (r.duration + 1)
            substituted := min 65535 (r.substituted + one)
            peakLevel := max r.peakLevel (level (r.metric, r.kind))
            peakDemand := max r.peakDemand c.demand
            stages := unionStages r.stages stages }
        else { r with endMinute := c.minute, cause := some .cleared }
      else r) →
    ∀ opening : List (Metric × RecordKind),
    opening = (([(.broad, .rolling), (.broad, .fast), (.low, .rolling), (.low, .fast)] :
      List (Metric × RecordKind)).filter fun p => active p && !held.any (Exceedance.isFor c.zone p)) →
    ∀ opened : List Exceedance,
    opened = (opening.mapIdx fun i p =>
      { number := (s.exceedances.counter + i) % 65536, zone := c.zone, metric := p.1, kind := p.2
        startTag := c.tag, startMinute := c.minute, limitAtOpen := c.limits.get p.1, duration := 1
        substituted := one, peakLevel := level p, peakDemand := c.demand, stages := stages
        endMinute := none, cause := none }) →
    recordsOk s →
    t = { s with exceedances := t.exceedances, links := t.links } ∧
    t.exceedances.counter = (s.exceedances.counter + opening.length) % 65536 ∧
    (held.length + opening.length ≤ 48 → t.exceedances.records = held ++ opened) ∧
    t.exceedances.records =
      opened.foldl (fun l r => (if 48 ≤ l.length then l.eraseP fun q => q.cause.isSome else l) ++ [r]) held ∧
    t.exceedances.records.length = min 48 (held.length + opening.length) ∧
    (noticeAt .officer 3 t = (noticeAt .officer 3 s || !opening.isEmpty)) ∧
    (noticeAt .officer 4 t = (noticeAt .officer 4 s || s.exceedances.records.any fun r =>
      decide (r.cause = none ∧ r.zone = c.zone) && !active (r.metric, r.kind))) ∧
    (noticeAt .officer 5 t = (noticeAt .officer 5 s ||
      decide (48 < held.length + opening.length)))) ∧
  (idle .officer s →
    ∀ kept : List Exceedance, kept = (s.exceedances.records.filter fun r => r.cause.isNone) →
    completes .clearClosed .officer s { s with exceedances := ⟨kept, s.exceedances.counter⟩ } 0xAB#8
      [0#8, byteOf (s.exceedances.records.length - kept.length), byteOf kept.length])

/-! ## The links -/

/-- Every request a link can carry is read from its layout (R169, R176, R180, R185, R191, R194): the payload that
spells it is read back as it, with every field at every value its place admits, under a kind the link permits. Every
frame of 24-bit samples is read back from its 192 bits on an audio line, channel 0 first and each sample most
significant bit first (R127). That samples are in two's complement is the model's choice (log entry 45). -/
def Obligations.PayloadsReadBackAsRequests : Prop :=
  (∀ f : Frame, f.wf = true → ∀ bits : List Bool, bits = frameBits f →
    bits.length = 192 ∧ frameOfBits bits = some f ∧
    ∀ (c : Fin 8) (i : Nat), i < 24 →
      bits.getD (24 * c.val + i) false = (BitVec.ofInt 24 (f.get c)).getLsbD (23 - i)) ∧
  ∀ (c : Instr) (l : LinkId) (r : Request), requestOf c = some (l, r) → c.wf = true →
    (∀ k : Byte, r ≠ .unknownKind k) → (∀ k : Byte, r ≠ .forbidden k) →
    readPayload l (requestKind r).toNat (requestPayload l r) = some r ∧
    kindKnown (requestKind r).toNat = true ∧ kindPermitted l (requestKind r).toNat = true ∧
    (requestPayload l r).length ≤ 239

/-- The receiver from HUNTING (R157 to R160): bytes that are no start mark are discarded; a sound frame is the
request of its kind, judged by kind, link and length in that order; a line error anywhere after the start mark owes
REJECT LINE, a wrong check and a length byte of 0 or above 240 owe REJECT FORMAT; a gap, or an idle line after a line
error in the length byte, gives the message up with REJECT LINE; a break empties the place and the owed rejects. A
character carries a start bit, its data bits least significant first, the even parity bit and a stop bit; one whose
parity or stop bit is wrong has a line error, and every character is read back from its bits (R156). That a command
carries the bytes since the one before, that a start bit is low and a stop bit high, and that a message begun on the
officer link ends the keeping of close reports, is the model's choice (log entries 9, 41 and 40). -/
def Obligations.ReceiverJudgesMessages : Prop :=
  (∀ c : LineByte, ∀ bits : List Bool, bits = c.bits →
    bits.length = 11 ∧ bits.head? = some false ∧
    (∀ i : Nat, i < 8 → bits.getD (i + 1) false = c.byte.getLsbD i) ∧
    (c.lineError = false ↔ ((bits.drop 1).take 9).count true % 2 = 0 ∧ bits.getLast? = some true) ∧
    LineByte.ofBits bits = some c) ∧
  ∀ (s : State) (l : LinkId), ∀ k : LinkInterface, k = s.links.get l →
    k.receiver = .hunting → (k.transmitter = none → k.owed = []) →
    ∀ rejected : Reject → State, rejected = (fun code =>
      { s with
        reports := if k.transmitter = none ∧ l = .officer then [] else s.reports
        links := s.links.set l (
          if k.transmitter = none then { k with transmitter := some (messageFrame 0xFF#8 [code.byte]) }
          else { k with owed := if code ∈ k.owed then k.owed else k.owed ++ [code] }) }) →
    ∀ start : LineByte, start = LineByte.sound 0xA5#8 →
    (∀ bytes : List LineByte, (∀ b ∈ bytes, b.byte = 0xA5#8 → b.lineError = true) →
      exec (.messageEnd l bytes) s = .next s ∧ exec (.interByteGap l bytes) s = .next s ∧
      exec (.lengthErrorIdle l bytes) s = .next s ∧
      exec (.breakLine l bytes) s =
        .next { s with links := s.links.set l { k with held := none, owed := [] } }) ∧
    (∀ (kind : Byte) (payload : List Byte), payload.length ≤ 239 → ∀ bytes : List LineByte,
      bytes = (messageFrame kind payload).map LineByte.sound →
      ∀ known : Bool, known = decide ((1 ≤ kind.toNat ∧ kind.toNat ≤ 7) ∨
        (0x10 ≤ kind.toNat ∧ kind.toNat ≤ 0x2D)) →
      ∀ permitted : Bool, permitted = decide (if l = .officer then 6 ≤ kind.toNat else kind.toNat ≤ 7) →
      (known = false → exec (.messageEnd l bytes) s = exec (.unknownKind l kind) s) ∧
      (known = true → permitted = false → exec (.messageEnd l bytes) s = exec (.forbidden l kind) s) ∧
      (known = true → permitted = true →
        (readPayload l kind.toNat payload = none →
          exec (.messageEnd l bytes) s = .next (rejected .format)) ∧
        (∀ (c : Instr) (r : Request), requestOf c = some (l, r) →
          readPayload l kind.toNat payload = some r → exec (.messageEnd l bytes) s = exec c s))) ∧
    (∀ n : Byte, 1 ≤ n.toNat → n.toNat ≤ 240 → ∀ rest : List LineByte,
      (rest.length = n.toNat + 1 →
        ((∃ b ∈ rest, b.lineError = true) →
          exec (.messageEnd l (start :: LineByte.sound n :: rest)) s = .next (rejected .line)) ∧
        ((∀ b ∈ rest, b.lineError = false) → byteSum (n :: rest.map LineByte.byte) ≠ 0#8 →
          exec (.messageEnd l (start :: LineByte.sound n :: rest)) s = .next (rejected .format))) ∧
      (rest.length ≤ n.toNat →
        exec (.interByteGap l (start :: LineByte.sound n :: rest)) s = .next (rejected .line) ∧
        exec (.breakLine l (start :: LineByte.sound n :: rest)) s =
          .next { s with links := s.links.set l { k with held := none, owed := [] } })) ∧
    (∀ n : Byte, n.toNat = 0 ∨ 240 < n.toNat →
      exec (.badLength l [start, LineByte.sound n]) s = .next (rejected .format)) ∧
    (∀ (n : LineByte) (rest : List LineByte), n.lineError = true →
      exec (.lengthErrorIdle l (start :: n :: rest)) s = .next (rejected .line) ∧
      exec (.interByteGap l (start :: n :: rest)) s = .next (rejected .line)) ∧
    exec (.interByteGap l [start]) s = .next (rejected .line)

/-- The transmitter (R161): a request that reaches an IDLE interface is served at once and its reply sent; while it
is SENDING the request takes the pending place, or owes REJECT BUSY where that is taken; and a message sent is
followed by the oldest owed reject, else by the reply to the held request, else by IDLE. That a request command is
its request reaching the interface (log entry 1), that the end of a sending changes nothing where the transmitter is
IDLE (log entry 46), and that a message begun on the officer link ends the keeping of close reports (log entry 40), is
the model's choice. -/
def Obligations.TransmitterServesInTurn : Prop :=
  ∀ (s : State) (c : Instr) (l : LinkId) (r : Request), requestOf c = some (l, r) →
    ∀ k : LinkInterface, k = s.links.get l →
    (k.transmitter = none →
      exec c s = .next ((serveRequest l r s).1.send l (replyFrame r (serveRequest l r s).2)) ∧
      exec (.messageSent l) s = .next s) ∧
    (k.transmitter ≠ none →
      (k.held = none → exec c s = .next { s with links := s.links.set l { k with held := some r } }) ∧
      (k.held ≠ none → exec c s = .next { s with
        links := s.links.set l
          { k with owed := if Reject.busy ∈ k.owed then k.owed else k.owed ++ [.busy] } }) ∧
      (∀ (code : Reject) (rest : List Reject), k.owed = code :: rest →
        exec (.messageSent l) s = .next { s with
          reports := if l = .officer then [] else s.reports
          links := s.links.set l
            { k with transmitter := some (messageFrame 0xFF#8 [code.byte]), owed := rest } }) ∧
      (k.owed = [] →
        (k.held = none →
          exec (.messageSent l) s =
            .next { s with links := s.links.set l { k with transmitter := none } }) ∧
        (k.held = some r →
          exec (.messageSent l) s =
            exec c { s with links := s.links.set l { k with transmitter := none, held := none } })))

/-- The requests no block serves (R162, R170, R177), ACK NOTICES (R166) and SET NOTICES (R194): UNKNOWN_KIND and
FORBIDDEN change nothing; an acknowledgement removes the kinds it names; a write stores the enable set and the
priorities it gives (R167); ALERT follows both sets at once (R168); and the top kind is the pending, enabled kind
with the lowest priority number, the earliest among equals (R165). -/
def Obligations.NoticeRequests : Prop :=
  ∀ (s : State) (l : LinkId), ∀ k : LinkInterface, k = s.links.get l →
    (∀ n : Nat, k.topKind = some n ↔
      n < k.priorities.length ∧ (k.noticeSet &&& k.enables).getLsbD n = true ∧
      ∀ m : Nat, m < k.priorities.length → (k.noticeSet &&& k.enables).getLsbD m = true →
        k.priorities.getD n 0 < k.priorities.getD m 0 ∨
          (k.priorities.getD n 0 = k.priorities.getD m 0 ∧ n ≤ m)) ∧
    (idle l s →
      (∀ kind : Byte,
        completes (.unknownKind l kind) l s s 0xFE#8 [1#8, kind] ∧
        completes (.forbidden l kind) l s s (kind + 0x80#8) [2#8]) ∧
      (∀ mask : BitVec 16,
        (2 ^ linkKinds l ≤ mask.toNat → completes (.ackNotices l mask) l s s 0x87#8 (ackReply .badValue s l)) ∧
        (mask.toNat < 2 ^ linkKinds l → ∀ u : State,
          u = { s with links := s.links.set l { k with
            noticeSet := k.noticeSet &&& ~~~mask
            alert := (k.noticeSet &&& ~~~mask &&& k.enables) != 0#16 } } →
          completes (.ackNotices l mask) l s u 0x87#8 (ackReply .ok u l)))) ∧
    (idle .officer s → ∀ f : SetNoticesFields,
      (∀ n : Nat, 5 ≤ n → completes (.setNotices n f) .officer s s 0xAC#8 [4#8]) ∧
      ∀ number : Nat, number = (match l with
        | .desk st => st.val
        | .officer => 4) →
      (f.spareBits = true ∨ (∃ m ∈ f.enables, 2 ^ linkKinds l ≤ m.toNat) ∨
          (∃ p ∈ f.priorities, ∃ n ∈ p.drop (linkKinds l), n ≠ 255) →
        completes (.setNotices number f) .officer s s 0xAC#8 (setNoticesReply .badValue s l)) ∧
      (f.spareBits = false → (∀ m ∈ f.enables, m.toNat < 2 ^ linkKinds l) →
        (∀ p ∈ f.priorities, ∀ n ∈ p.drop (linkKinds l), n = 255) →
        ∀ e : BitVec 16, e = f.enables.getD k.enables →
        ∀ u : State, u = { s with links := s.links.set l { k with
          enables := e
          alert := if f.enables.isSome = true then (k.noticeSet &&& e) != 0#16 else k.alert
          priorities := match f.priorities with
            | none => k.priorities
            | some p => k.priorities.mapIdx fun i old =>
              if i < p.length then (if p.getD i 0 = 255 then old else min 3 (p.getD i 0)) else old } } →
        completes (.setNotices number f) .officer s u 0xAC#8 (setNoticesReply .ok u l)))

/-- SET DESK (R180, R181): refused whole for an unused presence bit or an enables mask beyond the desk kinds, and
otherwise every field given is stored clamped: the target is recomputed for a trim, the CURFEW_SOON test made for a
lead, and ALERT follows the enables. That all fields are stored before any acts is the model's choice (log entry
20). -/
def Obligations.SetDeskRequest : Prop :=
  ∀ (s : State) (st : StageId) (f : SetDeskFields), idle (.desk st) s →
    ∀ g : Stage, g = s.stages.get st → ∀ k : LinkInterface, k = s.links.get (.desk st) →
    (f.spareBits = true ∨ (∃ m ∈ f.enables, 64 ≤ m.toNat) →
      completes (.setDesk st f) (.desk st) s s 0x83#8 (deskReply .badValue s st)) ∧
    (f.spareBits = false → (∀ m ∈ f.enables, m.toNat < 64) →
      ∀ r : StageRecord, r = { g.record with
        trim := (f.trim.map (clampTo 0 24)).getD g.record.trim
        lead := (f.lead.map (clampTo 1 30)).getD g.record.lead } →
      ∀ priorities : List Nat, priorities = (match f.priorities with
        | none => k.priorities
        | some p => k.priorities.mapIdx fun i old =>
          if i < p.length then (if p.getD i 0 = 255 then old else min 3 (p.getD i 0)) else old) →
      leadsTo (.setDesk st f) s fun t =>
        t = { s with stages := t.stages, curfew := t.curfew, links := t.links } ∧
        t.stages = s.stages.set st (t.stages.get st) ∧ t.links = s.links.set (.desk st) (t.links.get (.desk st)) ∧
        (t.stages.get st).record = r ∧ (t.stages.get st).reasons = g.reasons ∧
        (f.trim = none → t.stages.get st = { g with record := r }) ∧
        (f.trim ≠ none → (t.stages.get st).target = targetOf t st) ∧
        t.curfew = s.curfew.set st { s.curfew.get st with soonMinute := (t.curfew.get st).soonMinute } ∧
        (f.lead = none → t.curfew = s.curfew) ∧
        (f.lead ≠ none → ∀ onset left : Nat, nextOnset s st = some onset → minutesLeft s st = some left →
          (left ≤ r.lead →
            (t.curfew.get st).soonMinute = some onset ∧
            ((s.curfew.get st).soonMinute ≠ some onset → noticeAt (.desk st) 2 t = true)) ∧
          (r.lead < left → t.curfew = s.curfew)) ∧
        (t.links.get (.desk st)).enables = ((f.enables.map fun m => m.setWidth 16).getD k.enables) ∧
        (t.links.get (.desk st)).priorities = priorities ∧
        (f.enables ≠ none → (t.links.get (.desk st)).alert =
          (((t.links.get (.desk st)).noticeSet &&& (t.links.get (.desk st)).enables) != 0#16)) ∧
        sentReply (.desk st) t = some (0x83#8, deskReply .ok t st))

/-! ## The part as a whole -/

/-- RESTART (R195): refused in SHOW; in SETUP each block resets its running state under its own rule (R55, R61,
R112, R126, R143, R155, R168), and the configuration, the time base, the schedules and the link interfaces stay. The
exceedance list is emptied and its counter kept; only a close report of the same moment may open records in the
emptied list, each of duration 1, with RECORD_OPENED pending (R155). That a report comes together with the RESTART
where it is of its moment and no message has begun on the officer link since, and that the notice stays, is the model's
choice (log entry 40). -/
def Obligations.RestartRequest : Prop :=
  ∀ s : State, idle .officer s →
    (s.mode = .show → completes .restart .officer s s 0xAD#8 [7#8, 1#8]) ∧
    (s.mode = .setup → leadsTo .restart s fun t =>
      t = { s with
        zones := t.zones, stages := t.stages, pool := 0, curfew := t.curfew, paths := t.paths
        exceedances := t.exceedances, reports := [], loop := t.loop, links := t.links, orders := t.orders } ∧
      (s.exceedances.counter < 65536 → (∀ r ∈ s.reports, r.moment ≠ s.now) →
        t.exceedances = ⟨[], s.exceedances.counter⟩) ∧
      (reportsOk s →
        (∀ r ∈ t.exceedances.records, r.cause = none ∧ r.duration = 1 ∧
          ∃ q ∈ s.reports, q.moment = s.now ∧ r.zone = q.report.zone ∧
            q.report.active (r.metric, r.kind) = true) ∧
        (∀ l : LinkId, ∀ n : BitVec 16,
          n = (if l = .officer ∧ t.exceedances.records ≠ [] then 8#16 else 0#16) →
          t.links.get l = { s.links.get l with
            noticeSet := n, alert := (n &&& (s.links.get l).enables) != 0#16
            transmitter := if l = .officer then some (messageFrame 0xAD#8 [0#8, 0#8])
              else (s.links.get l).transmitter })) ∧
      (∀ z : ZoneId, ∀ zn : Zone, zn = s.zones.get z →
        (zn.enabled = false → t.zones.get z = zn) ∧
        (zn.enabled = true →
          t.zones.get z = { Zone.reset with config := zn.config, enabled := true, feed := .fed })) ∧
      (∀ st : StageId,
        t.stages.get st = { s.stages.get st with
          reasons := ⟨true, false, !noZone (s.curfew.get st).zones⟩
          gain := .muted, target := targetOf t st, applied := 96, ramp := none } ∧
        t.curfew.get st = { s.curfew.get st with
          grant := .none, endSoon := false, total := 0, soonMinute := none } ∧
        ∀ p : Path, p = s.paths.get st →
          (p.state = .idle → t.paths.get st = { p with alarms := AlarmSet.empty }) ∧
          (p.state ≠ .idle → t.paths.get st = { p with
            state := .aligning, buffer := [], writeIndex := none, alarms := AlarmSet.empty
            watch := .present (s.now + 1000) })) ∧
      (∀ slots : Bank8 UnitSlot, slots = (s.loop.slots.map fun u =>
          if u.state = .vacant then u
          else { UnitSlot.reset with state := .seeking, zone := u.zone, serial := u.serial }) →
        t.loop = ({ s.loop with
          slots := slots, scan := none, identifyFirst := false
          flight := s.loop.flight.map fun f => { f with disregarded := true } } : Loop).arbitrate))

/-- In SHOW no command loosens the night (R188, R32, R57, R60, R87, R89): no zone is disabled, no coupling or
failsafe falls, the locked fields of a zone's record and every slot's zone stay, and no zone's ordinary limits rise
at any programme minute. -/
def Obligations.ShowKeepsTheNightTight : Prop :=
  ∀ (c : Instr) (s : State), s.mode = .show → c ≠ .powerOn → leadsTo c s fun t =>
    (∀ z : ZoneId, ∀ before : ZoneConfig, before = (s.zones.get z).config →
      ((s.zones.get z).enabled = true → (t.zones.get z).enabled = true) ∧
      (t.zones.get z).config = { (t.zones.get z).config with
        window := before.window, guardBand := before.guardBand, fastMargin := before.fastMargin
        releaseMargin := before.releaseMargin, hysteresis := before.hysteresis
        fallback := before.fallback }) ∧
    (∀ st : StageId, (s.stages.get st).record.failsafe ≤ (t.stages.get st).record.failsafe ∧
      ∀ z : ZoneId, (s.stages.get st).record.coupling.get z ≤ (t.stages.get st).record.coupling.get z) ∧
    (∀ a : SlotId, (t.loop.slots.get a).zone = (s.loop.slots.get a).zone ∨
      (s.loop.slotState a = .vacant ∧ t.loop.slots.get a = s.loop.slots.get a)) ∧
    (tablesOk s → ∀ (z : ZoneId) (p : Option Nat),
      (segmentAt (t.tables.get z).segments p).broad ≤ (segmentAt (s.tables.get z).segments p).broad ∧
      (segmentAt (t.tables.get z).segments p).low ≤ (segmentAt (s.tables.get z).segments p).low)

/-- A desk reaches its own stage alone (R88, R177): a request on desk link DLn leaves every zone, schedule, path and
record, the loop, the time base, the mode and every other stage, grant and desk link as they were; of its own stage's
record it can change trim and lead only; and of the officer link only the pending notices. -/
def Obligations.DeskReachesItsOwnStageOnly : Prop :=
  ∀ (c : Instr) (s : State) (n : StageId), fromDesk c n = true → leadsTo c s fun t =>
    t = { s with
      stages := s.stages.set n (t.stages.get n), curfew := s.curfew.set n (t.curfew.get n)
      pool := t.pool, links := t.links } ∧
    (t.stages.get n).record = { (s.stages.get n).record with
      trim := (t.stages.get n).record.trim, lead := (t.stages.get n).record.lead } ∧
    (t.curfew.get n).zones = (s.curfew.get n).zones ∧
    (t.curfew.get n).onsetTag = (s.curfew.get n).onsetTag ∧
    (∀ m : StageId, m ≠ n → t.links.desk.get m = s.links.desk.get m) ∧
    t.links.officer = { s.links.officer with
      noticeSet := t.links.officer.noticeSet, alert := t.links.officer.alert }

/-! ## What every step keeps -/

/-- At power-on every part of the state is sound. -/
def Obligations.PowerOnStateIsSound : Prop := State.reset.Sound

/-- The link interfaces and the audio paths stay sound: ALERT asserted exactly while the pending and enable sets share
a kind (R168), sets within each link's kinds, priorities 0 to 3 (R167), no reject owed twice and nothing waiting
behind an IDLE transmitter (R161); buffers of at most 32 frames, write indices below 16, delays from 2 to 30, and a
filling path below its delay (R128, R130, R131, R141). -/
def Obligations.LinksAndPathsStaySound : Prop :=
  ∀ s t : State, step s = .next t → (linksOk s → linksOk t) ∧ (pathsOk s → pathsOk t)

/-- The stages stay sound: gain states agree with the mute reasons (R95), applied attenuation and ramp timer with the
target in each of them (R102 to R106), every item in its range (R85, R86), and every target the one its inputs give
(R93). -/
def Obligations.StagesAndTargetsStaySound : Prop :=
  ∀ s t : State, stagesOk s → targetsOk s → step s = .next t → stagesOk t ∧ targetsOk t

/-- The time base and the schedules stay sound: tag, time of day and lock count in their ranges, no lock without PPS
(R14); each table 1 to 8 segments in strictly increasing order from minute 0, with limits in the accounting range
(R25), and the segment in force the one the programme minute gives (R28). -/
def Obligations.TimeAndTablesStaySound : Prop :=
  ∀ s t : State, timeOk s → tablesOk s → step s = .next t → timeOk t ∧ tablesOk t

/-- The zone accounts and the exceedance list stay sound: rings, levels, demand and counts in their bounds (R56, R58,
R69 to R71, R75 to R77, R80), a disabled zone at its disabled values, at most 48 records and one open for each zone,
metric and kind (R144, R145), and, in a zone that has levels, a record open exactly while its condition is OVER or its
FAST flag is set (R146); a zone that has closed no second since a RESTART may hold one open from a report that the
RESTART overtook (R155). The kept reports are the model's own (log entry 40). -/
def Obligations.ZonesAndRecordsStaySound : Prop :=
  ∀ s t : State, zonesOk s → recordsOk s → recordsAgree s → reportsOk s → step s = .next t →
    zonesOk t ∧ recordsOk t ∧ recordsAgree t ∧ reportsOk t

/-- The curfew unit stays sound: a stage's curfew zone set holds exactly the enabled, coupled zones in a CURFEW segment
(R113), its onset tag stands exactly while the set is not empty, the pool and the totals keep their bounds (R118),
and the reason CURFEW stands exactly in a curfew that no running grant suspends (R115, R121). -/
def Obligations.CurfewUnitStaysSound : Prop :=
  ∀ s t : State, curfewsOk s → step s = .next t → curfewsOk t

/-- The loop controller stays sound: a slot's items agree with its state, no two slots serve one zone (R37), a
transaction whose outcome counts belongs to a slot in the state that gives it work, a free loop has no work waiting
(R33), and LATN never stands unheeded (R45, R47, R50). -/
def Obligations.LoopStaysSound : Prop :=
  ∀ s t : State, loopOk s → step s = .next t → loopOk t
end

