-- ==== Sys2Proof/Laws/Banks.lean ====
section
/-! SUPPORT. Laws of banks and pairs: reading after writing, mapping, and equality entry by entry. -/

namespace Sys2Proof

/-! ## Banks of 8 -/

theorem Bank8.get_set {α : Type} (b : Bank8 α) (i j : Fin 8) (x : α) :
    (b.set i x).get j = if j = i then x else b.get j := by
  fin_cases i <;> fin_cases j <;> rfl

@[simp] theorem Bank8.get_set_self {α : Type} (b : Bank8 α) (i : Fin 8) (x : α) : (b.set i x).get i = x := by
  rw [Bank8.get_set, if_pos rfl]

@[simp] theorem Bank8.get_set_ne {α : Type} (b : Bank8 α) {i j : Fin 8} (h : j ≠ i) (x : α) :
    (b.set i x).get j = b.get j := by
  rw [Bank8.get_set, if_neg h]

theorem Bank8.get_modify {α : Type} (b : Bank8 α) (i j : Fin 8) (f : α → α) :
    (b.modify i f).get j = if j = i then f (b.get j) else b.get j := by
  unfold Bank8.modify
  rw [Bank8.get_set]
  split <;> simp_all

@[simp] theorem Bank8.get_modify_self {α : Type} (b : Bank8 α) (i : Fin 8) (f : α → α) :
    (b.modify i f).get i = f (b.get i) := by
  rw [Bank8.get_modify, if_pos rfl]

@[simp] theorem Bank8.get_modify_ne {α : Type} (b : Bank8 α) {i j : Fin 8} (h : j ≠ i) (f : α → α) :
    (b.modify i f).get j = b.get j := by
  rw [Bank8.get_modify, if_neg h]

@[simp] theorem Bank8.get_map {α β : Type} (b : Bank8 α) (f : α → β) (i : Fin 8) :
    (b.map f).get i = f (b.get i) := by
  fin_cases i <;> rfl

@[simp] theorem Bank8.get_fill {α : Type} (x : α) (i : Fin 8) : (Bank8.fill x).get i = x := by
  fin_cases i <;> rfl

@[simp] theorem Bank8.get_ofFn {α : Type} (f : Fin 8 → α) (i : Fin 8) : (Bank8.ofFn f).get i = f i := by
  fin_cases i <;> rfl

theorem Bank8.eq_of_get {α : Type} {a b : Bank8 α} (h : ∀ i, a.get i = b.get i) : a = b := by
  cases a; cases b
  simp only [Bank8.mk.injEq]
  exact ⟨h 0, h 1, h 2, h 3, h 4, h 5, h 6, h 7⟩

@[simp] theorem Bank8.set_get {α : Type} (b : Bank8 α) (i : Fin 8) : b.set i (b.get i) = b :=
  Bank8.eq_of_get fun j => by rw [Bank8.get_set]; split <;> simp_all

@[simp] theorem Bank8.set_set {α : Type} (b : Bank8 α) (i : Fin 8) (x y : α) :
    (b.set i x).set i y = b.set i y :=
  Bank8.eq_of_get fun j => by simp only [Bank8.get_set]; split <;> rfl

theorem Bank8.modify_eq_set {α : Type} (b : Bank8 α) (i : Fin 8) (f : α → α) :
    b.modify i f = b.set i (f (b.get i)) := rfl

@[simp] theorem Bank8.modify_modify {α : Type} (b : Bank8 α) (i : Fin 8) (f g : α → α) :
    (b.modify i f).modify i g = b.modify i fun x => g (f x) := by
  simp [Bank8.modify]

theorem Bank8.toList_eq {α : Type} (b : Bank8 α) : b.toList = allZones.map b.get := rfl

theorem mem_allZones (i : Fin 8) : i ∈ allZones := by
  fin_cases i <;> decide

/-! ## Banks of 4 -/

theorem Bank4.get_set {α : Type} (b : Bank4 α) (i j : Fin 4) (x : α) :
    (b.set i x).get j = if j = i then x else b.get j := by
  fin_cases i <;> fin_cases j <;> rfl

@[simp] theorem Bank4.get_set_self {α : Type} (b : Bank4 α) (i : Fin 4) (x : α) : (b.set i x).get i = x := by
  rw [Bank4.get_set, if_pos rfl]

@[simp] theorem Bank4.get_set_ne {α : Type} (b : Bank4 α) {i j : Fin 4} (h : j ≠ i) (x : α) :
    (b.set i x).get j = b.get j := by
  rw [Bank4.get_set, if_neg h]

theorem Bank4.get_modify {α : Type} (b : Bank4 α) (i j : Fin 4) (f : α → α) :
    (b.modify i f).get j = if j = i then f (b.get j) else b.get j := by
  unfold Bank4.modify
  rw [Bank4.get_set]
  split <;> simp_all

@[simp] theorem Bank4.get_modify_self {α : Type} (b : Bank4 α) (i : Fin 4) (f : α → α) :
    (b.modify i f).get i = f (b.get i) := by
  rw [Bank4.get_modify, if_pos rfl]

@[simp] theorem Bank4.get_modify_ne {α : Type} (b : Bank4 α) {i j : Fin 4} (h : j ≠ i) (f : α → α) :
    (b.modify i f).get j = b.get j := by
  rw [Bank4.get_modify, if_neg h]

@[simp] theorem Bank4.get_map {α β : Type} (b : Bank4 α) (f : α → β) (i : Fin 4) :
    (b.map f).get i = f (b.get i) := by
  fin_cases i <;> rfl

@[simp] theorem Bank4.get_fill {α : Type} (x : α) (i : Fin 4) : (Bank4.fill x).get i = x := by
  fin_cases i <;> rfl

@[simp] theorem Bank4.get_ofFn {α : Type} (f : Fin 4 → α) (i : Fin 4) : (Bank4.ofFn f).get i = f i := by
  fin_cases i <;> rfl

theorem Bank4.eq_of_get {α : Type} {a b : Bank4 α} (h : ∀ i, a.get i = b.get i) : a = b := by
  cases a; cases b
  simp only [Bank4.mk.injEq]
  exact ⟨h 0, h 1, h 2, h 3⟩

@[simp] theorem Bank4.set_get {α : Type} (b : Bank4 α) (i : Fin 4) : b.set i (b.get i) = b :=
  Bank4.eq_of_get fun j => by rw [Bank4.get_set]; split <;> simp_all

@[simp] theorem Bank4.set_set {α : Type} (b : Bank4 α) (i : Fin 4) (x y : α) :
    (b.set i x).set i y = b.set i y :=
  Bank4.eq_of_get fun j => by simp only [Bank4.get_set]; split <;> rfl

theorem Bank4.modify_eq_set {α : Type} (b : Bank4 α) (i : Fin 4) (f : α → α) :
    b.modify i f = b.set i (f (b.get i)) := rfl

@[simp] theorem Bank4.modify_modify {α : Type} (b : Bank4 α) (i : Fin 4) (f g : α → α) :
    (b.modify i f).modify i g = b.modify i fun x => g (f x) := by
  simp [Bank4.modify]

theorem Bank4.toList_eq {α : Type} (b : Bank4 α) : b.toList = allStages.map b.get := rfl

theorem mem_allStages (i : Fin 4) : i ∈ allStages := by
  fin_cases i <;> decide

/-! ## Pairs -/

@[simp] theorem Pair.get_map {α β : Type} (p : Pair α) (f : α → β) (m : Metric) : (p.map f).get m = f (p.get m) := by
  cases m <;> rfl

@[simp] theorem Pair.get_zip {α β γ : Type} (f : α → β → γ) (p : Pair α) (q : Pair β) (m : Metric) :
    (p.zip f q).get m = f (p.get m) (q.get m) := by
  cases m <;> rfl

end Sys2Proof
end

