-- ==== Sys2Proof/Laws/State.lean ====
section
/-! SUPPORT. The named updates of State: what each does to each field, so that no proof unfolds a record
update. -/

namespace Sys2Proof.Machine

/-! ## onZone -/

@[simp] theorem onZone_now (s : State) (z : ZoneId) (f : Zone → Zone) : (s.onZone z f).now = s.now := rfl
@[simp] theorem onZone_mode (s : State) (z : ZoneId) (f : Zone → Zone) : (s.onZone z f).mode = s.mode := rfl
@[simp] theorem onZone_timeBase (s : State) (z : ZoneId) (f : Zone → Zone) :
    (s.onZone z f).timeBase = s.timeBase := rfl
@[simp] theorem onZone_tables (s : State) (z : ZoneId) (f : Zone → Zone) : (s.onZone z f).tables = s.tables := rfl
@[simp] theorem onZone_zones (s : State) (z : ZoneId) (f : Zone → Zone) :
    (s.onZone z f).zones = s.zones.modify z f := rfl
@[simp] theorem onZone_stages (s : State) (z : ZoneId) (f : Zone → Zone) : (s.onZone z f).stages = s.stages := rfl
@[simp] theorem onZone_pool (s : State) (z : ZoneId) (f : Zone → Zone) : (s.onZone z f).pool = s.pool := rfl
@[simp] theorem onZone_curfew (s : State) (z : ZoneId) (f : Zone → Zone) : (s.onZone z f).curfew = s.curfew := rfl
@[simp] theorem onZone_paths (s : State) (z : ZoneId) (f : Zone → Zone) : (s.onZone z f).paths = s.paths := rfl
@[simp] theorem onZone_exceedances (s : State) (z : ZoneId) (f : Zone → Zone) :
    (s.onZone z f).exceedances = s.exceedances := rfl
@[simp] theorem onZone_loop (s : State) (z : ZoneId) (f : Zone → Zone) : (s.onZone z f).loop = s.loop := rfl
@[simp] theorem onZone_links (s : State) (z : ZoneId) (f : Zone → Zone) : (s.onZone z f).links = s.links := rfl
@[simp] theorem onZone_reports (s : State) (z : ZoneId) (f : Zone → Zone) : (s.onZone z f).reports = s.reports := rfl
@[simp] theorem onZone_orders (s : State) (z : ZoneId) (f : Zone → Zone) : (s.onZone z f).orders = s.orders := rfl
@[simp] theorem onZone_pending (s : State) (z : ZoneId) (f : Zone → Zone) :
    (s.onZone z f).pending = s.pending := rfl

/-! ## onTable -/

@[simp] theorem onTable_now (s : State) (z : ZoneId) (f : Table → Table) : (s.onTable z f).now = s.now := rfl
@[simp] theorem onTable_mode (s : State) (z : ZoneId) (f : Table → Table) : (s.onTable z f).mode = s.mode := rfl
@[simp] theorem onTable_timeBase (s : State) (z : ZoneId) (f : Table → Table) :
    (s.onTable z f).timeBase = s.timeBase := rfl
@[simp] theorem onTable_tables (s : State) (z : ZoneId) (f : Table → Table) :
    (s.onTable z f).tables = s.tables.modify z f := rfl
@[simp] theorem onTable_zones (s : State) (z : ZoneId) (f : Table → Table) : (s.onTable z f).zones = s.zones := rfl
@[simp] theorem onTable_stages (s : State) (z : ZoneId) (f : Table → Table) :
    (s.onTable z f).stages = s.stages := rfl
@[simp] theorem onTable_pool (s : State) (z : ZoneId) (f : Table → Table) : (s.onTable z f).pool = s.pool := rfl
@[simp] theorem onTable_curfew (s : State) (z : ZoneId) (f : Table → Table) :
    (s.onTable z f).curfew = s.curfew := rfl
@[simp] theorem onTable_paths (s : State) (z : ZoneId) (f : Table → Table) : (s.onTable z f).paths = s.paths := rfl
@[simp] theorem onTable_exceedances (s : State) (z : ZoneId) (f : Table → Table) :
    (s.onTable z f).exceedances = s.exceedances := rfl
@[simp] theorem onTable_loop (s : State) (z : ZoneId) (f : Table → Table) : (s.onTable z f).loop = s.loop := rfl
@[simp] theorem onTable_links (s : State) (z : ZoneId) (f : Table → Table) : (s.onTable z f).links = s.links := rfl
@[simp] theorem onTable_reports (s : State) (z : ZoneId) (f : Table → Table) :
    (s.onTable z f).reports = s.reports := rfl
@[simp] theorem onTable_orders (s : State) (z : ZoneId) (f : Table → Table) :
    (s.onTable z f).orders = s.orders := rfl
@[simp] theorem onTable_pending (s : State) (z : ZoneId) (f : Table → Table) :
    (s.onTable z f).pending = s.pending := rfl

/-! ## onStage -/

@[simp] theorem onStage_now (s : State) (st : StageId) (f : Stage → Stage) : (s.onStage st f).now = s.now := rfl
@[simp] theorem onStage_mode (s : State) (st : StageId) (f : Stage → Stage) : (s.onStage st f).mode = s.mode := rfl
@[simp] theorem onStage_timeBase (s : State) (st : StageId) (f : Stage → Stage) :
    (s.onStage st f).timeBase = s.timeBase := rfl
@[simp] theorem onStage_tables (s : State) (st : StageId) (f : Stage → Stage) :
    (s.onStage st f).tables = s.tables := rfl
@[simp] theorem onStage_zones (s : State) (st : StageId) (f : Stage → Stage) :
    (s.onStage st f).zones = s.zones := rfl
@[simp] theorem onStage_stages (s : State) (st : StageId) (f : Stage → Stage) :
    (s.onStage st f).stages = s.stages.modify st f := rfl
@[simp] theorem onStage_pool (s : State) (st : StageId) (f : Stage → Stage) : (s.onStage st f).pool = s.pool := rfl
@[simp] theorem onStage_curfew (s : State) (st : StageId) (f : Stage → Stage) :
    (s.onStage st f).curfew = s.curfew := rfl
@[simp] theorem onStage_paths (s : State) (st : StageId) (f : Stage → Stage) :
    (s.onStage st f).paths = s.paths := rfl
@[simp] theorem onStage_exceedances (s : State) (st : StageId) (f : Stage → Stage) :
    (s.onStage st f).exceedances = s.exceedances := rfl
@[simp] theorem onStage_loop (s : State) (st : StageId) (f : Stage → Stage) : (s.onStage st f).loop = s.loop := rfl
@[simp] theorem onStage_links (s : State) (st : StageId) (f : Stage → Stage) :
    (s.onStage st f).links = s.links := rfl
@[simp] theorem onStage_reports (s : State) (st : StageId) (f : Stage → Stage) :
    (s.onStage st f).reports = s.reports := rfl
@[simp] theorem onStage_orders (s : State) (st : StageId) (f : Stage → Stage) :
    (s.onStage st f).orders = s.orders := rfl
@[simp] theorem onStage_pending (s : State) (st : StageId) (f : Stage → Stage) :
    (s.onStage st f).pending = s.pending := rfl

/-! ## onCurfew -/

@[simp] theorem onCurfew_now (s : State) (st : StageId) (f : Curfew → Curfew) :
    (s.onCurfew st f).now = s.now := rfl
@[simp] theorem onCurfew_mode (s : State) (st : StageId) (f : Curfew → Curfew) :
    (s.onCurfew st f).mode = s.mode := rfl
@[simp] theorem onCurfew_timeBase (s : State) (st : StageId) (f : Curfew → Curfew) :
    (s.onCurfew st f).timeBase = s.timeBase := rfl
@[simp] theorem onCurfew_tables (s : State) (st : StageId) (f : Curfew → Curfew) :
    (s.onCurfew st f).tables = s.tables := rfl
@[simp] theorem onCurfew_zones (s : State) (st : StageId) (f : Curfew → Curfew) :
    (s.onCurfew st f).zones = s.zones := rfl
@[simp] theorem onCurfew_stages (s : State) (st : StageId) (f : Curfew → Curfew) :
    (s.onCurfew st f).stages = s.stages := rfl
@[simp] theorem onCurfew_pool (s : State) (st : StageId) (f : Curfew → Curfew) :
    (s.onCurfew st f).pool = s.pool := rfl
@[simp] theorem onCurfew_curfew (s : State) (st : StageId) (f : Curfew → Curfew) :
    (s.onCurfew st f).curfew = s.curfew.modify st f := rfl
@[simp] theorem onCurfew_paths (s : State) (st : StageId) (f : Curfew → Curfew) :
    (s.onCurfew st f).paths = s.paths := rfl
@[simp] theorem onCurfew_exceedances (s : State) (st : StageId) (f : Curfew → Curfew) :
    (s.onCurfew st f).exceedances = s.exceedances := rfl
@[simp] theorem onCurfew_loop (s : State) (st : StageId) (f : Curfew → Curfew) :
    (s.onCurfew st f).loop = s.loop := rfl
@[simp] theorem onCurfew_links (s : State) (st : StageId) (f : Curfew → Curfew) :
    (s.onCurfew st f).links = s.links := rfl
@[simp] theorem onCurfew_reports (s : State) (st : StageId) (f : Curfew → Curfew) :
    (s.onCurfew st f).reports = s.reports := rfl
@[simp] theorem onCurfew_orders (s : State) (st : StageId) (f : Curfew → Curfew) :
    (s.onCurfew st f).orders = s.orders := rfl
@[simp] theorem onCurfew_pending (s : State) (st : StageId) (f : Curfew → Curfew) :
    (s.onCurfew st f).pending = s.pending := rfl

/-! ## onPath -/

@[simp] theorem onPath_now (s : State) (st : StageId) (f : Path → Path) : (s.onPath st f).now = s.now := rfl
@[simp] theorem onPath_mode (s : State) (st : StageId) (f : Path → Path) : (s.onPath st f).mode = s.mode := rfl
@[simp] theorem onPath_timeBase (s : State) (st : StageId) (f : Path → Path) :
    (s.onPath st f).timeBase = s.timeBase := rfl
@[simp] theorem onPath_tables (s : State) (st : StageId) (f : Path → Path) :
    (s.onPath st f).tables = s.tables := rfl
@[simp] theorem onPath_zones (s : State) (st : StageId) (f : Path → Path) : (s.onPath st f).zones = s.zones := rfl
@[simp] theorem onPath_stages (s : State) (st : StageId) (f : Path → Path) :
    (s.onPath st f).stages = s.stages := rfl
@[simp] theorem onPath_pool (s : State) (st : StageId) (f : Path → Path) : (s.onPath st f).pool = s.pool := rfl
@[simp] theorem onPath_curfew (s : State) (st : StageId) (f : Path → Path) :
    (s.onPath st f).curfew = s.curfew := rfl
@[simp] theorem onPath_paths (s : State) (st : StageId) (f : Path → Path) :
    (s.onPath st f).paths = s.paths.modify st f := rfl
@[simp] theorem onPath_exceedances (s : State) (st : StageId) (f : Path → Path) :
    (s.onPath st f).exceedances = s.exceedances := rfl
@[simp] theorem onPath_loop (s : State) (st : StageId) (f : Path → Path) : (s.onPath st f).loop = s.loop := rfl
@[simp] theorem onPath_links (s : State) (st : StageId) (f : Path → Path) : (s.onPath st f).links = s.links := rfl
@[simp] theorem onPath_reports (s : State) (st : StageId) (f : Path → Path) :
    (s.onPath st f).reports = s.reports := rfl
@[simp] theorem onPath_orders (s : State) (st : StageId) (f : Path → Path) :
    (s.onPath st f).orders = s.orders := rfl
@[simp] theorem onPath_pending (s : State) (st : StageId) (f : Path → Path) :
    (s.onPath st f).pending = s.pending := rfl

/-! ## onLink -/

@[simp] theorem onLink_now (s : State) (l : LinkId) (f : LinkInterface → LinkInterface) :
    (s.onLink l f).now = s.now := rfl
@[simp] theorem onLink_mode (s : State) (l : LinkId) (f : LinkInterface → LinkInterface) :
    (s.onLink l f).mode = s.mode := rfl
@[simp] theorem onLink_timeBase (s : State) (l : LinkId) (f : LinkInterface → LinkInterface) :
    (s.onLink l f).timeBase = s.timeBase := rfl
@[simp] theorem onLink_tables (s : State) (l : LinkId) (f : LinkInterface → LinkInterface) :
    (s.onLink l f).tables = s.tables := rfl
@[simp] theorem onLink_zones (s : State) (l : LinkId) (f : LinkInterface → LinkInterface) :
    (s.onLink l f).zones = s.zones := rfl
@[simp] theorem onLink_stages (s : State) (l : LinkId) (f : LinkInterface → LinkInterface) :
    (s.onLink l f).stages = s.stages := rfl
@[simp] theorem onLink_pool (s : State) (l : LinkId) (f : LinkInterface → LinkInterface) :
    (s.onLink l f).pool = s.pool := rfl
@[simp] theorem onLink_curfew (s : State) (l : LinkId) (f : LinkInterface → LinkInterface) :
    (s.onLink l f).curfew = s.curfew := rfl
@[simp] theorem onLink_paths (s : State) (l : LinkId) (f : LinkInterface → LinkInterface) :
    (s.onLink l f).paths = s.paths := rfl
@[simp] theorem onLink_exceedances (s : State) (l : LinkId) (f : LinkInterface → LinkInterface) :
    (s.onLink l f).exceedances = s.exceedances := rfl
@[simp] theorem onLink_loop (s : State) (l : LinkId) (f : LinkInterface → LinkInterface) :
    (s.onLink l f).loop = s.loop := rfl
@[simp] theorem onLink_links (s : State) (l : LinkId) (f : LinkInterface → LinkInterface) :
    (s.onLink l f).links = s.links.set l (f (s.links.get l)) := rfl
@[simp] theorem onLink_reports (s : State) (l : LinkId) (f : LinkInterface → LinkInterface) :
    (s.onLink l f).reports = s.reports := rfl
@[simp] theorem onLink_orders (s : State) (l : LinkId) (f : LinkInterface → LinkInterface) :
    (s.onLink l f).orders = s.orders := rfl
@[simp] theorem onLink_pending (s : State) (l : LinkId) (f : LinkInterface → LinkInterface) :
    (s.onLink l f).pending = s.pending := rfl

/-! ## onTimeBase -/

@[simp] theorem onTimeBase_now (s : State) (f : TimeBase → TimeBase) : (s.onTimeBase f).now = s.now := rfl
@[simp] theorem onTimeBase_mode (s : State) (f : TimeBase → TimeBase) : (s.onTimeBase f).mode = s.mode := rfl
@[simp] theorem onTimeBase_timeBase (s : State) (f : TimeBase → TimeBase) :
    (s.onTimeBase f).timeBase = f s.timeBase := rfl
@[simp] theorem onTimeBase_tables (s : State) (f : TimeBase → TimeBase) : (s.onTimeBase f).tables = s.tables := rfl
@[simp] theorem onTimeBase_zones (s : State) (f : TimeBase → TimeBase) : (s.onTimeBase f).zones = s.zones := rfl
@[simp] theorem onTimeBase_stages (s : State) (f : TimeBase → TimeBase) : (s.onTimeBase f).stages = s.stages := rfl
@[simp] theorem onTimeBase_pool (s : State) (f : TimeBase → TimeBase) : (s.onTimeBase f).pool = s.pool := rfl
@[simp] theorem onTimeBase_curfew (s : State) (f : TimeBase → TimeBase) : (s.onTimeBase f).curfew = s.curfew := rfl
@[simp] theorem onTimeBase_paths (s : State) (f : TimeBase → TimeBase) : (s.onTimeBase f).paths = s.paths := rfl
@[simp] theorem onTimeBase_exceedances (s : State) (f : TimeBase → TimeBase) :
    (s.onTimeBase f).exceedances = s.exceedances := rfl
@[simp] theorem onTimeBase_loop (s : State) (f : TimeBase → TimeBase) : (s.onTimeBase f).loop = s.loop := rfl
@[simp] theorem onTimeBase_links (s : State) (f : TimeBase → TimeBase) : (s.onTimeBase f).links = s.links := rfl
@[simp] theorem onTimeBase_reports (s : State) (f : TimeBase → TimeBase) : (s.onTimeBase f).reports = s.reports := rfl
@[simp] theorem onTimeBase_orders (s : State) (f : TimeBase → TimeBase) : (s.onTimeBase f).orders = s.orders := rfl
@[simp] theorem onTimeBase_pending (s : State) (f : TimeBase → TimeBase) :
    (s.onTimeBase f).pending = s.pending := rfl

/-! ## onLoop -/

@[simp] theorem onLoop_now (s : State) (f : Loop → Loop) : (s.onLoop f).now = s.now := rfl
@[simp] theorem onLoop_mode (s : State) (f : Loop → Loop) : (s.onLoop f).mode = s.mode := rfl
@[simp] theorem onLoop_timeBase (s : State) (f : Loop → Loop) : (s.onLoop f).timeBase = s.timeBase := rfl
@[simp] theorem onLoop_tables (s : State) (f : Loop → Loop) : (s.onLoop f).tables = s.tables := rfl
@[simp] theorem onLoop_zones (s : State) (f : Loop → Loop) : (s.onLoop f).zones = s.zones := rfl
@[simp] theorem onLoop_stages (s : State) (f : Loop → Loop) : (s.onLoop f).stages = s.stages := rfl
@[simp] theorem onLoop_pool (s : State) (f : Loop → Loop) : (s.onLoop f).pool = s.pool := rfl
@[simp] theorem onLoop_curfew (s : State) (f : Loop → Loop) : (s.onLoop f).curfew = s.curfew := rfl
@[simp] theorem onLoop_paths (s : State) (f : Loop → Loop) : (s.onLoop f).paths = s.paths := rfl
@[simp] theorem onLoop_exceedances (s : State) (f : Loop → Loop) : (s.onLoop f).exceedances = s.exceedances := rfl
@[simp] theorem onLoop_loop (s : State) (f : Loop → Loop) : (s.onLoop f).loop = f s.loop := rfl
@[simp] theorem onLoop_links (s : State) (f : Loop → Loop) : (s.onLoop f).links = s.links := rfl
@[simp] theorem onLoop_reports (s : State) (f : Loop → Loop) : (s.onLoop f).reports = s.reports := rfl
@[simp] theorem onLoop_orders (s : State) (f : Loop → Loop) : (s.onLoop f).orders = s.orders := rfl
@[simp] theorem onLoop_pending (s : State) (f : Loop → Loop) : (s.onLoop f).pending = s.pending := rfl

/-! ## advanceTo -/

@[simp] theorem advanceTo_now (s : State) (m : Nat) : (s.advanceTo m).now = max s.now m := rfl
@[simp] theorem advanceTo_mode (s : State) (m : Nat) : (s.advanceTo m).mode = s.mode := rfl
@[simp] theorem advanceTo_timeBase (s : State) (m : Nat) : (s.advanceTo m).timeBase = s.timeBase := rfl
@[simp] theorem advanceTo_tables (s : State) (m : Nat) : (s.advanceTo m).tables = s.tables := rfl
@[simp] theorem advanceTo_zones (s : State) (m : Nat) : (s.advanceTo m).zones = s.zones := rfl
@[simp] theorem advanceTo_stages (s : State) (m : Nat) : (s.advanceTo m).stages = s.stages := rfl
@[simp] theorem advanceTo_pool (s : State) (m : Nat) : (s.advanceTo m).pool = s.pool := rfl
@[simp] theorem advanceTo_curfew (s : State) (m : Nat) : (s.advanceTo m).curfew = s.curfew := rfl
@[simp] theorem advanceTo_paths (s : State) (m : Nat) : (s.advanceTo m).paths = s.paths := rfl
@[simp] theorem advanceTo_exceedances (s : State) (m : Nat) : (s.advanceTo m).exceedances = s.exceedances := rfl
@[simp] theorem advanceTo_loop (s : State) (m : Nat) : (s.advanceTo m).loop = s.loop := rfl
@[simp] theorem advanceTo_links (s : State) (m : Nat) : (s.advanceTo m).links = s.links := rfl
@[simp] theorem advanceTo_reports (s : State) (m : Nat) : (s.advanceTo m).reports = s.reports := rfl
@[simp] theorem advanceTo_orders (s : State) (m : Nat) : (s.advanceTo m).orders = s.orders := rfl
@[simp] theorem advanceTo_pending (s : State) (m : Nat) : (s.advanceTo m).pending = s.pending := rfl

/-! ## raiseDesk -/

@[simp] theorem raiseDesk_now (s : State) (st : StageId) (n : DeskNotice) : (s.raiseDesk st n).now = s.now := rfl
@[simp] theorem raiseDesk_mode (s : State) (st : StageId) (n : DeskNotice) :
    (s.raiseDesk st n).mode = s.mode := rfl
@[simp] theorem raiseDesk_timeBase (s : State) (st : StageId) (n : DeskNotice) :
    (s.raiseDesk st n).timeBase = s.timeBase := rfl
@[simp] theorem raiseDesk_tables (s : State) (st : StageId) (n : DeskNotice) :
    (s.raiseDesk st n).tables = s.tables := rfl
@[simp] theorem raiseDesk_zones (s : State) (st : StageId) (n : DeskNotice) :
    (s.raiseDesk st n).zones = s.zones := rfl
@[simp] theorem raiseDesk_stages (s : State) (st : StageId) (n : DeskNotice) :
    (s.raiseDesk st n).stages = s.stages := rfl
@[simp] theorem raiseDesk_pool (s : State) (st : StageId) (n : DeskNotice) :
    (s.raiseDesk st n).pool = s.pool := rfl
@[simp] theorem raiseDesk_curfew (s : State) (st : StageId) (n : DeskNotice) :
    (s.raiseDesk st n).curfew = s.curfew := rfl
@[simp] theorem raiseDesk_paths (s : State) (st : StageId) (n : DeskNotice) :
    (s.raiseDesk st n).paths = s.paths := rfl
@[simp] theorem raiseDesk_exceedances (s : State) (st : StageId) (n : DeskNotice) :
    (s.raiseDesk st n).exceedances = s.exceedances := rfl
@[simp] theorem raiseDesk_loop (s : State) (st : StageId) (n : DeskNotice) :
    (s.raiseDesk st n).loop = s.loop := rfl
@[simp] theorem raiseDesk_links (s : State) (st : StageId) (n : DeskNotice) :
    (s.raiseDesk st n).links = (s.onLink (.desk st) (LinkInterface.raise n.position)).links := rfl
@[simp] theorem raiseDesk_reports (s : State) (st : StageId) (n : DeskNotice) :
    (s.raiseDesk st n).reports = s.reports := rfl
@[simp] theorem raiseDesk_orders (s : State) (st : StageId) (n : DeskNotice) :
    (s.raiseDesk st n).orders = s.orders := rfl
@[simp] theorem raiseDesk_pending (s : State) (st : StageId) (n : DeskNotice) :
    (s.raiseDesk st n).pending = s.pending := rfl

/-! ## raiseOfficer -/

@[simp] theorem raiseOfficer_now (s : State) (n : OfficerNotice) : (s.raiseOfficer n).now = s.now := rfl
@[simp] theorem raiseOfficer_mode (s : State) (n : OfficerNotice) : (s.raiseOfficer n).mode = s.mode := rfl
@[simp] theorem raiseOfficer_timeBase (s : State) (n : OfficerNotice) :
    (s.raiseOfficer n).timeBase = s.timeBase := rfl
@[simp] theorem raiseOfficer_tables (s : State) (n : OfficerNotice) : (s.raiseOfficer n).tables = s.tables := rfl
@[simp] theorem raiseOfficer_zones (s : State) (n : OfficerNotice) : (s.raiseOfficer n).zones = s.zones := rfl
@[simp] theorem raiseOfficer_stages (s : State) (n : OfficerNotice) : (s.raiseOfficer n).stages = s.stages := rfl
@[simp] theorem raiseOfficer_pool (s : State) (n : OfficerNotice) : (s.raiseOfficer n).pool = s.pool := rfl
@[simp] theorem raiseOfficer_curfew (s : State) (n : OfficerNotice) : (s.raiseOfficer n).curfew = s.curfew := rfl
@[simp] theorem raiseOfficer_paths (s : State) (n : OfficerNotice) : (s.raiseOfficer n).paths = s.paths := rfl
@[simp] theorem raiseOfficer_exceedances (s : State) (n : OfficerNotice) :
    (s.raiseOfficer n).exceedances = s.exceedances := rfl
@[simp] theorem raiseOfficer_loop (s : State) (n : OfficerNotice) : (s.raiseOfficer n).loop = s.loop := rfl
@[simp] theorem raiseOfficer_links (s : State) (n : OfficerNotice) :
    (s.raiseOfficer n).links = (s.onLink .officer (LinkInterface.raise n.position)).links := rfl
@[simp] theorem raiseOfficer_reports (s : State) (n : OfficerNotice) : (s.raiseOfficer n).reports = s.reports := rfl
@[simp] theorem raiseOfficer_orders (s : State) (n : OfficerNotice) : (s.raiseOfficer n).orders = s.orders := rfl
@[simp] theorem raiseOfficer_pending (s : State) (n : OfficerNotice) :
    (s.raiseOfficer n).pending = s.pending := rfl

/-! ## arbitrate -/

@[simp] theorem arbitrate_now (s : State) : (s.arbitrate).now = s.now := rfl
@[simp] theorem arbitrate_mode (s : State) : (s.arbitrate).mode = s.mode := rfl
@[simp] theorem arbitrate_timeBase (s : State) : (s.arbitrate).timeBase = s.timeBase := rfl
@[simp] theorem arbitrate_tables (s : State) : (s.arbitrate).tables = s.tables := rfl
@[simp] theorem arbitrate_zones (s : State) : (s.arbitrate).zones = s.zones := rfl
@[simp] theorem arbitrate_stages (s : State) : (s.arbitrate).stages = s.stages := rfl
@[simp] theorem arbitrate_pool (s : State) : (s.arbitrate).pool = s.pool := rfl
@[simp] theorem arbitrate_curfew (s : State) : (s.arbitrate).curfew = s.curfew := rfl
@[simp] theorem arbitrate_paths (s : State) : (s.arbitrate).paths = s.paths := rfl
@[simp] theorem arbitrate_exceedances (s : State) : (s.arbitrate).exceedances = s.exceedances := rfl
@[simp] theorem arbitrate_loop (s : State) : (s.arbitrate).loop = s.loop.arbitrate := rfl
@[simp] theorem arbitrate_links (s : State) : (s.arbitrate).links = s.links := rfl
@[simp] theorem arbitrate_reports (s : State) : (s.arbitrate).reports = s.reports := rfl
@[simp] theorem arbitrate_orders (s : State) : (s.arbitrate).orders = s.orders := rfl
@[simp] theorem arbitrate_pending (s : State) : (s.arbitrate).pending = s.pending := rfl

/-! ## send -/

@[simp] theorem send_now (s : State) (l : LinkId) (m : List Byte) : (s.send l m).now = s.now := rfl
@[simp] theorem send_mode (s : State) (l : LinkId) (m : List Byte) : (s.send l m).mode = s.mode := rfl
@[simp] theorem send_timeBase (s : State) (l : LinkId) (m : List Byte) : (s.send l m).timeBase = s.timeBase := rfl
@[simp] theorem send_tables (s : State) (l : LinkId) (m : List Byte) : (s.send l m).tables = s.tables := rfl
@[simp] theorem send_zones (s : State) (l : LinkId) (m : List Byte) : (s.send l m).zones = s.zones := rfl
@[simp] theorem send_stages (s : State) (l : LinkId) (m : List Byte) : (s.send l m).stages = s.stages := rfl
@[simp] theorem send_pool (s : State) (l : LinkId) (m : List Byte) : (s.send l m).pool = s.pool := rfl
@[simp] theorem send_curfew (s : State) (l : LinkId) (m : List Byte) : (s.send l m).curfew = s.curfew := rfl
@[simp] theorem send_paths (s : State) (l : LinkId) (m : List Byte) : (s.send l m).paths = s.paths := rfl
@[simp] theorem send_exceedances (s : State) (l : LinkId) (m : List Byte) :
    (s.send l m).exceedances = s.exceedances := rfl
@[simp] theorem send_loop (s : State) (l : LinkId) (m : List Byte) : (s.send l m).loop = s.loop := rfl
@[simp] theorem send_links (s : State) (l : LinkId) (m : List Byte) :
    (s.send l m).links = s.links.set l { s.links.get l with transmitter := some m } := rfl
@[simp] theorem send_reports (s : State) (l : LinkId) (m : List Byte) :
    (s.send l m).reports = if l = .officer then [] else s.reports := rfl
@[simp] theorem send_orders (s : State) (l : LinkId) (m : List Byte) : (s.send l m).orders = s.orders := rfl
@[simp] theorem send_pending (s : State) (l : LinkId) (m : List Byte) : (s.send l m).pending = s.pending := rfl

/-! ## timeEvent -/

@[simp] theorem timeEvent_now (s : State) (e : TimeEvent) : (s.timeEvent e).now = s.now := rfl
@[simp] theorem timeEvent_mode (s : State) (e : TimeEvent) : (s.timeEvent e).mode = s.mode := rfl
@[simp] theorem timeEvent_timeBase (s : State) (e : TimeEvent) :
    (s.timeEvent e).timeBase = { s.timeBase with lastEvent := some e } := rfl
@[simp] theorem timeEvent_tables (s : State) (e : TimeEvent) : (s.timeEvent e).tables = s.tables := rfl
@[simp] theorem timeEvent_zones (s : State) (e : TimeEvent) : (s.timeEvent e).zones = s.zones := rfl
@[simp] theorem timeEvent_stages (s : State) (e : TimeEvent) : (s.timeEvent e).stages = s.stages := rfl
@[simp] theorem timeEvent_pool (s : State) (e : TimeEvent) : (s.timeEvent e).pool = s.pool := rfl
@[simp] theorem timeEvent_curfew (s : State) (e : TimeEvent) : (s.timeEvent e).curfew = s.curfew := rfl
@[simp] theorem timeEvent_paths (s : State) (e : TimeEvent) : (s.timeEvent e).paths = s.paths := rfl
@[simp] theorem timeEvent_exceedances (s : State) (e : TimeEvent) :
    (s.timeEvent e).exceedances = s.exceedances := rfl
@[simp] theorem timeEvent_loop (s : State) (e : TimeEvent) : (s.timeEvent e).loop = s.loop := rfl
@[simp] theorem timeEvent_links (s : State) (e : TimeEvent) :
    (s.timeEvent e).links = (s.raiseOfficer .timeEvent).links := rfl
@[simp] theorem timeEvent_reports (s : State) (e : TimeEvent) : (s.timeEvent e).reports = s.reports := rfl
@[simp] theorem timeEvent_orders (s : State) (e : TimeEvent) : (s.timeEvent e).orders = s.orders := rfl
@[simp] theorem timeEvent_pending (s : State) (e : TimeEvent) : (s.timeEvent e).pending = s.pending := rfl

/-! ## writePool -/

@[simp] theorem writePool_now (s : State) (m : Nat) : (s.writePool m).now = s.now := rfl
@[simp] theorem writePool_mode (s : State) (m : Nat) : (s.writePool m).mode = s.mode := rfl
@[simp] theorem writePool_timeBase (s : State) (m : Nat) : (s.writePool m).timeBase = s.timeBase := rfl
@[simp] theorem writePool_tables (s : State) (m : Nat) : (s.writePool m).tables = s.tables := rfl
@[simp] theorem writePool_zones (s : State) (m : Nat) : (s.writePool m).zones = s.zones := rfl
@[simp] theorem writePool_stages (s : State) (m : Nat) : (s.writePool m).stages = s.stages := rfl
@[simp] theorem writePool_pool (s : State) (m : Nat) : (s.writePool m).pool = min Config.maxPool m := rfl
@[simp] theorem writePool_curfew (s : State) (m : Nat) :
    (s.writePool m).curfew = s.curfew.map fun c => { c with total := 0 } := rfl
@[simp] theorem writePool_paths (s : State) (m : Nat) : (s.writePool m).paths = s.paths := rfl
@[simp] theorem writePool_exceedances (s : State) (m : Nat) : (s.writePool m).exceedances = s.exceedances := rfl
@[simp] theorem writePool_loop (s : State) (m : Nat) : (s.writePool m).loop = s.loop := rfl
@[simp] theorem writePool_links (s : State) (m : Nat) : (s.writePool m).links = s.links := rfl
@[simp] theorem writePool_reports (s : State) (m : Nat) : (s.writePool m).reports = s.reports := rfl
@[simp] theorem writePool_orders (s : State) (m : Nat) : (s.writePool m).orders = s.orders := rfl
@[simp] theorem writePool_pending (s : State) (m : Nat) : (s.writePool m).pending = s.pending := rfl

/-! ## clearClosedRecords -/

@[simp] theorem clearClosedRecords_now (s : State) : (s.clearClosedRecords).now = s.now := rfl
@[simp] theorem clearClosedRecords_mode (s : State) : (s.clearClosedRecords).mode = s.mode := rfl
@[simp] theorem clearClosedRecords_timeBase (s : State) : (s.clearClosedRecords).timeBase = s.timeBase := rfl
@[simp] theorem clearClosedRecords_tables (s : State) : (s.clearClosedRecords).tables = s.tables := rfl
@[simp] theorem clearClosedRecords_zones (s : State) : (s.clearClosedRecords).zones = s.zones := rfl
@[simp] theorem clearClosedRecords_stages (s : State) : (s.clearClosedRecords).stages = s.stages := rfl
@[simp] theorem clearClosedRecords_pool (s : State) : (s.clearClosedRecords).pool = s.pool := rfl
@[simp] theorem clearClosedRecords_curfew (s : State) : (s.clearClosedRecords).curfew = s.curfew := rfl
@[simp] theorem clearClosedRecords_paths (s : State) : (s.clearClosedRecords).paths = s.paths := rfl
@[simp] theorem clearClosedRecords_exceedances (s : State) :
    (s.clearClosedRecords).exceedances = { s.exceedances with records := s.exceedances.records.filter Exceedance.isOpen } := rfl
@[simp] theorem clearClosedRecords_loop (s : State) : (s.clearClosedRecords).loop = s.loop := rfl
@[simp] theorem clearClosedRecords_links (s : State) : (s.clearClosedRecords).links = s.links := rfl
@[simp] theorem clearClosedRecords_reports (s : State) : (s.clearClosedRecords).reports = s.reports := rfl
@[simp] theorem clearClosedRecords_orders (s : State) : (s.clearClosedRecords).orders = s.orders := rfl
@[simp] theorem clearClosedRecords_pending (s : State) : (s.clearClosedRecords).pending = s.pending := rfl

/-! ## Links -/

@[simp] theorem links_get_set_self (k : Links) (l : LinkId) (x : LinkInterface) : (k.set l x).get l = x := by
  cases l <;> simp [Links.get, Links.set]

@[simp] theorem links_get_set_ne (k : Links) {l m : LinkId} (h : m ≠ l) (x : LinkInterface) :
    (k.set l x).get m = k.get m := by
  cases l <;> cases m <;> simp_all [Links.get, Links.set]

theorem links_get_set (k : Links) (l m : LinkId) (x : LinkInterface) :
    (k.set l x).get m = if m = l then x else k.get m := by
  split
  · next h => subst h; simp
  · next h => simp [h]

@[simp] theorem links_set_set (k : Links) (l : LinkId) (x y : LinkInterface) : (k.set l x).set l y = k.set l y := by
  cases l <;> simp [Links.set]

@[simp] theorem links_set_get (k : Links) (l : LinkId) : k.set l (k.get l) = k := by
  cases l <;> simp [Links.get, Links.set]

theorem links_eq_of_get {a b : Links} (h : ∀ l, a.get l = b.get l) : a = b := by
  cases a; cases b
  simp only [Links.mk.injEq]
  exact ⟨Bank4.eq_of_get fun i => h (.desk i), h .officer⟩

/-! ## The reads that an update of another part leaves alone -/

@[simp] theorem advanceTo_minute (s : State) (m : Nat) : (s.advanceTo m).minute = s.minute := rfl

/-- Two states that agree on a stage's record, the zones and the time base agree on the stage's target. -/
theorem targetOf_congr {s t : State} {st : StageId} (hr : (t.stages.get st).record = (s.stages.get st).record)
    (hz : t.zones = s.zones) (hb : t.timeBase = s.timeBase) : targetOf t st = targetOf s st := by
  have hp : reaches t st = reaches s st := by
    funext z
    simp only [reaches, hr, hz]
  have hc : contribution t st = contribution s st := by
    have h : zoneTerm t st = zoneTerm s st := by
      funext z
      simp only [zoneTerm, hp, hr, hz]
    simp only [contribution, h]
  have hf : forceFloor t st = forceFloor s st := by
    have h : forcesFallback t st = forcesFallback s st := by
      funext z
      simp only [forcesFallback, hp, hz]
    simp only [forceFloor, h, hr, hb]
  simp only [targetOf, hc, hf, hr]

/-- Two states that agree on the schedules, the stages, the zones and the time base agree on the next onsets. -/
theorem nextOnset_congr {s t : State} {st : StageId} (hr : (t.stages.get st).record = (s.stages.get st).record)
    (hz : t.zones = s.zones) (hb : t.timeBase = s.timeBase) (ht : t.tables = s.tables) :
    nextOnset t st = nextOnset s st := by
  have hp : reaches t st = reaches s st := by
    funext z
    simp only [reaches, hr, hz]
  simp only [nextOnset, State.minute, hp, hb, ht]

end Sys2Proof.Machine
end

