-- ==== Sys2Proof/Laws/Frames.lean ====
section
/-! SUPPORT. The frames of the shared operations: the fields of State that each leaves as they were, in the order
the operations build on one another. A frame is tagged for simp, which takes each of its equations. -/

namespace Sys2Proof.Machine

/-- A fold over operations that each keep an item keeps it. -/
theorem foldl_keeps {α β : Type} (g : State → β) (f : State → α → State) (h : ∀ s a, g (f s a) = g s) (l : List α)
    (s : State) : g (l.foldl f s) = g s := by
  induction l generalizing s with
  | nil => rfl
  | cons a l ih => rw [List.foldl_cons, ih, h]

theorem eachStage_keeps {β : Type} (g : State → β) (f : StageId → State → State) (h : ∀ st s, g (f st s) = g s)
    (s : State) : g (s.eachStage f) = g s :=
  foldl_keeps g _ (fun s st => h st s) _ s

theorem eachZone_keeps {β : Type} (g : State → β) (f : ZoneId → State → State) (h : ∀ z s, g (f z s) = g s)
    (s : State) : g (s.eachZone f) = g s :=
  foldl_keeps g _ (fun s z => h z s) _ s

/-! ## Notices, alarms and stages -/

@[simp] theorem takeOrder_frame (s : State) :
    (s.takeOrder.2).now = s.now ∧ (s.takeOrder.2).mode = s.mode ∧ (s.takeOrder.2).timeBase = s.timeBase ∧
    (s.takeOrder.2).tables = s.tables ∧ (s.takeOrder.2).zones = s.zones ∧ (s.takeOrder.2).stages = s.stages ∧
    (s.takeOrder.2).pool = s.pool ∧ (s.takeOrder.2).curfew = s.curfew ∧ (s.takeOrder.2).paths = s.paths ∧
    (s.takeOrder.2).exceedances = s.exceedances ∧ (s.takeOrder.2).loop = s.loop ∧
    (s.takeOrder.2).links = s.links ∧ (s.takeOrder.2).reports = s.reports ∧
    (s.takeOrder.2).pending = s.pending := by
  unfold State.takeOrder
  split <;> simp

@[simp] theorem raiseOfficerIf_frame (s : State) (c : Bool) (n : OfficerNotice) :
    (s.raiseOfficerIf c n).now = s.now ∧ (s.raiseOfficerIf c n).mode = s.mode ∧
    (s.raiseOfficerIf c n).timeBase = s.timeBase ∧ (s.raiseOfficerIf c n).tables = s.tables ∧
    (s.raiseOfficerIf c n).zones = s.zones ∧ (s.raiseOfficerIf c n).stages = s.stages ∧
    (s.raiseOfficerIf c n).pool = s.pool ∧ (s.raiseOfficerIf c n).curfew = s.curfew ∧
    (s.raiseOfficerIf c n).paths = s.paths ∧ (s.raiseOfficerIf c n).exceedances = s.exceedances ∧
    (s.raiseOfficerIf c n).loop = s.loop ∧ (s.raiseOfficerIf c n).orders = s.orders ∧
    (s.raiseOfficerIf c n).reports = s.reports ∧
    (s.raiseOfficerIf c n).pending = s.pending := by
  unfold State.raiseOfficerIf
  (repeat' split) <;> simp

@[simp] theorem raiseDeskIf_frame (s : State) (c : Bool) (st : StageId) (n : DeskNotice) :
    (s.raiseDeskIf c st n).now = s.now ∧ (s.raiseDeskIf c st n).mode = s.mode ∧
    (s.raiseDeskIf c st n).timeBase = s.timeBase ∧ (s.raiseDeskIf c st n).tables = s.tables ∧
    (s.raiseDeskIf c st n).zones = s.zones ∧ (s.raiseDeskIf c st n).stages = s.stages ∧
    (s.raiseDeskIf c st n).pool = s.pool ∧ (s.raiseDeskIf c st n).curfew = s.curfew ∧
    (s.raiseDeskIf c st n).paths = s.paths ∧ (s.raiseDeskIf c st n).exceedances = s.exceedances ∧
    (s.raiseDeskIf c st n).loop = s.loop ∧ (s.raiseDeskIf c st n).orders = s.orders ∧
    (s.raiseDeskIf c st n).reports = s.reports ∧
    (s.raiseDeskIf c st n).pending = s.pending := by
  unfold State.raiseDeskIf
  (repeat' split) <;> simp

@[simp] theorem setAlarm_frame (s : State) (st : StageId) (a : Alarm) :
    (s.setAlarm st a).now = s.now ∧ (s.setAlarm st a).mode = s.mode ∧ (s.setAlarm st a).timeBase = s.timeBase ∧
    (s.setAlarm st a).tables = s.tables ∧ (s.setAlarm st a).zones = s.zones ∧
    (s.setAlarm st a).stages = s.stages ∧ (s.setAlarm st a).pool = s.pool ∧
    (s.setAlarm st a).curfew = s.curfew ∧ (s.setAlarm st a).exceedances = s.exceedances ∧
    (s.setAlarm st a).loop = s.loop ∧ (s.setAlarm st a).orders = s.orders ∧
    (s.setAlarm st a).reports = s.reports ∧
    (s.setAlarm st a).pending = s.pending := by
  simp [State.setAlarm]

@[simp] theorem changeStage_frame (s : State) (st : StageId) (f : Stage → Stage) :
    (s.changeStage st f).now = s.now ∧ (s.changeStage st f).mode = s.mode ∧
    (s.changeStage st f).timeBase = s.timeBase ∧ (s.changeStage st f).tables = s.tables ∧
    (s.changeStage st f).zones = s.zones ∧ (s.changeStage st f).pool = s.pool ∧
    (s.changeStage st f).curfew = s.curfew ∧ (s.changeStage st f).paths = s.paths ∧
    (s.changeStage st f).exceedances = s.exceedances ∧ (s.changeStage st f).loop = s.loop ∧
    (s.changeStage st f).orders = s.orders ∧ (s.changeStage st f).reports = s.reports ∧
    (s.changeStage st f).pending = s.pending := by
  simp [State.changeStage]

@[simp] theorem recomputeTarget_frame (s : State) (st : StageId) :
    (s.recomputeTarget st).now = s.now ∧ (s.recomputeTarget st).mode = s.mode ∧
    (s.recomputeTarget st).timeBase = s.timeBase ∧ (s.recomputeTarget st).tables = s.tables ∧
    (s.recomputeTarget st).zones = s.zones ∧ (s.recomputeTarget st).pool = s.pool ∧
    (s.recomputeTarget st).curfew = s.curfew ∧ (s.recomputeTarget st).paths = s.paths ∧
    (s.recomputeTarget st).exceedances = s.exceedances ∧ (s.recomputeTarget st).loop = s.loop ∧
    (s.recomputeTarget st).orders = s.orders ∧ (s.recomputeTarget st).reports = s.reports ∧
    (s.recomputeTarget st).pending = s.pending := by
  simp only [State.recomputeTarget]
  split <;> simp

@[simp] theorem recomputeTargets_frame (s : State) :
    (s.recomputeTargets).now = s.now ∧ (s.recomputeTargets).mode = s.mode ∧
    (s.recomputeTargets).timeBase = s.timeBase ∧ (s.recomputeTargets).tables = s.tables ∧
    (s.recomputeTargets).zones = s.zones ∧ (s.recomputeTargets).pool = s.pool ∧
    (s.recomputeTargets).curfew = s.curfew ∧ (s.recomputeTargets).paths = s.paths ∧
    (s.recomputeTargets).exceedances = s.exceedances ∧ (s.recomputeTargets).loop = s.loop ∧
    (s.recomputeTargets).orders = s.orders ∧ (s.recomputeTargets).reports = s.reports ∧
    (s.recomputeTargets).pending = s.pending := by
  unfold State.recomputeTargets
  refine ⟨?_, ?_, ?_, ?_, ?_, ?_, ?_, ?_, ?_, ?_, ?_, ?_, ?_⟩ <;> exact eachStage_keeps _ _ (fun _ _ => by simp) _

@[simp] theorem recomputeCoupled_frame (s : State) (z : ZoneId) (w : Bank4 Bool) :
    (s.recomputeCoupled z w).now = s.now ∧ (s.recomputeCoupled z w).mode = s.mode ∧
    (s.recomputeCoupled z w).timeBase = s.timeBase ∧ (s.recomputeCoupled z w).tables = s.tables ∧
    (s.recomputeCoupled z w).zones = s.zones ∧ (s.recomputeCoupled z w).pool = s.pool ∧
    (s.recomputeCoupled z w).curfew = s.curfew ∧ (s.recomputeCoupled z w).paths = s.paths ∧
    (s.recomputeCoupled z w).exceedances = s.exceedances ∧ (s.recomputeCoupled z w).loop = s.loop ∧
    (s.recomputeCoupled z w).orders = s.orders ∧ (s.recomputeCoupled z w).reports = s.reports ∧
    (s.recomputeCoupled z w).pending = s.pending := by
  unfold State.recomputeCoupled
  refine ⟨?_, ?_, ?_, ?_, ?_, ?_, ?_, ?_, ?_, ?_, ?_, ?_, ?_⟩ <;> exact eachStage_keeps _ _ (fun _ _ => by split <;> simp) _

/-! ## Schedules and the curfew unit -/

@[simp] theorem endSoonTest_frame (s : State) (st : StageId) :
    (s.endSoonTest st).now = s.now ∧ (s.endSoonTest st).mode = s.mode ∧
    (s.endSoonTest st).timeBase = s.timeBase ∧ (s.endSoonTest st).tables = s.tables ∧
    (s.endSoonTest st).zones = s.zones ∧ (s.endSoonTest st).stages = s.stages ∧
    (s.endSoonTest st).pool = s.pool ∧ (s.endSoonTest st).paths = s.paths ∧
    (s.endSoonTest st).exceedances = s.exceedances ∧ (s.endSoonTest st).loop = s.loop ∧
    (s.endSoonTest st).orders = s.orders ∧ (s.endSoonTest st).reports = s.reports ∧
    (s.endSoonTest st).pending = s.pending := by
  simp only [State.endSoonTest]
  split <;> simp

@[simp] theorem curfewFalls_frame (s : State) (st : StageId) :
    (s.curfewFalls st).now = s.now ∧ (s.curfewFalls st).mode = s.mode ∧
    (s.curfewFalls st).timeBase = s.timeBase ∧ (s.curfewFalls st).tables = s.tables ∧
    (s.curfewFalls st).zones = s.zones ∧ (s.curfewFalls st).pool = s.pool ∧
    (s.curfewFalls st).curfew = s.curfew ∧ (s.curfewFalls st).paths = s.paths ∧
    (s.curfewFalls st).exceedances = s.exceedances ∧ (s.curfewFalls st).loop = s.loop ∧
    (s.curfewFalls st).orders = s.orders ∧ (s.curfewFalls st).reports = s.reports ∧
    (s.curfewFalls st).pending = s.pending := by
  simp [State.curfewFalls]

@[simp] theorem endGrantInCurfew_frame (s : State) (st : StageId) :
    (s.endGrantInCurfew st).now = s.now ∧ (s.endGrantInCurfew st).mode = s.mode ∧
    (s.endGrantInCurfew st).timeBase = s.timeBase ∧ (s.endGrantInCurfew st).tables = s.tables ∧
    (s.endGrantInCurfew st).zones = s.zones ∧ (s.endGrantInCurfew st).pool = s.pool ∧
    (s.endGrantInCurfew st).paths = s.paths ∧ (s.endGrantInCurfew st).exceedances = s.exceedances ∧
    (s.endGrantInCurfew st).loop = s.loop ∧ (s.endGrantInCurfew st).orders = s.orders ∧
    (s.endGrantInCurfew st).reports = s.reports ∧
    (s.endGrantInCurfew st).pending = s.pending := by
  simp [State.endGrantInCurfew]

@[simp] theorem returnMinutes_frame (s : State) (st : StageId) (m : Nat) :
    (s.returnMinutes st m).now = s.now ∧ (s.returnMinutes st m).mode = s.mode ∧
    (s.returnMinutes st m).timeBase = s.timeBase ∧ (s.returnMinutes st m).tables = s.tables ∧
    (s.returnMinutes st m).zones = s.zones ∧ (s.returnMinutes st m).stages = s.stages ∧
    (s.returnMinutes st m).paths = s.paths ∧ (s.returnMinutes st m).exceedances = s.exceedances ∧
    (s.returnMinutes st m).loop = s.loop ∧ (s.returnMinutes st m).links = s.links ∧
    (s.returnMinutes st m).orders = s.orders ∧ (s.returnMinutes st m).reports = s.reports ∧
    (s.returnMinutes st m).pending = s.pending := by
  simp [State.returnMinutes]

@[simp] theorem stageOnset_frame (s : State) (st : StageId) :
    (s.stageOnset st).now = s.now ∧ (s.stageOnset st).mode = s.mode ∧ (s.stageOnset st).timeBase = s.timeBase ∧
    (s.stageOnset st).tables = s.tables ∧ (s.stageOnset st).zones = s.zones ∧ (s.stageOnset st).pool = s.pool ∧
    (s.stageOnset st).paths = s.paths ∧ (s.stageOnset st).exceedances = s.exceedances ∧
    (s.stageOnset st).loop = s.loop ∧ (s.stageOnset st).orders = s.orders ∧
    (s.stageOnset st).reports = s.reports ∧
    (s.stageOnset st).pending = s.pending := by
  simp only [State.stageOnset]
  split <;> simp

@[simp] theorem stageCurfewEnd_frame (s : State) (st : StageId) :
    (s.stageCurfewEnd st).now = s.now ∧ (s.stageCurfewEnd st).mode = s.mode ∧
    (s.stageCurfewEnd st).timeBase = s.timeBase ∧ (s.stageCurfewEnd st).tables = s.tables ∧
    (s.stageCurfewEnd st).zones = s.zones ∧ (s.stageCurfewEnd st).pool = s.pool ∧
    (s.stageCurfewEnd st).paths = s.paths ∧ (s.stageCurfewEnd st).exceedances = s.exceedances ∧
    (s.stageCurfewEnd st).loop = s.loop ∧ (s.stageCurfewEnd st).orders = s.orders ∧
    (s.stageCurfewEnd st).reports = s.reports ∧
    (s.stageCurfewEnd st).pending = s.pending := by
  simp [State.stageCurfewEnd]

@[simp] theorem zoneJoins_frame (s : State) (z : ZoneId) (st : StageId) :
    (s.zoneJoins z st).now = s.now ∧ (s.zoneJoins z st).mode = s.mode ∧
    (s.zoneJoins z st).timeBase = s.timeBase ∧ (s.zoneJoins z st).tables = s.tables ∧
    (s.zoneJoins z st).zones = s.zones ∧ (s.zoneJoins z st).pool = s.pool ∧
    (s.zoneJoins z st).paths = s.paths ∧ (s.zoneJoins z st).exceedances = s.exceedances ∧
    (s.zoneJoins z st).loop = s.loop ∧ (s.zoneJoins z st).orders = s.orders ∧
    (s.zoneJoins z st).reports = s.reports ∧
    (s.zoneJoins z st).pending = s.pending := by
  simp only [State.zoneJoins]
  split <;> simp

@[simp] theorem zoneLeaves_frame (s : State) (z : ZoneId) (st : StageId) :
    (s.zoneLeaves z st).now = s.now ∧ (s.zoneLeaves z st).mode = s.mode ∧
    (s.zoneLeaves z st).timeBase = s.timeBase ∧ (s.zoneLeaves z st).tables = s.tables ∧
    (s.zoneLeaves z st).zones = s.zones ∧ (s.zoneLeaves z st).pool = s.pool ∧
    (s.zoneLeaves z st).paths = s.paths ∧ (s.zoneLeaves z st).exceedances = s.exceedances ∧
    (s.zoneLeaves z st).loop = s.loop ∧ (s.zoneLeaves z st).orders = s.orders ∧
    (s.zoneLeaves z st).reports = s.reports ∧
    (s.zoneLeaves z st).pending = s.pending := by
  simp only [State.zoneLeaves]
  split <;> simp

@[simp] theorem zoneOnset_frame (s : State) (z : ZoneId) :
    (s.zoneOnset z).now = s.now ∧ (s.zoneOnset z).mode = s.mode ∧ (s.zoneOnset z).timeBase = s.timeBase ∧
    (s.zoneOnset z).tables = s.tables ∧ (s.zoneOnset z).zones = s.zones ∧ (s.zoneOnset z).pool = s.pool ∧
    (s.zoneOnset z).paths = s.paths ∧ (s.zoneOnset z).exceedances = s.exceedances ∧
    (s.zoneOnset z).loop = s.loop ∧ (s.zoneOnset z).orders = s.orders ∧
    (s.zoneOnset z).reports = s.reports ∧
    (s.zoneOnset z).pending = s.pending := by
  unfold State.zoneOnset
  refine ⟨?_, ?_, ?_, ?_, ?_, ?_, ?_, ?_, ?_, ?_, ?_, ?_⟩ <;> exact eachStage_keeps _ _ (fun _ _ => by split <;> simp) _

@[simp] theorem zoneEnd_frame (s : State) (z : ZoneId) :
    (s.zoneEnd z).now = s.now ∧ (s.zoneEnd z).mode = s.mode ∧ (s.zoneEnd z).timeBase = s.timeBase ∧
    (s.zoneEnd z).tables = s.tables ∧ (s.zoneEnd z).zones = s.zones ∧ (s.zoneEnd z).pool = s.pool ∧
    (s.zoneEnd z).paths = s.paths ∧ (s.zoneEnd z).exceedances = s.exceedances ∧ (s.zoneEnd z).loop = s.loop ∧
    (s.zoneEnd z).orders = s.orders ∧ (s.zoneEnd z).reports = s.reports ∧
    (s.zoneEnd z).pending = s.pending := by
  unfold State.zoneEnd
  refine ⟨?_, ?_, ?_, ?_, ?_, ?_, ?_, ?_, ?_, ?_, ?_, ?_⟩ <;> exact eachStage_keeps _ _ (fun _ _ => by simp) _

@[simp] theorem soonTest_frame (s : State) (st : StageId) :
    (s.soonTest st).now = s.now ∧ (s.soonTest st).mode = s.mode ∧ (s.soonTest st).timeBase = s.timeBase ∧
    (s.soonTest st).tables = s.tables ∧ (s.soonTest st).zones = s.zones ∧ (s.soonTest st).stages = s.stages ∧
    (s.soonTest st).pool = s.pool ∧ (s.soonTest st).paths = s.paths ∧
    (s.soonTest st).exceedances = s.exceedances ∧ (s.soonTest st).loop = s.loop ∧
    (s.soonTest st).orders = s.orders ∧ (s.soonTest st).reports = s.reports ∧
    (s.soonTest st).pending = s.pending := by
  unfold State.soonTest
  (repeat' split) <;> simp

@[simp] theorem bookingTest_frame (s : State) (st : StageId) :
    (s.bookingTest st).now = s.now ∧ (s.bookingTest st).mode = s.mode ∧
    (s.bookingTest st).timeBase = s.timeBase ∧ (s.bookingTest st).tables = s.tables ∧
    (s.bookingTest st).zones = s.zones ∧ (s.bookingTest st).stages = s.stages ∧
    (s.bookingTest st).paths = s.paths ∧ (s.bookingTest st).exceedances = s.exceedances ∧
    (s.bookingTest st).loop = s.loop ∧ (s.bookingTest st).orders = s.orders ∧
    (s.bookingTest st).reports = s.reports ∧
    (s.bookingTest st).pending = s.pending := by
  unfold State.bookingTest
  (repeat' split) <;> simp

@[simp] theorem recomputeOnsets_frame (s : State) :
    (s.recomputeOnsets).now = s.now ∧ (s.recomputeOnsets).mode = s.mode ∧
    (s.recomputeOnsets).timeBase = s.timeBase ∧ (s.recomputeOnsets).tables = s.tables ∧
    (s.recomputeOnsets).zones = s.zones ∧ (s.recomputeOnsets).stages = s.stages ∧
    (s.recomputeOnsets).paths = s.paths ∧ (s.recomputeOnsets).exceedances = s.exceedances ∧
    (s.recomputeOnsets).loop = s.loop ∧ (s.recomputeOnsets).orders = s.orders ∧
    (s.recomputeOnsets).reports = s.reports ∧
    (s.recomputeOnsets).pending = s.pending := by
  unfold State.recomputeOnsets
  refine ⟨?_, ?_, ?_, ?_, ?_, ?_, ?_, ?_, ?_, ?_, ?_, ?_⟩ <;> exact eachStage_keeps _ _ (fun _ _ => by simp) _

@[simp] theorem reevaluate_frame (s : State) (z : ZoneId) :
    (s.reevaluate z).now = s.now ∧ (s.reevaluate z).mode = s.mode ∧ (s.reevaluate z).timeBase = s.timeBase ∧
    (s.reevaluate z).zones = s.zones ∧ (s.reevaluate z).paths = s.paths ∧
    (s.reevaluate z).exceedances = s.exceedances ∧ (s.reevaluate z).loop = s.loop ∧
    (s.reevaluate z).orders = s.orders ∧ (s.reevaluate z).reports = s.reports ∧
    (s.reevaluate z).pending = s.pending := by
  simp only [State.reevaluate]
  split <;> simp

@[simp] theorem grantMark_frame (s : State) (st : StageId) :
    (s.grantMark st).now = s.now ∧ (s.grantMark st).mode = s.mode ∧ (s.grantMark st).timeBase = s.timeBase ∧
    (s.grantMark st).tables = s.tables ∧ (s.grantMark st).zones = s.zones ∧ (s.grantMark st).pool = s.pool ∧
    (s.grantMark st).paths = s.paths ∧ (s.grantMark st).exceedances = s.exceedances ∧
    (s.grantMark st).loop = s.loop ∧ (s.grantMark st).orders = s.orders ∧
    (s.grantMark st).reports = s.reports ∧
    (s.grantMark st).pending = s.pending := by
  unfold State.grantMark
  (repeat' split) <;> simp

@[simp] theorem grantMarks_frame (s : State) :
    (s.grantMarks).now = s.now ∧ (s.grantMarks).mode = s.mode ∧ (s.grantMarks).timeBase = s.timeBase ∧
    (s.grantMarks).tables = s.tables ∧ (s.grantMarks).zones = s.zones ∧ (s.grantMarks).pool = s.pool ∧
    (s.grantMarks).paths = s.paths ∧ (s.grantMarks).exceedances = s.exceedances ∧
    (s.grantMarks).loop = s.loop ∧ (s.grantMarks).orders = s.orders ∧ (s.grantMarks).reports = s.reports ∧
    (s.grantMarks).pending = s.pending := by
  unfold State.grantMarks
  refine ⟨?_, ?_, ?_, ?_, ?_, ?_, ?_, ?_, ?_, ?_, ?_, ?_⟩ <;> exact eachStage_keeps _ _ (fun _ _ => by simp) _

@[simp] theorem drawMinutes_frame (s : State) (st : StageId) (g : Nat) :
    (s.drawMinutes st g).now = s.now ∧ (s.drawMinutes st g).mode = s.mode ∧
    (s.drawMinutes st g).timeBase = s.timeBase ∧ (s.drawMinutes st g).tables = s.tables ∧
    (s.drawMinutes st g).zones = s.zones ∧ (s.drawMinutes st g).stages = s.stages ∧
    (s.drawMinutes st g).paths = s.paths ∧ (s.drawMinutes st g).exceedances = s.exceedances ∧
    (s.drawMinutes st g).loop = s.loop ∧ (s.drawMinutes st g).links = s.links ∧
    (s.drawMinutes st g).orders = s.orders ∧ (s.drawMinutes st g).reports = s.reports ∧
    (s.drawMinutes st g).pending = s.pending := by
  simp [State.drawMinutes]

@[simp] theorem startGrant_frame (s : State) (st : StageId) (w : EncoreCase) (g : Nat) :
    (s.startGrant st w g).now = s.now ∧ (s.startGrant st w g).mode = s.mode ∧
    (s.startGrant st w g).timeBase = s.timeBase ∧ (s.startGrant st w g).tables = s.tables ∧
    (s.startGrant st w g).zones = s.zones ∧ (s.startGrant st w g).pool = s.pool ∧
    (s.startGrant st w g).paths = s.paths ∧ (s.startGrant st w g).exceedances = s.exceedances ∧
    (s.startGrant st w g).loop = s.loop ∧ (s.startGrant st w g).orders = s.orders ∧
    (s.startGrant st w g).reports = s.reports ∧
    (s.startGrant st w g).pending = s.pending := by
  cases w <;> simp [State.startGrant]

@[simp] theorem endShowGrant_frame (s : State) (st : StageId) :
    (s.endShowGrant st).now = s.now ∧ (s.endShowGrant st).mode = s.mode ∧
    (s.endShowGrant st).timeBase = s.timeBase ∧ (s.endShowGrant st).tables = s.tables ∧
    (s.endShowGrant st).zones = s.zones ∧ (s.endShowGrant st).pool = s.pool ∧
    (s.endShowGrant st).paths = s.paths ∧ (s.endShowGrant st).exceedances = s.exceedances ∧
    (s.endShowGrant st).loop = s.loop ∧ (s.endShowGrant st).orders = s.orders ∧
    (s.endShowGrant st).reports = s.reports ∧
    (s.endShowGrant st).pending = s.pending := by
  unfold State.endShowGrant
  (repeat' split) <;> simp

/-! ## Records and zones -/

@[simp] theorem openPair_frame (s : State) (c : CloseReport) (b : Bank4 Bool) (p : Metric × RecordKind) :
    (s.openPair c b p).now = s.now ∧ (s.openPair c b p).mode = s.mode ∧
    (s.openPair c b p).timeBase = s.timeBase ∧ (s.openPair c b p).tables = s.tables ∧
    (s.openPair c b p).zones = s.zones ∧ (s.openPair c b p).stages = s.stages ∧
    (s.openPair c b p).pool = s.pool ∧ (s.openPair c b p).curfew = s.curfew ∧
    (s.openPair c b p).paths = s.paths ∧ (s.openPair c b p).loop = s.loop ∧
    (s.openPair c b p).orders = s.orders ∧ (s.openPair c b p).reports = s.reports ∧
    (s.openPair c b p).pending = s.pending := by
  simp only [State.openPair]
  split <;> simp

@[simp] theorem servePair_frame (s : State) (c : CloseReport) (b : Bank4 Bool) (p : Metric × RecordKind) :
    (s.servePair c b p).now = s.now ∧ (s.servePair c b p).mode = s.mode ∧
    (s.servePair c b p).timeBase = s.timeBase ∧ (s.servePair c b p).tables = s.tables ∧
    (s.servePair c b p).zones = s.zones ∧ (s.servePair c b p).stages = s.stages ∧
    (s.servePair c b p).pool = s.pool ∧ (s.servePair c b p).curfew = s.curfew ∧
    (s.servePair c b p).paths = s.paths ∧ (s.servePair c b p).loop = s.loop ∧
    (s.servePair c b p).orders = s.orders ∧ (s.servePair c b p).reports = s.reports ∧
    (s.servePair c b p).pending = s.pending := by
  simp [State.servePair]

@[simp] theorem takeReportSeeing_frame (s : State) (b : Bank4 Bool) (c : CloseReport) :
    (s.takeReportSeeing b c).now = s.now ∧ (s.takeReportSeeing b c).mode = s.mode ∧ (s.takeReportSeeing b c).timeBase = s.timeBase ∧
    (s.takeReportSeeing b c).tables = s.tables ∧ (s.takeReportSeeing b c).zones = s.zones ∧
    (s.takeReportSeeing b c).stages = s.stages ∧ (s.takeReportSeeing b c).pool = s.pool ∧ (s.takeReportSeeing b c).curfew = s.curfew ∧
    (s.takeReportSeeing b c).paths = s.paths ∧ (s.takeReportSeeing b c).loop = s.loop ∧ (s.takeReportSeeing b c).orders = s.orders ∧
    (s.takeReportSeeing b c).reports = s.reports ∧
    (s.takeReportSeeing b c).pending = s.pending := by
  simp [State.takeReportSeeing, recordPairs]

@[simp] theorem takeReport_frame (s : State) (c : CloseReport) :
    (s.takeReport c).now = s.now ∧ (s.takeReport c).mode = s.mode ∧ (s.takeReport c).timeBase = s.timeBase ∧
    (s.takeReport c).tables = s.tables ∧ (s.takeReport c).zones = s.zones ∧
    (s.takeReport c).stages = s.stages ∧ (s.takeReport c).pool = s.pool ∧ (s.takeReport c).curfew = s.curfew ∧
    (s.takeReport c).paths = s.paths ∧ (s.takeReport c).loop = s.loop ∧ (s.takeReport c).orders = s.orders ∧
    (s.takeReport c).reports = s.reports ∧
    (s.takeReport c).pending = s.pending := by
  simp [State.takeReport]

@[simp] theorem takeSent_frame (s : State) (c : CloseReport) :
    (s.takeSent c).now = s.now ∧ (s.takeSent c).mode = s.mode ∧ (s.takeSent c).timeBase = s.timeBase ∧
    (s.takeSent c).tables = s.tables ∧ (s.takeSent c).zones = s.zones ∧ (s.takeSent c).stages = s.stages ∧
    (s.takeSent c).pool = s.pool ∧ (s.takeSent c).curfew = s.curfew ∧ (s.takeSent c).paths = s.paths ∧
    (s.takeSent c).loop = s.loop ∧ (s.takeSent c).orders = s.orders ∧ (s.takeSent c).pending = s.pending := by
  simp [State.takeSent]

@[simp] theorem forgetReports_frame (s : State) (z : ZoneId) :
    (s.forgetReports z).now = s.now ∧ (s.forgetReports z).mode = s.mode ∧
    (s.forgetReports z).timeBase = s.timeBase ∧ (s.forgetReports z).tables = s.tables ∧
    (s.forgetReports z).zones = s.zones ∧ (s.forgetReports z).stages = s.stages ∧
    (s.forgetReports z).pool = s.pool ∧ (s.forgetReports z).curfew = s.curfew ∧
    (s.forgetReports z).paths = s.paths ∧ (s.forgetReports z).exceedances = s.exceedances ∧
    (s.forgetReports z).loop = s.loop ∧ (s.forgetReports z).links = s.links ∧
    (s.forgetReports z).orders = s.orders ∧ (s.forgetReports z).pending = s.pending := by
  simp [State.forgetReports]

@[simp] theorem emptyList_frame (s : State) (l : List SentReport) :
    (s.emptyList l).now = s.now ∧ (s.emptyList l).mode = s.mode ∧ (s.emptyList l).timeBase = s.timeBase ∧
    (s.emptyList l).tables = s.tables ∧ (s.emptyList l).zones = s.zones ∧ (s.emptyList l).stages = s.stages ∧
    (s.emptyList l).pool = s.pool ∧ (s.emptyList l).curfew = s.curfew ∧ (s.emptyList l).paths = s.paths ∧
    (s.emptyList l).loop = s.loop ∧ (s.emptyList l).links = s.links ∧ (s.emptyList l).orders = s.orders ∧
    (s.emptyList l).pending = s.pending := by
  simp [State.emptyList]

@[simp] theorem takeOvertaken_frame (s : State) (o : Interleaving) (l : List SentReport) :
    (s.takeOvertaken o l).now = s.now ∧ (s.takeOvertaken o l).mode = s.mode ∧
    (s.takeOvertaken o l).timeBase = s.timeBase ∧ (s.takeOvertaken o l).tables = s.tables ∧
    (s.takeOvertaken o l).zones = s.zones ∧ (s.takeOvertaken o l).stages = s.stages ∧
    (s.takeOvertaken o l).pool = s.pool ∧ (s.takeOvertaken o l).curfew = s.curfew ∧
    (s.takeOvertaken o l).paths = s.paths ∧ (s.takeOvertaken o l).reports = s.reports ∧
    (s.takeOvertaken o l).loop = s.loop ∧ (s.takeOvertaken o l).orders = s.orders ∧
    (s.takeOvertaken o l).pending = s.pending := by
  unfold State.takeOvertaken
  refine ⟨?_, ?_, ?_, ?_, ?_, ?_, ?_, ?_, ?_, ?_, ?_, ?_, ?_⟩ <;>
    exact foldl_keeps _ _ (fun _ _ => by simp) _ _

@[simp] theorem restartList_frame (s : State) (o : Interleaving) :
    (s.restartList o).now = s.now ∧ (s.restartList o).mode = s.mode ∧ (s.restartList o).timeBase = s.timeBase ∧
    (s.restartList o).tables = s.tables ∧ (s.restartList o).zones = s.zones ∧ (s.restartList o).stages = s.stages ∧
    (s.restartList o).pool = s.pool ∧ (s.restartList o).curfew = s.curfew ∧ (s.restartList o).paths = s.paths ∧
    (s.restartList o).loop = s.loop ∧ (s.restartList o).orders = s.orders ∧
    (s.restartList o).pending = s.pending := by
  simp [State.restartList]

@[simp] theorem disableReport_frame (s : State) (z : ZoneId) :
    (s.disableReport z).now = s.now ∧ (s.disableReport z).mode = s.mode ∧
    (s.disableReport z).timeBase = s.timeBase ∧ (s.disableReport z).tables = s.tables ∧
    (s.disableReport z).zones = s.zones ∧ (s.disableReport z).stages = s.stages ∧
    (s.disableReport z).pool = s.pool ∧ (s.disableReport z).curfew = s.curfew ∧
    (s.disableReport z).paths = s.paths ∧ (s.disableReport z).loop = s.loop ∧
    (s.disableReport z).orders = s.orders ∧ (s.disableReport z).reports = s.reports ∧
    (s.disableReport z).pending = s.pending := by
  simp [State.disableReport]

@[simp] theorem closeNotices_frame (s : State) (z : ZoneId) (old new : Zone) :
    (s.closeNotices z old new).now = s.now ∧ (s.closeNotices z old new).mode = s.mode ∧
    (s.closeNotices z old new).timeBase = s.timeBase ∧ (s.closeNotices z old new).tables = s.tables ∧
    (s.closeNotices z old new).zones = s.zones ∧ (s.closeNotices z old new).stages = s.stages ∧
    (s.closeNotices z old new).pool = s.pool ∧ (s.closeNotices z old new).curfew = s.curfew ∧
    (s.closeNotices z old new).paths = s.paths ∧ (s.closeNotices z old new).exceedances = s.exceedances ∧
    (s.closeNotices z old new).loop = s.loop ∧ (s.closeNotices z old new).orders = s.orders ∧
    (s.closeNotices z old new).reports = s.reports ∧
    (s.closeNotices z old new).pending = s.pending := by
  simp only [State.closeNotices]
  refine ⟨?_, ?_, ?_, ?_, ?_, ?_, ?_, ?_, ?_, ?_, ?_, ?_, ?_, ?_⟩ <;> exact (eachStage_keeps _ _ (fun _ _ => by simp) _).trans (by simp)

@[simp] theorem closeToStages_frame (s : State) (z : ZoneId) (w : Bank4 Bool) (old new : Zone) :
    (s.closeToStages z w old new).now = s.now ∧ (s.closeToStages z w old new).mode = s.mode ∧
    (s.closeToStages z w old new).timeBase = s.timeBase ∧ (s.closeToStages z w old new).tables = s.tables ∧
    (s.closeToStages z w old new).zones = s.zones ∧ (s.closeToStages z w old new).pool = s.pool ∧
    (s.closeToStages z w old new).curfew = s.curfew ∧ (s.closeToStages z w old new).paths = s.paths ∧
    (s.closeToStages z w old new).exceedances = s.exceedances ∧ (s.closeToStages z w old new).loop = s.loop ∧
    (s.closeToStages z w old new).orders = s.orders ∧ (s.closeToStages z w old new).reports = s.reports ∧
    (s.closeToStages z w old new).pending = s.pending := by
  unfold State.closeToStages
  (repeat' split) <;> simp

@[simp] theorem closeZone_frame (s : State) (z : ZoneId) (b : Bank4 Bool) (aw : Awaiting)
    (r : Option MeasurementRecord) :
    (s.closeZone z b aw r).now = s.now ∧ (s.closeZone z b aw r).mode = s.mode ∧
    (s.closeZone z b aw r).timeBase = s.timeBase ∧ (s.closeZone z b aw r).tables = s.tables ∧
    (s.closeZone z b aw r).pool = s.pool ∧ (s.closeZone z b aw r).curfew = s.curfew ∧
    (s.closeZone z b aw r).paths = s.paths ∧ (s.closeZone z b aw r).loop = s.loop ∧
    (s.closeZone z b aw r).orders = s.orders ∧ (s.closeZone z b aw r).pending = s.pending := by
  simp [State.closeZone]

@[simp] theorem closingDeadline_frame (s : State) (z : ZoneId) (b : Bank4 Bool) (e : Nat) (m : Option Nat) :
    (s.closingDeadline z b e m).now = s.now ∧ (s.closingDeadline z b e m).mode = s.mode ∧
    (s.closingDeadline z b e m).timeBase = s.timeBase ∧ (s.closingDeadline z b e m).tables = s.tables ∧
    (s.closingDeadline z b e m).pool = s.pool ∧ (s.closingDeadline z b e m).curfew = s.curfew ∧
    (s.closingDeadline z b e m).paths = s.paths ∧ (s.closingDeadline z b e m).loop = s.loop ∧
    (s.closingDeadline z b e m).orders = s.orders ∧ (s.closingDeadline z b e m).pending = s.pending := by
  simp only [State.closingDeadline]
  (repeat' split) <;> simp

@[simp] theorem enableZoneNow_frame (s : State) (z : ZoneId) :
    (s.enableZoneNow z).now = s.now ∧ (s.enableZoneNow z).mode = s.mode ∧
    (s.enableZoneNow z).timeBase = s.timeBase ∧ (s.enableZoneNow z).tables = s.tables ∧
    (s.enableZoneNow z).paths = s.paths ∧ (s.enableZoneNow z).exceedances = s.exceedances ∧
    (s.enableZoneNow z).loop = s.loop ∧ (s.enableZoneNow z).orders = s.orders ∧
    (s.enableZoneNow z).reports = s.reports ∧
    (s.enableZoneNow z).pending = s.pending := by
  simp only [State.enableZoneNow]
  split <;> simp

@[simp] theorem stageLosesZone_frame (s : State) (z : ZoneId) (b : Bool) (st : StageId) :
    (s.stageLosesZone z b st).now = s.now ∧ (s.stageLosesZone z b st).mode = s.mode ∧
    (s.stageLosesZone z b st).timeBase = s.timeBase ∧ (s.stageLosesZone z b st).tables = s.tables ∧
    (s.stageLosesZone z b st).zones = s.zones ∧ (s.stageLosesZone z b st).pool = s.pool ∧
    (s.stageLosesZone z b st).paths = s.paths ∧ (s.stageLosesZone z b st).exceedances = s.exceedances ∧
    (s.stageLosesZone z b st).reports = s.reports ∧ (s.stageLosesZone z b st).loop = s.loop ∧
    (s.stageLosesZone z b st).orders = s.orders ∧ (s.stageLosesZone z b st).pending = s.pending := by
  unfold State.stageLosesZone
  split <;> simp

@[simp] theorem disableZoneNow_frame (s : State) (z : ZoneId) :
    (s.disableZoneNow z).now = s.now ∧ (s.disableZoneNow z).mode = s.mode ∧
    (s.disableZoneNow z).timeBase = s.timeBase ∧ (s.disableZoneNow z).tables = s.tables ∧
    (s.disableZoneNow z).paths = s.paths ∧ (s.disableZoneNow z).loop = s.loop ∧
    (s.disableZoneNow z).pending = s.pending := by
  have h : ∀ t : State, ∀ o : Bank4 Bool, ∀ u : State,
      u = t.eachStage (fun st s => s.stageLosesZone z (o.get st) st) →
      u.now = t.now ∧ u.mode = t.mode ∧ u.timeBase = t.timeBase ∧ u.tables = t.tables ∧ u.paths = t.paths ∧
      u.loop = t.loop ∧ u.pending = t.pending := by
    rintro t o u rfl
    refine ⟨?_, ?_, ?_, ?_, ?_, ?_, ?_⟩ <;> exact eachStage_keeps _ _ (fun _ _ => by simp) _
  simp only [State.disableZoneNow, recomputeOnsets_frame, h _ _ _ rfl]
  simp

/-! ## The monitor loop -/

@[simp] theorem loopMove_frame (s : State) (f : Loop → Loop × Bool) :
    (s.loopMove f).now = s.now ∧ (s.loopMove f).mode = s.mode ∧ (s.loopMove f).timeBase = s.timeBase ∧
    (s.loopMove f).tables = s.tables ∧ (s.loopMove f).zones = s.zones ∧ (s.loopMove f).stages = s.stages ∧
    (s.loopMove f).pool = s.pool ∧ (s.loopMove f).curfew = s.curfew ∧ (s.loopMove f).paths = s.paths ∧
    (s.loopMove f).exceedances = s.exceedances ∧ (s.loopMove f).orders = s.orders ∧
    (s.loopMove f).reports = s.reports ∧
    (s.loopMove f).pending = s.pending := by
  simp [State.loopMove]

@[simp] theorem handRecord_frame (s : State) (a : SlotId) (r : MeasurementRecord) :
    (s.handRecord a r).now = s.now ∧ (s.handRecord a r).mode = s.mode ∧
    (s.handRecord a r).timeBase = s.timeBase ∧ (s.handRecord a r).tables = s.tables ∧
    (s.handRecord a r).pool = s.pool ∧ (s.handRecord a r).curfew = s.curfew ∧
    (s.handRecord a r).paths = s.paths ∧ (s.handRecord a r).pending = s.pending := by
  simp only [State.handRecord]
  (repeat' split) <;> simp

@[simp] theorem failAttempt_frame (s : State) :
    (s.failAttempt).now = s.now ∧ (s.failAttempt).mode = s.mode ∧ (s.failAttempt).timeBase = s.timeBase ∧
    (s.failAttempt).tables = s.tables ∧ (s.failAttempt).zones = s.zones ∧ (s.failAttempt).stages = s.stages ∧
    (s.failAttempt).pool = s.pool ∧ (s.failAttempt).curfew = s.curfew ∧ (s.failAttempt).paths = s.paths ∧
    (s.failAttempt).exceedances = s.exceedances ∧ (s.failAttempt).orders = s.orders ∧
    (s.failAttempt).reports = s.reports ∧
    (s.failAttempt).pending = s.pending := by
  unfold State.failAttempt
  (repeat' split) <;> simp

@[simp] theorem acceptReply_frame (s : State) (t : Transaction) (r : Reply) :
    (s.acceptReply t r).now = s.now ∧ (s.acceptReply t r).mode = s.mode ∧
    (s.acceptReply t r).timeBase = s.timeBase ∧ (s.acceptReply t r).tables = s.tables ∧
    (s.acceptReply t r).pool = s.pool ∧ (s.acceptReply t r).curfew = s.curfew ∧
    (s.acceptReply t r).paths = s.paths ∧ (s.acceptReply t r).pending = s.pending := by
  unfold State.acceptReply
  (repeat' split) <;> simp

@[simp] theorem completeReply_frame (s : State) (r : Option Reply) :
    (s.completeReply r).now = s.now ∧ (s.completeReply r).mode = s.mode ∧
    (s.completeReply r).timeBase = s.timeBase ∧ (s.completeReply r).tables = s.tables ∧
    (s.completeReply r).pool = s.pool ∧ (s.completeReply r).curfew = s.curfew ∧
    (s.completeReply r).paths = s.paths ∧ (s.completeReply r).pending = s.pending := by
  unfold State.completeReply
  (repeat' split) <;> simp

/-! ## The time base -/

@[simp] theorem markTask_frame (s : State) (o : Interleaving) (e : Nat) (b : Option Nat) (t : Task) :
    (s.markTask o e b t).now = s.now ∧ (s.markTask o e b t).mode = s.mode ∧
    (s.markTask o e b t).timeBase = s.timeBase ∧ (s.markTask o e b t).paths = s.paths ∧
    (s.markTask o e b t).loop = s.loop ∧ (s.markTask o e b t).orders = s.orders ∧
    (s.markTask o e b t).pending = s.pending := by
  cases t <;> simp only [State.markTask]
  · simp
  · split <;> simp
  · simp
  · simp

@[simp] theorem issueMark_frame (s : State) :
    (s.issueMark).now = s.now ∧ (s.issueMark).mode = s.mode ∧ (s.issueMark).paths = s.paths ∧
    (s.issueMark).pending = s.pending := by
  simp only [State.issueMark]
  refine ⟨?_, ?_, ?_, ?_⟩ <;> exact (foldl_keeps _ _ (fun _ _ => by simp) _ _).trans (by simp)

@[simp] theorem realigned_frame (s : State) (e : TimeEvent) :
    (s.realigned e).now = s.now ∧ (s.realigned e).mode = s.mode ∧ (s.realigned e).tables = s.tables ∧
    (s.realigned e).zones = s.zones ∧ (s.realigned e).stages = s.stages ∧ (s.realigned e).pool = s.pool ∧
    (s.realigned e).curfew = s.curfew ∧ (s.realigned e).paths = s.paths ∧
    (s.realigned e).exceedances = s.exceedances ∧ (s.realigned e).loop = s.loop ∧
    (s.realigned e).orders = s.orders ∧ (s.realigned e).reports = s.reports ∧
    (s.realigned e).pending = s.pending := by
  simp [State.realigned]

@[simp] theorem pulseInWindow_frame (s : State) :
    (s.pulseInWindow).now = s.now ∧ (s.pulseInWindow).mode = s.mode ∧ (s.pulseInWindow).paths = s.paths ∧
    (s.pulseInWindow).pending = s.pending := by
  simp only [State.pulseInWindow]
  split <;> simp

@[simp] theorem pulse_frame (s : State) :
    (s.pulse).now = s.now ∧ (s.pulse).mode = s.mode ∧ (s.pulse).paths = s.paths ∧
    (s.pulse).pending = s.pending := by
  simp only [State.pulse]
  (repeat' split) <;> simp

@[simp] theorem windowCloses_frame (s : State) :
    (s.windowCloses).now = s.now ∧ (s.windowCloses).mode = s.mode ∧ (s.windowCloses).paths = s.paths ∧
    (s.windowCloses).pending = s.pending := by
  simp [State.windowCloses]

@[simp] theorem setTimeTask_frame (s : State) (b : Bool) (t : Task) :
    (s.setTimeTask b t).now = s.now ∧ (s.setTimeTask b t).mode = s.mode ∧
    (s.setTimeTask b t).timeBase = s.timeBase ∧ (s.setTimeTask b t).zones = s.zones ∧
    (s.setTimeTask b t).paths = s.paths ∧ (s.setTimeTask b t).exceedances = s.exceedances ∧
    (s.setTimeTask b t).loop = s.loop ∧ (s.setTimeTask b t).orders = s.orders ∧
    (s.setTimeTask b t).reports = s.reports ∧
    (s.setTimeTask b t).pending = s.pending := by
  cases t <;> simp only [State.setTimeTask]
  · simp
  · simp
  · simp
  · split <;> simp

@[simp] theorem takeTime_frame (s : State) (m : Nat) :
    (s.takeTime m).now = s.now ∧ (s.takeTime m).mode = s.mode ∧ (s.takeTime m).zones = s.zones ∧
    (s.takeTime m).paths = s.paths ∧ (s.takeTime m).exceedances = s.exceedances ∧
    (s.takeTime m).loop = s.loop ∧ (s.takeTime m).reports = s.reports ∧
    (s.takeTime m).pending = s.pending := by
  simp only [State.takeTime]
  refine ⟨?_, ?_, ?_, ?_, ?_, ?_, ?_, ?_⟩ <;> exact (foldl_keeps _ _ (fun _ _ => by simp) _ _).trans (by simp)

@[simp] theorem toInternal_frame (s : State) :
    (s.toInternal).now = s.now ∧ (s.toInternal).mode = s.mode ∧ (s.toInternal).paths = s.paths ∧
    (s.toInternal).pending = s.pending := by
  simp only [State.toInternal]
  split <;> simp

@[simp] theorem toPps_frame (s : State) :
    (s.toPps).now = s.now ∧ (s.toPps).mode = s.mode ∧ (s.toPps).tables = s.tables ∧ (s.toPps).zones = s.zones ∧
    (s.toPps).stages = s.stages ∧ (s.toPps).pool = s.pool ∧ (s.toPps).curfew = s.curfew ∧
    (s.toPps).paths = s.paths ∧ (s.toPps).exceedances = s.exceedances ∧ (s.toPps).loop = s.loop ∧
    (s.toPps).orders = s.orders ∧ (s.toPps).reports = s.reports ∧
    (s.toPps).pending = s.pending := by
  simp [State.toPps]

/-! ## Paths -/

@[simp] theorem arrival_frame (s : State) (st : StageId) (f : Frame) (b : Bool) :
    (s.arrival st f b).now = s.now ∧ (s.arrival st f b).mode = s.mode ∧
    (s.arrival st f b).timeBase = s.timeBase ∧ (s.arrival st f b).tables = s.tables ∧
    (s.arrival st f b).zones = s.zones ∧ (s.arrival st f b).stages = s.stages ∧
    (s.arrival st f b).pool = s.pool ∧ (s.arrival st f b).curfew = s.curfew ∧
    (s.arrival st f b).exceedances = s.exceedances ∧ (s.arrival st f b).loop = s.loop ∧
    (s.arrival st f b).orders = s.orders ∧ (s.arrival st f b).reports = s.reports ∧
    (s.arrival st f b).pending = s.pending := by
  simp only [State.arrival]
  (repeat' split) <;> simp

@[simp] theorem outputAt_frame (s : State) (st : StageId) :
    (s.outputAt st).now = s.now ∧ (s.outputAt st).mode = s.mode ∧ (s.outputAt st).timeBase = s.timeBase ∧
    (s.outputAt st).tables = s.tables ∧ (s.outputAt st).zones = s.zones ∧ (s.outputAt st).stages = s.stages ∧
    (s.outputAt st).pool = s.pool ∧ (s.outputAt st).curfew = s.curfew ∧
    (s.outputAt st).exceedances = s.exceedances ∧ (s.outputAt st).loop = s.loop ∧
    (s.outputAt st).orders = s.orders ∧ (s.outputAt st).reports = s.reports ∧
    (s.outputAt st).pending = s.pending := by
  simp only [State.outputAt]
  (repeat' split) <;> simp

@[simp] theorem signalLost_frame (s : State) (st : StageId) :
    (s.signalLost st).now = s.now ∧ (s.signalLost st).mode = s.mode ∧ (s.signalLost st).timeBase = s.timeBase ∧
    (s.signalLost st).tables = s.tables ∧ (s.signalLost st).zones = s.zones ∧
    (s.signalLost st).stages = s.stages ∧ (s.signalLost st).pool = s.pool ∧
    (s.signalLost st).curfew = s.curfew ∧ (s.signalLost st).exceedances = s.exceedances ∧
    (s.signalLost st).loop = s.loop ∧ (s.signalLost st).orders = s.orders ∧
    (s.signalLost st).reports = s.reports ∧
    (s.signalLost st).pending = s.pending := by
  simp [State.signalLost]

@[simp] theorem clearPathAlarms_frame (s : State) (st : StageId) (a : AlarmSet) :
    (s.clearPathAlarms st a).now = s.now ∧ (s.clearPathAlarms st a).mode = s.mode ∧
    (s.clearPathAlarms st a).timeBase = s.timeBase ∧ (s.clearPathAlarms st a).tables = s.tables ∧
    (s.clearPathAlarms st a).zones = s.zones ∧ (s.clearPathAlarms st a).stages = s.stages ∧
    (s.clearPathAlarms st a).pool = s.pool ∧ (s.clearPathAlarms st a).curfew = s.curfew ∧
    (s.clearPathAlarms st a).exceedances = s.exceedances ∧ (s.clearPathAlarms st a).loop = s.loop ∧
    (s.clearPathAlarms st a).orders = s.orders ∧ (s.clearPathAlarms st a).reports = s.reports ∧
    (s.clearPathAlarms st a).pending = s.pending := by
  simp only [State.clearPathAlarms]
  split <;> simp

/-! ## Requests that are taken -/

@[simp] theorem takeDesk_frame (s : State) (st : StageId) (f : SetDeskFields) :
    (s.takeDesk st f).now = s.now ∧ (s.takeDesk st f).mode = s.mode ∧ (s.takeDesk st f).timeBase = s.timeBase ∧
    (s.takeDesk st f).tables = s.tables ∧ (s.takeDesk st f).zones = s.zones ∧ (s.takeDesk st f).pool = s.pool ∧
    (s.takeDesk st f).paths = s.paths ∧ (s.takeDesk st f).exceedances = s.exceedances ∧
    (s.takeDesk st f).loop = s.loop ∧ (s.takeDesk st f).orders = s.orders ∧
    (s.takeDesk st f).reports = s.reports ∧
    (s.takeDesk st f).pending = s.pending := by
  simp only [State.takeDesk]
  (repeat' split) <;> simp

@[simp] theorem couplingMove_frame (s : State) (st : StageId) (z : ZoneId) :
    (s.couplingMove st z).now = s.now ∧ (s.couplingMove st z).mode = s.mode ∧
    (s.couplingMove st z).timeBase = s.timeBase ∧ (s.couplingMove st z).tables = s.tables ∧
    (s.couplingMove st z).zones = s.zones ∧ (s.couplingMove st z).pool = s.pool ∧
    (s.couplingMove st z).paths = s.paths ∧ (s.couplingMove st z).exceedances = s.exceedances ∧
    (s.couplingMove st z).loop = s.loop ∧ (s.couplingMove st z).orders = s.orders ∧
    (s.couplingMove st z).reports = s.reports ∧
    (s.couplingMove st z).pending = s.pending := by
  unfold State.couplingMove
  (repeat' split) <;> simp

@[simp] theorem takeCoupling_frame (s : State) (st : StageId) (z : ZoneId) (v : Nat) :
    (s.takeCoupling st z v).now = s.now ∧ (s.takeCoupling st z v).mode = s.mode ∧
    (s.takeCoupling st z v).timeBase = s.timeBase ∧ (s.takeCoupling st z v).tables = s.tables ∧
    (s.takeCoupling st z v).zones = s.zones ∧ (s.takeCoupling st z v).paths = s.paths ∧
    (s.takeCoupling st z v).exceedances = s.exceedances ∧ (s.takeCoupling st z v).loop = s.loop ∧
    (s.takeCoupling st z v).reports = s.reports ∧
    (s.takeCoupling st z v).pending = s.pending := by
  simp only [State.takeCoupling]
  (repeat' split) <;> simp

@[simp] theorem takeChangeMode_frame (s : State) (st : StageId) (m : Option Nat) :
    (s.takeChangeMode st m).now = s.now ∧ (s.takeChangeMode st m).mode = s.mode ∧
    (s.takeChangeMode st m).timeBase = s.timeBase ∧ (s.takeChangeMode st m).tables = s.tables ∧
    (s.takeChangeMode st m).zones = s.zones ∧ (s.takeChangeMode st m).pool = s.pool ∧
    (s.takeChangeMode st m).curfew = s.curfew ∧ (s.takeChangeMode st m).paths = s.paths ∧
    (s.takeChangeMode st m).exceedances = s.exceedances ∧ (s.takeChangeMode st m).loop = s.loop ∧
    (s.takeChangeMode st m).orders = s.orders ∧ (s.takeChangeMode st m).reports = s.reports ∧
    (s.takeChangeMode st m).pending = s.pending := by
  unfold State.takeChangeMode
  (repeat' split) <;> simp

@[simp] theorem takeFloor_frame (s : State) (st : StageId) (f : SetStageFields) :
    (s.takeFloor st f).now = s.now ∧ (s.takeFloor st f).mode = s.mode ∧
    (s.takeFloor st f).timeBase = s.timeBase ∧ (s.takeFloor st f).tables = s.tables ∧
    (s.takeFloor st f).zones = s.zones ∧ (s.takeFloor st f).pool = s.pool ∧
    (s.takeFloor st f).curfew = s.curfew ∧ (s.takeFloor st f).paths = s.paths ∧
    (s.takeFloor st f).exceedances = s.exceedances ∧ (s.takeFloor st f).loop = s.loop ∧
    (s.takeFloor st f).orders = s.orders ∧ (s.takeFloor st f).reports = s.reports ∧
    (s.takeFloor st f).pending = s.pending := by
  unfold State.takeFloor
  (repeat' split) <;> simp

@[simp] theorem takeStageRecord_frame (s : State) (st : StageId) (f : SetStageFields) :
    (s.takeStageRecord st f).now = s.now ∧ (s.takeStageRecord st f).mode = s.mode ∧
    (s.takeStageRecord st f).timeBase = s.timeBase ∧ (s.takeStageRecord st f).tables = s.tables ∧
    (s.takeStageRecord st f).zones = s.zones ∧ (s.takeStageRecord st f).pool = s.pool ∧
    (s.takeStageRecord st f).paths = s.paths ∧ (s.takeStageRecord st f).exceedances = s.exceedances ∧
    (s.takeStageRecord st f).loop = s.loop ∧ (s.takeStageRecord st f).reports = s.reports ∧
    (s.takeStageRecord st f).pending = s.pending := by
  simp only [State.takeStageRecord]
  (repeat' split) <;> simp

@[simp] theorem takeAssignment_frame (s : State) (a : SlotId) (z : ZoneId) :
    (s.takeAssignment a z).now = s.now ∧ (s.takeAssignment a z).mode = s.mode ∧
    (s.takeAssignment a z).timeBase = s.timeBase ∧ (s.takeAssignment a z).tables = s.tables ∧
    (s.takeAssignment a z).zones = s.zones ∧ (s.takeAssignment a z).stages = s.stages ∧
    (s.takeAssignment a z).pool = s.pool ∧ (s.takeAssignment a z).curfew = s.curfew ∧
    (s.takeAssignment a z).paths = s.paths ∧ (s.takeAssignment a z).exceedances = s.exceedances ∧
    (s.takeAssignment a z).orders = s.orders ∧ (s.takeAssignment a z).reports = s.reports ∧
    (s.takeAssignment a z).pending = s.pending := by
  simp [State.takeAssignment]

@[simp] theorem takeUnassignment_frame (s : State) (a : SlotId) :
    (s.takeUnassignment a).now = s.now ∧ (s.takeUnassignment a).mode = s.mode ∧
    (s.takeUnassignment a).timeBase = s.timeBase ∧ (s.takeUnassignment a).tables = s.tables ∧
    (s.takeUnassignment a).zones = s.zones ∧ (s.takeUnassignment a).stages = s.stages ∧
    (s.takeUnassignment a).pool = s.pool ∧ (s.takeUnassignment a).curfew = s.curfew ∧
    (s.takeUnassignment a).paths = s.paths ∧ (s.takeUnassignment a).exceedances = s.exceedances ∧
    (s.takeUnassignment a).orders = s.orders ∧ (s.takeUnassignment a).reports = s.reports ∧
    (s.takeUnassignment a).pending = s.pending := by
  simp [State.takeUnassignment]

@[simp] theorem curfewAgain_frame (s : State) (st : StageId) :
    (s.curfewAgain st).now = s.now ∧ (s.curfewAgain st).mode = s.mode ∧
    (s.curfewAgain st).timeBase = s.timeBase ∧ (s.curfewAgain st).tables = s.tables ∧
    (s.curfewAgain st).zones = s.zones ∧ (s.curfewAgain st).pool = s.pool ∧
    (s.curfewAgain st).curfew = s.curfew ∧ (s.curfewAgain st).paths = s.paths ∧
    (s.curfewAgain st).exceedances = s.exceedances ∧ (s.curfewAgain st).loop = s.loop ∧
    (s.curfewAgain st).orders = s.orders ∧ (s.curfewAgain st).reports = s.reports ∧
    (s.curfewAgain st).pending = s.pending := by
  unfold State.curfewAgain
  (repeat' split) <;> simp

@[simp] theorem restartAll_frame (s : State) :
    (s.restartAll).now = s.now ∧ (s.restartAll).mode = s.mode ∧ (s.restartAll).timeBase = s.timeBase ∧
    (s.restartAll).tables = s.tables ∧
    (s.restartAll).pending = s.pending := by
  have h : ∀ t u : State, u = t.eachStage State.curfewAgain →
      u.now = t.now ∧ u.mode = t.mode ∧ u.timeBase = t.timeBase ∧ u.tables = t.tables ∧ u.pending = t.pending := by
    rintro t u rfl
    refine ⟨?_, ?_, ?_, ?_, ?_⟩ <;> exact eachStage_keeps _ _ (fun _ _ => by simp) _
  simp [State.restartAll, h _ _ rfl, State.resetBlocks]

end Sys2Proof.Machine
end

