-- ==== Sys2Proof/Laws/Stage.lean ====
section
/-! SUPPORT. What the operations of a stage attenuation unit can do: which of a unit's items each leaves alone, and
what a change or a recomputation makes of the four stages. -/

namespace Sys2Proof.Machine

/-! ## One unit: the items that stay -/

@[simp] theorem start_keeps (g : Stage) (n : Nat) (p : RampPurpose) :
    (g.start n p).record = g.record ∧ (g.start n p).reasons = g.reasons ∧ (g.start n p).target = g.target ∧
    (g.start n p).applied = g.applied ∧ (g.start n p).gain = g.gain := by
  simp [Stage.start]

@[simp] theorem keepOrStart_keeps (g : Stage) (n : Nat) (p : RampPurpose) :
    (g.keepOrStart n p).record = g.record ∧ (g.keepOrStart n p).reasons = g.reasons ∧
    (g.keepOrStart n p).target = g.target ∧ (g.keepOrStart n p).applied = g.applied ∧
    (g.keepOrStart n p).gain = g.gain := by
  unfold Stage.keepOrStart
  (repeat' split) <;> simp

@[simp] theorem mute_keeps (g : Stage) :
    g.mute.record = g.record ∧ g.mute.reasons = g.reasons ∧ g.mute.target = g.target := by
  simp [Stage.mute]

@[simp] theorem enterFading_keeps (g : Stage) (n : Nat) :
    (g.enterFading n).record = g.record ∧ (g.enterFading n).reasons = g.reasons ∧
    (g.enterFading n).target = g.target := by
  simp only [Stage.enterFading]
  split <;> simp

@[simp] theorem enterResuming_keeps (g : Stage) (n : Nat) :
    (g.enterResuming n).record = g.record ∧ (g.enterResuming n).reasons = g.reasons ∧
    (g.enterResuming n).target = g.target := by
  simp only [Stage.enterResuming]
  split <;> simp

@[simp] theorem follow_keeps (g : Stage) (n : Nat) :
    (g.follow n).record = g.record ∧ (g.follow n).reasons = g.reasons ∧ (g.follow n).target = g.target ∧
    (g.follow n).applied = g.applied ∧ (g.follow n).gain = g.gain := by
  simp only [Stage.follow]
  (repeat' split) <;> simp

/-- A target change stores the target and touches neither the record nor the reasons (R93). -/
@[simp] theorem retarget_keeps (g : Stage) (n t : Nat) :
    (g.retarget n t).record = g.record ∧ (g.retarget n t).reasons = g.reasons ∧ (g.retarget n t).target = t := by
  simp only [Stage.retarget]
  (repeat' split) <;> simp

/-- A ramp step touches neither the record, the reasons nor the target (R101). -/
@[simp] theorem rampStep_keeps (g : Stage) (n : Nat) (p : RampPurpose) :
    (g.rampStep n p).record = g.record ∧ (g.rampStep n p).reasons = g.reasons ∧
    (g.rampStep n p).target = g.target := by
  simp only [Stage.rampStep]
  (repeat' split) <;> simp

@[simp] theorem settleMode_keeps (g : Stage) :
    g.settleMode.record = g.record ∧ g.settleMode.reasons = g.reasons ∧ g.settleMode.target = g.target ∧
    g.settleMode.gain = g.gain := by
  simp only [Stage.settleMode]
  (repeat' split) <;> simp_all

@[simp] theorem takeDown_keeps (g : Stage) (n : Nat) :
    (g.takeDown n).record = g.record ∧ (g.takeDown n).reasons = g.reasons ∧ (g.takeDown n).target = g.target := by
  simp only [Stage.takeDown]
  split <;> simp

@[simp] theorem addCurfew_keeps (g : Stage) (n : Nat) :
    (g.addCurfew n).record = g.record ∧ (g.addCurfew n).reasons = { g.reasons with curfew := true } ∧
    (g.addCurfew n).target = g.target := by
  simp [Stage.addCurfew]

@[simp] theorem setReasons_keeps (g : Stage) (n : Nat) (r : Reasons) :
    (g.setReasons n r).record = g.record ∧ (g.setReasons n r).reasons = r ∧
    (g.setReasons n r).target = g.target := by
  simp only [Stage.setReasons]
  (repeat' split) <;> simp

@[simp] theorem dropCurfew_keeps (g : Stage) (n : Nat) :
    (g.dropCurfew n).record = g.record ∧ (g.dropCurfew n).reasons = { g.reasons with curfew := false } ∧
    (g.dropCurfew n).target = g.target := by
  simp [Stage.dropCurfew]

@[simp] theorem releaseReasons_keeps (g : Stage) (n : Nat) :
    (g.releaseReasons n).record = g.record ∧ (g.releaseReasons n).reasons = ⟨false, false, g.reasons.curfew⟩ ∧
    (g.releaseReasons n).target = g.target := by
  simp [Stage.releaseReasons]

@[simp] theorem fadeOut_keeps (g : Stage) (n : Nat) :
    (g.fadeOut n).record = g.record ∧ (g.fadeOut n).reasons = { g.reasons with officer := true } ∧
    (g.fadeOut n).target = g.target := by
  simp [Stage.fadeOut]

/-! ## The four stages -/

/-- A change of one stage is its operation on that unit (R110 apart). -/
@[simp] theorem changeStage_stages (s : State) (st : StageId) (f : Stage → Stage) :
    (s.changeStage st f).stages = s.stages.modify st f := by
  simp [State.changeStage]

/-- All that a change of one stage does to the links: ATTENUATING where the applied attenuation leaves 0 (R110). -/
theorem changeStage_links (s : State) (st : StageId) (f : Stage → Stage) :
    (s.changeStage st f).links =
      if (s.stages.get st).applied = 0 ∧ 0 < (f (s.stages.get st)).applied then
        (s.raiseDesk st .attenuating).links
      else s.links := by
  simp only [State.changeStage, State.raiseDeskIf]
  split <;> simp_all

/-- What the recomputation of a stage's target makes of that stage (R93). -/
theorem recomputeTarget_get (s : State) (st : StageId) :
    (s.recomputeTarget st).stages.get st =
      if targetOf s st = (s.stages.get st).target then s.stages.get st
      else (s.stages.get st).retarget s.now (targetOf s st) := by
  simp only [State.recomputeTarget]
  split <;> simp

@[simp] theorem recomputeTarget_get_ne (s : State) {st other : StageId} (h : other ≠ st) :
    (s.recomputeTarget st).stages.get other = s.stages.get other := by
  simp only [State.recomputeTarget]
  split <;> simp [h]

theorem recomputeTarget_stages (s : State) (st : StageId) :
    (s.recomputeTarget st).stages = s.stages.set st ((s.recomputeTarget st).stages.get st) := by
  refine Bank4.eq_of_get fun i => ?_
  rw [Bank4.get_set]
  split
  · next h => rw [h]
  · next h => simp [h]

/-- After the recomputation the stage holds the target its inputs give, with its record and reasons as they were. -/
@[simp] theorem recomputeTarget_target (s : State) (st : StageId) :
    ((s.recomputeTarget st).stages.get st).target = targetOf s st := by
  rw [recomputeTarget_get]
  split <;> simp_all

@[simp] theorem recomputeTarget_record (s : State) (st other : StageId) :
    ((s.recomputeTarget st).stages.get other).record = (s.stages.get other).record := by
  by_cases h : other = st
  · subst h
    rw [recomputeTarget_get]
    split <;> simp
  · simp [h]

@[simp] theorem recomputeTarget_reasons (s : State) (st other : StageId) :
    ((s.recomputeTarget st).stages.get other).reasons = (s.stages.get other).reasons := by
  by_cases h : other = st
  · subst h
    rw [recomputeTarget_get]
    split <;> simp
  · simp [h]

/-- A recomputation of one stage's target does not disturb what any stage's inputs give. -/
@[simp] theorem targetOf_recomputeTarget (s : State) (st other : StageId) :
    targetOf (s.recomputeTarget st) other = targetOf s other :=
  targetOf_congr (by simp) (by simp) (by simp)

/-- The recomputation of some stages, one after another, is each stage's own. -/
theorem recompute_fold (l : List StageId) (hl : l.Nodup) (s : State) (st : StageId) :
    (l.foldl (fun s i => s.recomputeTarget i) s).stages.get st =
      if st ∈ l then (s.recomputeTarget st).stages.get st else s.stages.get st := by
  induction l generalizing s with
  | nil => simp
  | cons a l ih =>
    rw [List.foldl_cons, ih (List.nodup_cons.1 hl).2]
    have ha := (List.nodup_cons.1 hl).1
    by_cases h : st = a
    · subst h
      simp [ha]
    · simp only [List.mem_cons, h, false_or]
      split
      · rw [recomputeTarget_get, recomputeTarget_get, targetOf_recomputeTarget]
        simp [h]
      · simp [h]

/-- The recomputation of every target is each stage's own (R93). -/
theorem recomputeTargets_get (s : State) (st : StageId) :
    s.recomputeTargets.stages.get st = (s.recomputeTarget st).stages.get st := by
  have h := recompute_fold allStages (by decide) s st
  rw [if_pos (mem_allStages st)] at h
  exact h

@[simp] theorem recomputeTargets_target (s : State) (st : StageId) :
    (s.recomputeTargets.stages.get st).target = targetOf s st := by
  rw [recomputeTargets_get, recomputeTarget_target]

@[simp] theorem recomputeTargets_record (s : State) (st : StageId) :
    (s.recomputeTargets.stages.get st).record = (s.stages.get st).record := by
  rw [recomputeTargets_get, recomputeTarget_record]

@[simp] theorem targetOf_recomputeTargets (s : State) (st : StageId) :
    targetOf s.recomputeTargets st = targetOf s st :=
  targetOf_congr (by simp) (by simp) (by simp)

end Sys2Proof.Machine
end

