-- ==== Sys2Proof/Laws/Curfew.lean ====
section
/-! SUPPORT. What the operations of the schedules and the curfew unit can do: the curfew zone sets, the segments in
force, and the stages' records, which none of them touches. -/

namespace Sys2Proof.Machine

/-! ## Stages and sets under the small operations -/

@[simp] theorem curfewFalls_record (s : State) (st i : StageId) :
    ((s.curfewFalls st).stages.get i).record = (s.stages.get i).record := by
  simp only [State.curfewFalls, raiseDesk_stages, changeStage_stages, Bank4.get_modify]
  split <;> simp

@[simp] theorem endSoonTest_sets (s : State) (st i : StageId) :
    ((s.endSoonTest st).curfew.get i).zones = (s.curfew.get i).zones ∧
    ((s.endSoonTest st).curfew.get i).onsetTag = (s.curfew.get i).onsetTag ∧
    ((s.endSoonTest st).curfew.get i).grant = (s.curfew.get i).grant ∧
    ((s.endSoonTest st).curfew.get i).total = (s.curfew.get i).total := by
  simp only [State.endSoonTest]
  split
  · simp only [raiseDesk_curfew, onCurfew_curfew, Bank4.get_modify]
    split <;> simp
  · simp

@[simp] theorem stageOnset_record (s : State) (st i : StageId) :
    ((s.stageOnset st).stages.get i).record = (s.stages.get i).record := by
  simp only [State.stageOnset]
  split <;> simp

@[simp] theorem stageOnset_zones (s : State) (st i : StageId) :
    ((s.stageOnset st).curfew.get i).zones = (s.curfew.get i).zones := by
  simp only [State.stageOnset]
  split <;> simp [Bank4.get_modify] <;> split <;> simp

@[simp] theorem stageCurfewEnd_record (s : State) (st i : StageId) :
    ((s.stageCurfewEnd st).stages.get i).record = (s.stages.get i).record := by
  simp only [State.stageCurfewEnd, raiseOfficerIf_frame, changeStage_stages, Bank4.get_modify]
  split <;> simp

@[simp] theorem stageCurfewEnd_zones (s : State) (st i : StageId) :
    ((s.stageCurfewEnd st).curfew.get i).zones = (s.curfew.get i).zones := by
  simp only [State.stageCurfewEnd, raiseOfficerIf_frame, changeStage_frame, onCurfew_curfew, Bank4.get_modify]
  split
  · dsimp only
    split <;> simp [Curfew.endGrant]
  · rfl

@[simp] theorem soonTest_sets (s : State) (st i : StageId) :
    ((s.soonTest st).curfew.get i).zones = (s.curfew.get i).zones ∧
    ((s.soonTest st).curfew.get i).onsetTag = (s.curfew.get i).onsetTag ∧
    ((s.soonTest st).curfew.get i).grant = (s.curfew.get i).grant ∧
    ((s.soonTest st).curfew.get i).total = (s.curfew.get i).total := by
  simp only [State.soonTest]
  split
  · split
    · simp only [raiseDesk_curfew, onCurfew_curfew, Bank4.get_modify]
      split <;> simp
    · simp
  · simp

@[simp] theorem bookingTest_sets (s : State) (st i : StageId) :
    ((s.bookingTest st).curfew.get i).zones = (s.curfew.get i).zones ∧
    ((s.bookingTest st).curfew.get i).onsetTag = (s.curfew.get i).onsetTag := by
  simp only [State.bookingTest]
  split
  · split
    · simp only [raiseOfficer_curfew, State.returnMinutes, onCurfew_curfew, Bank4.get_modify]
      split <;> simp [Curfew.endGrant]
    · simp
  · simp

theorem recomputeOnsets_sets (s : State) (i : StageId) :
    (s.recomputeOnsets.curfew.get i).zones = (s.curfew.get i).zones ∧
    (s.recomputeOnsets.curfew.get i).onsetTag = (s.curfew.get i).onsetTag :=
  ⟨eachStage_keeps (fun s => (s.curfew.get i).zones) _ (fun st s => by simp) s,
    eachStage_keeps (fun s => (s.curfew.get i).onsetTag) _ (fun st s => by simp) s⟩

/-! ## Joining and leaving a set (R114) -/

theorem zoneJoins_zones (s : State) (z : ZoneId) (st i : StageId) :
    ((s.zoneJoins z st).curfew.get i).zones =
      if i = st then (s.curfew.get i).zones.set z true else (s.curfew.get i).zones := by
  simp only [State.zoneJoins]
  split <;> simp [Bank4.get_modify] <;> split <;> simp

theorem zoneLeaves_zones (s : State) (z : ZoneId) (st i : StageId) :
    ((s.zoneLeaves z st).curfew.get i).zones =
      if i = st then (s.curfew.get i).zones.set z false else (s.curfew.get i).zones := by
  simp only [State.zoneLeaves]
  split <;> simp [Bank4.get_modify] <;> split <;> simp

@[simp] theorem zoneJoins_record (s : State) (z : ZoneId) (st i : StageId) :
    ((s.zoneJoins z st).stages.get i).record = (s.stages.get i).record := by
  simp only [State.zoneJoins]
  split <;> simp

@[simp] theorem zoneLeaves_record (s : State) (z : ZoneId) (st i : StageId) :
    ((s.zoneLeaves z st).stages.get i).record = (s.stages.get i).record := by
  simp only [State.zoneLeaves]
  split <;> simp

/-- An operation of one stage leaves the others' stages and curfew items as they were. -/
theorem zoneJoins_others (s : State) (z : ZoneId) {st i : StageId} (h : i ≠ st) :
    (s.zoneJoins z st).stages.get i = s.stages.get i ∧ (s.zoneJoins z st).curfew.get i = s.curfew.get i := by
  simp only [State.zoneJoins, State.stageOnset, State.curfewFalls, State.endSoonTest]
  (repeat' split) <;> simp [h]

theorem zoneLeaves_others (s : State) (z : ZoneId) {st i : StageId} (h : i ≠ st) :
    (s.zoneLeaves z st).stages.get i = s.stages.get i ∧ (s.zoneLeaves z st).curfew.get i = s.curfew.get i := by
  simp only [State.zoneLeaves, State.stageCurfewEnd]
  (repeat' split) <;> simp [h]

@[simp] theorem zoneOnset_record (s : State) (z : ZoneId) (i : StageId) :
    ((s.zoneOnset z).stages.get i).record = (s.stages.get i).record :=
  eachStage_keeps (fun s => (s.stages.get i).record) _ (fun st s => by split <;> simp) s

@[simp] theorem zoneEnd_record (s : State) (z : ZoneId) (i : StageId) :
    ((s.zoneEnd z).stages.get i).record = (s.stages.get i).record :=
  eachStage_keeps (fun s => (s.stages.get i).record) _ (fun st s => by simp) s

/-- A curfew end takes the zone out of every set (R114). -/
theorem zoneEnd_zones (s : State) (z : ZoneId) (i : StageId) :
    ((s.zoneEnd z).curfew.get i).zones = (s.curfew.get i).zones.set z false := by
  have h : ∀ (l : List StageId) (s : State),
      ((l.foldl (fun s st => s.zoneLeaves z st) s).curfew.get i).zones =
        if i ∈ l then (s.curfew.get i).zones.set z false else (s.curfew.get i).zones := by
    intro l
    induction l with
    | nil => simp
    | cons a l ih =>
      intro s
      rw [List.foldl_cons, ih, zoneLeaves_zones]
      by_cases h : i = a
      · subst h
        simp
      · simp [h]
  have := h allStages s
  rw [if_pos (mem_allStages i)] at this
  exact this

/-- A curfew onset joins the zone to the set of every stage it reaches (R114). -/
theorem zoneOnset_zones (s : State) (z : ZoneId) (i : StageId) :
    ((s.zoneOnset z).curfew.get i).zones =
      if reaches s i z then (s.curfew.get i).zones.set z true else (s.curfew.get i).zones := by
  have h : ∀ (l : List StageId) (s : State),
      ((l.foldl (fun s st => if reaches s st z then s.zoneJoins z st else s) s).curfew.get i).zones =
        if i ∈ l ∧ reaches s i z = true then (s.curfew.get i).zones.set z true else (s.curfew.get i).zones := by
    intro l
    induction l with
    | nil => simp
    | cons a l ih =>
      intro s
      have hr : reaches (if reaches s a z = true then s.zoneJoins z a else s) i z = reaches s i z := by
        split <;> simp [reaches]
      rw [List.foldl_cons, ih, hr]
      by_cases h : i = a
      · subst h
        by_cases hz : reaches s i z = true
        · simp [hz, zoneJoins_zones]
        · simp [hz]
      · split <;> split <;> simp_all [zoneJoins_zones]
  have := h allStages s
  simp only [mem_allStages, true_and] at this
  exact this

/-! ## Re-evaluation (R28) -/

/-- All that a re-evaluation does to the tables: the segment in force is the one the minute gives. -/
theorem reevaluate_tables (s : State) (z : ZoneId) :
    (s.reevaluate z).tables =
      s.tables.set z ⟨(s.tables.get z).segments, segmentAt (s.tables.get z).segments s.minute⟩ := by
  simp only [State.reevaluate]
  split <;> simp [Bank8.modify]

@[simp] theorem reevaluate_record (s : State) (z : ZoneId) (i : StageId) :
    ((s.reevaluate z).stages.get i).record = (s.stages.get i).record := by
  simp only [State.reevaluate]
  split <;> simp

@[simp] theorem reevaluate_minute (s : State) (z : ZoneId) : (s.reevaluate z).minute = s.minute := by
  simp [State.minute]

/-! ## Open orders -/

/-- An open order hands out exactly the owners there are, each once (R15). -/
theorem orderTasks_perm (wish l : List Task) : (orderTasks wish l).Perm l := by
  induction wish generalizing l with
  | nil => exact .refl _
  | cons t w ih =>
    simp only [orderTasks]
    split
    · next h => exact ((ih (l.erase t)).cons t).trans (List.perm_cons_erase h).symm
    · exact ih l

theorem sequence_perm (o : Interleaving) : o.sequence.Perm allTasks := orderTasks_perm o.tasks allTasks

theorem mem_sequence (o : Interleaving) (t : Task) : t ∈ o.sequence := by
  rw [(sequence_perm o).mem_iff]
  cases t with
  | zone z => exact List.mem_append_left _ (List.mem_append_left _ (List.mem_map_of_mem (mem_allZones z)))
  | table z => exact List.mem_append_left _ (List.mem_append_right _ (List.mem_map_of_mem (mem_allZones z)))
  | grants => exact List.mem_append_right _ (by decide)
  | floor st => exact List.mem_append_right _ (List.mem_cons_of_mem _ (List.mem_map_of_mem (mem_allStages st)))

end Sys2Proof.Machine
end

