-- ==== Sys2Proof/Laws/Loop.lean ====
section
/-! SUPPORT. What the operations of the loop controller can do: the items of a slot that the arbiter leaves alone, the
fate of the pending work, and the flight it leaves. -/

namespace Sys2Proof.Machine

/-! ## The arbiter's parts -/

@[simp] theorem begin_keeps (k : Loop) (t : Transaction) :
    (k.begin t).slots = k.slots ∧ (k.begin t).pendingMark = k.pendingMark ∧
    (k.begin t).pendingReset = k.pendingReset ∧ (k.begin t).scan = k.scan ∧
    (k.begin t).identifyFirst = k.identifyFirst ∧ (k.begin t).latn = k.latn ∧
    (k.begin t).flight = some ⟨t, false⟩ := by
  simp [Loop.begin]

@[simp] theorem onSlot_keeps (k : Loop) (a : SlotId) (f : UnitSlot → UnitSlot) :
    (k.onSlot a f).slots = k.slots.modify a f ∧ (k.onSlot a f).pendingMark = k.pendingMark ∧
    (k.onSlot a f).pendingReset = k.pendingReset ∧ (k.onSlot a f).scan = k.scan ∧
    (k.onSlot a f).identifyFirst = k.identifyFirst ∧ (k.onSlot a f).latn = k.latn ∧ (k.onSlot a f).flight = k.flight ∧ (k.onSlot a f).sent = k.sent := by
  simp [Loop.onSlot]

@[simp] theorem beginIdentification_keeps (k : Loop) (t : Transaction) :
    (k.beginIdentification t).pendingMark = k.pendingMark ∧
    (k.beginIdentification t).pendingReset = k.pendingReset ∧ (k.beginIdentification t).scan = k.scan ∧
    (k.beginIdentification t).identifyFirst = k.identifyFirst ∧ (k.beginIdentification t).latn = k.latn ∧ (k.beginIdentification t).flight = some ⟨t, false⟩ := by
  unfold Loop.beginIdentification
  split <;> simp

@[simp] theorem beginScan_keeps (k : Loop) (a : SlotId) (p : ScanPhase) :
    (k.beginScan a p).pendingMark = k.pendingMark ∧ (k.beginScan a p).pendingReset = k.pendingReset ∧
    (k.beginScan a p).identifyFirst = k.identifyFirst ∧ (k.beginScan a p).latn = k.latn ∧ (k.beginScan a p).flight.isSome = true ∧
    (k.beginScan a p).scan.isSome = true := by
  unfold Loop.beginScan
  split <;> simp

/-- What no move of the arbiter touches of a slot: all but the next fetch number and the re-seek timer. -/
def sameSlot (u v : UnitSlot) : Prop :=
  u.state = v.state ∧ u.zone = v.zone ∧ u.cause = v.cause ∧ u.failed = v.failed ∧ u.late = v.late ∧
  u.misdated = v.misdated ∧ u.serial = v.serial ∧ u.health = v.health

@[simp] theorem sameSlot_refl (u : UnitSlot) : sameSlot u u := ⟨rfl, rfl, rfl, rfl, rfl, rfl, rfl, rfl⟩

theorem beginIdentification_slots (k : Loop) (t : Transaction) (a : SlotId) :
    sameSlot ((k.beginIdentification t).slots.get a) (k.slots.get a) := by
  unfold Loop.beginIdentification
  split
  · simp only [begin_keeps, onSlot_keeps, Bank8.get_modify]
    split <;> simp [sameSlot]
  · simp

theorem beginScan_slots (k : Loop) (b : SlotId) (p : ScanPhase) (a : SlotId) :
    sameSlot ((k.beginScan b p).slots.get a) (k.slots.get a) := by
  unfold Loop.beginScan
  split
  · simp
  · simp
  · simp only [begin_keeps, onSlot_keeps, Bank8.get_modify]
    split <;> simp [sameSlot]

theorem serveIdentification_slots (k : Loop) (a : SlotId) :
    sameSlot (k.serveIdentification.slots.get a) (k.slots.get a) := by
  unfold Loop.serveIdentification
  split
  · exact beginIdentification_slots _ _ _
  · simp

@[simp] theorem serveIdentification_keeps (k : Loop) :
    k.serveIdentification.pendingMark = k.pendingMark ∧
    k.serveIdentification.pendingReset = k.pendingReset ∧ k.serveIdentification.scan = k.scan ∧
    k.serveIdentification.identifyFirst = k.identifyFirst ∧ k.serveIdentification.latn = k.latn := by
  unfold Loop.serveIdentification
  split <;> simp

/-! ## The scan's position (R45 to R47) -/

@[simp] theorem followOn_keeps (k : Loop) (a : SlotId) :
    (k.followOn a).slots = k.slots ∧ (k.followOn a).flight = k.flight ∧
    (k.followOn a).pendingMark = k.pendingMark ∧ (k.followOn a).pendingReset = k.pendingReset ∧
    (k.followOn a).latn = k.latn ∧ (k.followOn a).sent = k.sent ∧ (k.followOn a).scan.isSome = true := by
  unfold Loop.followOn
  split <;> simp

@[simp] theorem endScan_keeps (k : Loop) :
    k.endScan.slots = k.slots ∧ k.endScan.flight = k.flight ∧ k.endScan.pendingMark = k.pendingMark ∧
    k.endScan.pendingReset = k.pendingReset ∧ k.endScan.latn = k.latn ∧ k.endScan.sent = k.sent := by
  simp only [Loop.endScan]
  split <;> simp

/-- Working out where the scan stands touches the scan alone. -/
@[simp] theorem settleScan_keeps (k : Loop) :
    k.settleScan.slots = k.slots ∧ k.settleScan.flight = k.flight ∧ k.settleScan.pendingMark = k.pendingMark ∧
    k.settleScan.pendingReset = k.pendingReset ∧ k.settleScan.latn = k.latn ∧ k.settleScan.sent = k.sent := by
  unfold Loop.settleScan
  split
  · simp
  · split
    · simp
    · dsimp only
      split <;> simp

/-- The reads of a loop that depend on its slots alone. -/
theorem identification_congr {j k : Loop} (h : j.slots = k.slots) : j.identification = k.identification := by
  unfold Loop.identification Loop.slotState
  rw [h]

theorem activeFrom_congr {j k : Loop} (n : Nat) (h : j.slots = k.slots) : j.activeFrom n = k.activeFrom n := by
  unfold Loop.activeFrom Loop.slotState
  rw [h]

theorem scanNext_congr {j k : Loop} (c : Scan) (h : j.slots = k.slots) : j.scanNext c = k.scanNext c := by
  unfold Loop.scanNext
  simp only [activeFrom_congr _ h]

theorem find_from {n : Nat} {p : SlotId → Bool} {a : SlotId} {l : List SlotId} (hl : l.Pairwise (· < ·))
    (h : l.find? (fun b => decide (n ≤ b.val) && p b) = some a) :
    l.find? (fun b => decide (a.val ≤ b.val) && p b) = some a := by
  induction l with
  | nil => simp at h
  | cons x l ih =>
    have hl := List.pairwise_cons.1 hl
    rw [List.find?_cons] at h ⊢
    split at h
    · next hx =>
      cases h
      simp_all
    · next hx =>
      have hlt := Fin.lt_def.1 (hl.1 a (List.mem_of_find?_eq_some h))
      rw [decide_eq_false (by omega), Bool.false_and]
      exact ih hl.2 h

/-- The first ACTIVE slot is where a scan from it stands. -/
theorem activeFrom_self {k : Loop} {n : Nat} {a : SlotId} (h : k.activeFrom n = some a) :
    k.activeFrom a.val = some a := find_from (by decide) h

/-- A scan that stands at its next work stays there. -/
theorem scanNext_self {k : Loop} {c : Scan} {a : SlotId} {p : ScanPhase} (h : k.scanNext c = some (a, p)) :
    k.scanNext ⟨a.val, p⟩ = some (a, p) := by
  unfold Loop.scanNext at h
  split at h
  · obtain ⟨b, hb, e⟩ := Option.map_eq_some_iff.1 h
    cases e
    simp [Loop.scanNext, activeFrom_self hb]
  · split at h
    · next b hb =>
      split at h
      · next hr =>
        cases h
        have := activeFrom_self hb
        simp_all [Loop.scanNext]
      · obtain ⟨d, hd, e⟩ := Option.map_eq_some_iff.1 h
        cases e
        simp [Loop.scanNext, activeFrom_self hd]
    · cases h

/-- Where a scan stands once that is worked out: behind identification work that is waiting, or at its next work. -/
theorem settleScan_ready (k : Loop) (c : Scan) (h : k.settleScan.scan = some c) :
    (k.settleScan.identifyFirst = true → k.identification.isSome = true) ∧
    (k.settleScan.identifyFirst = false → ∃ a p, k.scanNext c = some (a, p)) := by
  revert h
  unfold Loop.settleScan
  split
  · next hs => simp [hs]
  · next d hs =>
    split
    · next hi => simp_all
    · next hi =>
      dsimp only
      split
      · next a p hn =>
        rintro h
        cases h
        have hn := (scanNext_congr (k := k) d rfl).symm.trans hn
        exact ⟨by simp, fun _ => ⟨a, p, scanNext_self hn⟩⟩
      · simp only [Loop.endScan]
        split
        · next a hl ha =>
          have ha : k.activeFrom 0 = some a := (activeFrom_congr (k := k) 0 rfl).symm.trans ha
          have he : ∀ s : Option Scan, ({ k with identifyFirst := false, scan := s } : Loop).identification =
              k.identification := fun s => identification_congr rfl
          unfold Loop.followOn
          split
          · next hw =>
            intro _
            exact ⟨fun _ => by rw [← hw]; exact congrArg _ (he none).symm, by simp⟩
          · rintro h
            cases h
            exact ⟨by simp, fun _ => ⟨a, .status, by simp [Loop.scanNext, activeFrom_self ha]⟩⟩
        · simp

/-! ## The arbiter (R43) -/

theorem arbitrate_of_busy (k : Loop) (f : Flight) (h : k.flight = some f) : k.arbitrate = k := by
  simp [Loop.arbitrate, h]

theorem serveScan_slots (k : Loop) (c : Scan) (a : SlotId) :
    sameSlot ((k.serveScan c).slots.get a) (k.slots.get a) := by
  unfold Loop.serveScan
  split
  · exact serveIdentification_slots { k with identifyFirst := false } a
  · split
    · exact beginScan_slots _ _ _ _
    · simp

theorem choose_slots (k : Loop) (a : SlotId) : sameSlot (k.choose.slots.get a) (k.slots.get a) := by
  unfold Loop.choose
  split
  · simp
  · split
    · simp
    · split
      · exact serveIdentification_slots _ _
      · exact serveScan_slots _ _ _

/-- The arbiter leaves every slot's state, zone and counts as they were. -/
theorem arbitrate_slots (k : Loop) (a : SlotId) : sameSlot (k.arbitrate.slots.get a) (k.slots.get a) := by
  unfold Loop.arbitrate
  split
  · simp
  · have h := choose_slots k.settleScan a
    rwa [(settleScan_keeps k).1] at h

@[simp] theorem arbitrate_slotState (k : Loop) (a : SlotId) : k.arbitrate.slotState a = k.slotState a :=
  (arbitrate_slots k a).1

@[simp] theorem serveScan_latn (k : Loop) (c : Scan) : (k.serveScan c).latn = k.latn := by
  unfold Loop.serveScan
  (repeat' split) <;> simp

@[simp] theorem arbitrate_latn (k : Loop) : k.arbitrate.latn = k.latn := by
  unfold Loop.arbitrate Loop.choose
  (repeat' split) <;> simp

/-- A loop that the arbiter leaves free has nothing waiting (R33). -/
theorem arbitrate_free (k : Loop) (h : k.arbitrate.flight = none) :
    k.arbitrate.pendingMark = none ∧ k.arbitrate.pendingReset = false ∧ k.arbitrate.scan = none ∧
    k.arbitrate.identification = none := by
  revert h
  unfold Loop.arbitrate
  split
  · next h => simp [h]
  · next hf =>
    have hr := settleScan_ready k
    have hk : k.settleScan.identification = k.identification := identification_congr (settleScan_keeps k).1
    have hn := fun c => scanNext_congr c (settleScan_keeps k).1
    unfold Loop.choose
    split
    · simp
    · next hm =>
      split
      · simp
      · next hp =>
        split
        · next hs =>
          unfold Loop.serveIdentification
          split
          · simp
          · next hi => simp_all
        · next c hs =>
          obtain ⟨h1, h2⟩ := hr c hs
          unfold Loop.serveScan
          split
          · next hi =>
            have h1 := h1 hi
            unfold Loop.serveIdentification
            rw [show ({ k.settleScan with identifyFirst := false } : Loop).identification = k.identification from
              (identification_congr rfl).trans hk]
            split
            · simp
            · next hn => simp [hn] at h1
          · next hi =>
            obtain ⟨a, p, h⟩ := h2 (by simpa using hi)
            rw [hn, h]
            intro hx
            have := (beginScan_keeps k.settleScan a p).2.2.2.2.1
            simp [hx] at this

end Sys2Proof.Machine
end

