-- ==== Sys2Proof/Laws/Links.lean ====
section
/-! SUPPORT. What the operations of the links can do: notices and ALERT, the three fates of a request, and what the
service of any request leaves as it was. -/

namespace Sys2Proof.Machine

/-! ## Characters (R156) -/

@[simp] theorem sound_byte (b : Byte) : (LineByte.sound b).byte = b := rfl

@[simp] theorem sound_lineError (b : Byte) : (LineByte.sound b).lineError = false := by
  simp [LineByte.sound, LineByte.lineError, LineByte.parityError, LineByte.framingError]

theorem bits_length (c : LineByte) : c.bits.length = 11 := rfl

/-- A message puts eleven bits on its line for each byte. -/
theorem lineBits_length (message : List Byte) : (lineBits message).length = 11 * message.length := by
  induction message with
  | nil => rfl
  | cons b l ih =>
    simp only [lineBits, List.flatMap_cons, List.length_append, List.length_cons] at *
    rw [ih, bits_length]; omega

/-! ## Samples and frames (R127) -/

@[simp] theorem sampleBits_length (x : Int) : (sampleBits x).length = 24 := by simp [sampleBits]

@[simp] theorem frameBits_length (f : Frame) : (frameBits f).length = 192 := by
  simp [frameBits, Bank8.toList]

/-! ## The arbiter's order (R125) -/

theorem insertByLink_perm (c : Instr) (l : List Instr) : (insertByLink c l).Perm (c :: l) := by
  induction l with
  | nil => exact .refl _
  | cons d l ih =>
    simp only [insertByLink]
    split
    · exact .refl _
    · exact (ih.cons d).trans (.swap c d l)

theorem insertByLink_sorted (c : Instr) (l : List Instr) (h : l.Pairwise fun a b => linkRank a ≤ linkRank b) :
    (insertByLink c l).Pairwise fun a b => linkRank a ≤ linkRank b := by
  induction l with
  | nil => simp [insertByLink]
  | cons d l ih =>
    obtain ⟨hd, hl⟩ := List.pairwise_cons.mp h
    simp only [insertByLink]
    split
    next lt =>
      refine List.pairwise_cons.mpr ⟨fun b hb => ?_, h⟩
      rcases List.mem_cons.mp hb with rfl | hb
      · exact lt.le
      · exact lt.le.trans (hd b hb)
    next ge =>
      refine List.pairwise_cons.mpr ⟨fun b hb => ?_, ih hl⟩
      rcases List.mem_cons.mp ((insertByLink_perm c l).mem_iff.mp hb) with rfl | hb
      · exact Nat.le_of_not_lt ge
      · exact hd b hb

theorem sortByLink_from (q l : List Instr) (h : q.Pairwise fun a b => linkRank a ≤ linkRank b) :
    (l.foldl (fun q c => insertByLink c q) q).Perm (q ++ l) ∧
    (l.foldl (fun q c => insertByLink c q) q).Pairwise fun a b => linkRank a ≤ linkRank b := by
  induction l generalizing q with
  | nil => simpa using h
  | cons c l ih =>
    obtain ⟨p, w⟩ := ih _ (insertByLink_sorted c q h)
    exact ⟨p.trans (((insertByLink_perm c q).append_right l).trans List.perm_middle.symm), w⟩

theorem insertByLink_stable (c : Instr) (n : Nat) (l : List Instr)
    (h : l.Pairwise fun a b => linkRank a ≤ linkRank b) :
    (insertByLink c l).filter (fun d => linkRank d = n) = (l ++ [c]).filter fun d => linkRank d = n := by
  induction l with
  | nil => rfl
  | cons d l ih =>
    obtain ⟨hd, hl⟩ := List.pairwise_cons.mp h
    simp only [insertByLink]
    split
    next lt =>
      have none : linkRank c = n → (d :: l).filter (fun d => linkRank d = n) = [] := by
        rintro rfl
        simp only [List.filter_eq_nil_iff, decide_eq_true_eq]
        intro b hb
        rcases List.mem_cons.mp hb with rfl | hb
        · omega
        · have := hd b hb; omega
      by_cases e : linkRank c = n
      · rw [List.filter_append, none e, List.filter_cons, none e]; simp [e]
      · rw [List.filter_append, List.filter_cons]; simp [e]
    next => rw [List.cons_append, List.filter_cons, ih hl, List.filter_cons]

theorem sortByLink_stable_from (n : Nat) (q l : List Instr) (h : q.Pairwise fun a b => linkRank a ≤ linkRank b) :
    (l.foldl (fun q c => insertByLink c q) q).filter (fun d => linkRank d = n) =
      (q ++ l).filter fun d => linkRank d = n := by
  induction l generalizing q with
  | nil => simp
  | cons c l ih =>
    rw [List.foldl_cons, ih _ (insertByLink_sorted c q h), List.filter_append, insertByLink_stable c n q h,
      ← List.filter_append, List.append_assoc, List.singleton_append]

/-- Sorting by link leaves the commands of one link as they stand. -/
theorem sortByLink_stable (n : Nat) (l : List Instr) :
    (sortByLink l).filter (fun d => linkRank d = n) = l.filter fun d => linkRank d = n :=
  sortByLink_stable_from n [] l .nil

/-- What sorting by link does: the same commands, by their links. -/
theorem sortByLink_spec (l : List Instr) :
    (sortByLink l).Perm l ∧ (sortByLink l).Pairwise fun a b => linkRank a ≤ linkRank b := by
  simpa [sortByLink] using sortByLink_from [] l .nil

theorem replaceLinked_filter (sorted l : List Instr) (h : ∀ c ∈ sorted, (commandLink c).isSome = true)
    (n : sorted.length = (l.filter fun c => (commandLink c).isSome).length) :
    (replaceLinked sorted l).filter (fun c => (commandLink c).isSome) = sorted ∧
    (replaceLinked sorted l).filter (fun c => !(commandLink c).isSome) = l.filter fun c => !(commandLink c).isSome := by
  induction l generalizing sorted with
  | nil => simpa [replaceLinked] using (List.length_eq_zero_iff.mp n).symm
  | cons d l ih =>
    cases sorted with
    | nil =>
      have e : (d :: l).filter (fun c => (commandLink c).isSome) = [] := List.length_eq_zero_iff.mp n.symm
      exact ⟨e, rfl⟩
    | cons c sorted =>
      by_cases hd : (commandLink d).isSome = true
      · simp only [List.filter_cons, hd, ite_true, List.length_cons] at n
        obtain ⟨a, b⟩ := ih sorted (fun x hx => h x (List.mem_cons_of_mem _ hx)) (by omega)
        have hc := h c List.mem_cons_self
        simp only [replaceLinked, List.filter_cons, hd, hc, a, b, ite_true, Bool.not_true, Bool.false_eq_true,
          ite_false, and_self]
      · replace hd : (commandLink d).isSome = false := by simpa using hd
        simp only [List.filter_cons, hd, Bool.false_eq_true, ite_false] at n
        obtain ⟨a, b⟩ := ih (c :: sorted) h n
        simp only [replaceLinked, List.filter_cons, hd, a, b, ite_false, Bool.false_eq_true, Bool.not_false, ite_true,
          and_self]

/-- All that the arbiter's order does (R125): the same commands, those of the links by their links with the officer's
last, those of one link and those of none as they stood. -/
theorem arbiterOrder_spec (l : List Instr) :
    (arbiterOrder l).Perm l ∧
    ((arbiterOrder l).filter fun c => (commandLink c).isSome).Pairwise (fun a b => linkRank a ≤ linkRank b) ∧
    (∀ n : Nat, ((arbiterOrder l).filter fun c => (commandLink c).isSome).filter (fun c => linkRank c = n) =
      (l.filter fun c => (commandLink c).isSome).filter fun c => linkRank c = n) ∧
    ((arbiterOrder l).filter fun c => !(commandLink c).isSome) = l.filter fun c => !(commandLink c).isSome := by
  obtain ⟨p, w⟩ := sortByLink_spec (l.filter fun c => (commandLink c).isSome)
  obtain ⟨a, b⟩ := replaceLinked_filter (sortByLink (l.filter fun c => (commandLink c).isSome)) l
    (fun c hc => by simpa using (List.mem_filter.mp (p.mem_iff.mp hc)).2) p.length_eq
  refine ⟨?_, by rw [arbiterOrder, a]; exact w, fun n => by rw [arbiterOrder, a]; exact sortByLink_stable n _, b⟩
  refine (List.filter_append_perm (fun c => (commandLink c).isSome) (arbiterOrder l)).symm.trans ?_
  refine List.Perm.trans ?_ (List.filter_append_perm (fun c => (commandLink c).isSome) l)
  rw [arbiterOrder, a, b]
  exact p.append_right _

/-! ## Notices (R164 to R168) -/

@[simp] theorem refreshAlert_keeps (k : LinkInterface) :
    k.refreshAlert.receiver = k.receiver ∧ k.refreshAlert.transmitter = k.transmitter ∧
    k.refreshAlert.held = k.held ∧ k.refreshAlert.owed = k.owed ∧ k.refreshAlert.noticeSet = k.noticeSet ∧
    k.refreshAlert.enables = k.enables ∧ k.refreshAlert.priorities = k.priorities ∧
    k.refreshAlert.alert = ((k.noticeSet &&& k.enables) != 0#16) := by
  simp [LinkInterface.refreshAlert]

/-- All that raising a kind does (R164, R168): it joins the pending set, and ALERT follows. -/
@[simp] theorem raise_keeps (k : LinkInterface) (n : Nat) :
    (k.raise n).receiver = k.receiver ∧ (k.raise n).transmitter = k.transmitter ∧ (k.raise n).held = k.held ∧
    (k.raise n).owed = k.owed ∧ (k.raise n).enables = k.enables ∧ (k.raise n).priorities = k.priorities ∧
    (k.raise n).noticeSet = (k.noticeSet ||| noticeBit n) ∧
    (k.raise n).alert = (((k.noticeSet ||| noticeBit n) &&& k.enables) != 0#16) := by
  simp [LinkInterface.raise]

theorem noticeBit_get (n m : Nat) (h : m < 16) : (noticeBit n).getLsbD m = decide (m = n) := by
  simp only [noticeBit, BitVec.getLsbD_shiftLeft, BitVec.getLsbD_one]
  by_cases e : m = n
  · subst e
    simp [h]
  · simp only [e, decide_false, Bool.and_eq_false_iff]
    by_cases l : m < n
    · simp [l]
    · have : ¬(m - n = 0) := by omega
      simp [this]

/-- A raised kind is pending, and no kind leaves by a raising. -/
theorem raise_pending (k : LinkInterface) (n m : Nat) (h : m < 16) :
    (k.raise n).noticeSet.getLsbD m = (k.noticeSet.getLsbD m || decide (m = n)) := by
  simp [noticeBit_get n m h]

@[simp] theorem raiseDesk_links_get (s : State) (st : StageId) (n : DeskNotice) (l : LinkId) :
    (s.raiseDesk st n).links.get l =
      if l = .desk st then (s.links.get l).raise n.position else s.links.get l := by
  simp only [State.raiseDesk, onLink_links, links_get_set]
  split <;> simp_all

@[simp] theorem raiseOfficer_links_get (s : State) (n : OfficerNotice) (l : LinkId) :
    (s.raiseOfficer n).links.get l =
      if l = .officer then (s.links.get l).raise n.position else s.links.get l := by
  simp only [State.raiseOfficer, onLink_links, links_get_set]
  split <;> simp_all

/-! ## What any service leaves as it was -/

section
variable (s : State)

theorem serveEncoreAsk_keeps (st : StageId) (m : Nat) :
    (s.serveEncoreAsk st m).2.2.now = s.now ∧ (s.serveEncoreAsk st m).2.2.pending = s.pending := by
  unfold State.serveEncoreAsk
  split <;> simp

theorem serveEncoreEnd_keeps (st : StageId) :
    (s.serveEncoreEnd st).2.2.now = s.now ∧ (s.serveEncoreEnd st).2.2.pending = s.pending := by
  unfold State.serveEncoreEnd
  split <;> simp

theorem serveEndShow_keeps : (serveEndShow s).1.now = s.now ∧ (serveEndShow s).1.pending = s.pending := by
  simp only [serveEndShow]
  exact ⟨(eachStage_keeps State.now _ (fun _ _ => by simp) _).trans rfl,
    (eachStage_keeps State.pending _ (fun _ _ => by simp) _).trans rfl⟩

theorem serveAckNotices_keeps (l : LinkId) (m : BitVec 16) :
    (serveAckNotices l m s).1.now = s.now ∧ (serveAckNotices l m s).1.pending = s.pending := by
  simp only [serveAckNotices]
  (repeat' split) <;> simp

theorem serveSetDesk_keeps (st : StageId) (f : SetDeskFields) :
    (serveSetDesk st f s).1.now = s.now ∧ (serveSetDesk st f s).1.pending = s.pending := by
  simp only [serveSetDesk]
  (repeat' split) <;> simp

theorem serveSetZone_keeps (z : Nat) (f : SetZoneFields) :
    (serveSetZone z f s).1.now = s.now ∧ (serveSetZone z f s).1.pending = s.pending := by
  simp only [serveSetZone, forZone]
  (repeat' split) <;> simp

theorem serveEnableZone_keeps (z : Nat) :
    (serveEnableZone z s).1.now = s.now ∧ (serveEnableZone z s).1.pending = s.pending := by
  simp only [serveEnableZone, forZone]
  (repeat' split) <;> simp

theorem serveDisableZone_keeps (z : Nat) :
    (serveDisableZone z s).1.now = s.now ∧ (serveDisableZone z s).1.pending = s.pending := by
  simp only [serveDisableZone, forZone]
  (repeat' split) <;> simp

theorem serveReadZone_keeps (z : Nat) :
    (serveReadZone z s).1.now = s.now ∧ (serveReadZone z s).1.pending = s.pending := by
  simp only [serveReadZone, forZone]
  (repeat' split) <;> simp

theorem serveInsertSegment_keeps (z : Nat) (f : InsertFields) :
    (serveInsertSegment z f s).1.now = s.now ∧ (serveInsertSegment z f s).1.pending = s.pending := by
  simp only [serveInsertSegment, forZone]
  (repeat' split) <;> simp

theorem serveEditSegment_keeps (z : Nat) (f : EditFields) :
    (serveEditSegment z f s).1.now = s.now ∧ (serveEditSegment z f s).1.pending = s.pending := by
  simp only [serveEditSegment, forZone]
  (repeat' split) <;> simp

theorem serveDeleteSegment_keeps (z n : Nat) :
    (serveDeleteSegment z n s).1.now = s.now ∧ (serveDeleteSegment z n s).1.pending = s.pending := by
  simp only [serveDeleteSegment, forZone]
  (repeat' split) <;> simp

theorem serveReadSchedule_keeps (z : Nat) :
    (serveReadSchedule z s).1.now = s.now ∧ (serveReadSchedule z s).1.pending = s.pending := by
  simp only [serveReadSchedule, forZone]
  (repeat' split) <;> simp

theorem serveSetCoupling_keeps (st z v : Nat) :
    (serveSetCoupling st z v s).1.now = s.now ∧ (serveSetCoupling st z v s).1.pending = s.pending := by
  simp only [serveSetCoupling, forZone, forStage]
  (repeat' split) <;> simp

theorem serveSetStage_keeps (st : Nat) (f : SetStageFields) :
    (serveSetStage st f s).1.now = s.now ∧ (serveSetStage st f s).1.pending = s.pending := by
  simp only [serveSetStage, forStage]
  (repeat' split) <;> simp

theorem serveAssignMonitor_keeps (a z : Nat) :
    (serveAssignMonitor a z s).1.now = s.now ∧ (serveAssignMonitor a z s).1.pending = s.pending := by
  simp only [serveAssignMonitor, forZone]
  (repeat' split) <;> simp

theorem serveUnassignMonitor_keeps (a : Nat) :
    (serveUnassignMonitor a s).1.now = s.now ∧ (serveUnassignMonitor a s).1.pending = s.pending := by
  simp only [serveUnassignMonitor]
  (repeat' split) <;> simp

theorem serveReadMonitor_keeps (a : Nat) :
    (serveReadMonitor a s).1.now = s.now ∧ (serveReadMonitor a s).1.pending = s.pending := by
  simp only [serveReadMonitor]
  (repeat' split) <;> simp

theorem serveSetTime_keeps (t : Nat) :
    (serveSetTime t s).1.now = s.now ∧ (serveSetTime t s).1.pending = s.pending := by
  simp only [serveSetTime]
  (repeat' split) <;> simp

theorem serveSelectSource_keeps (n : Nat) :
    (serveSelectSource n s).1.now = s.now ∧ (serveSelectSource n s).1.pending = s.pending := by
  simp only [serveSelectSource]
  (repeat' split) <;> simp

theorem serveArmShow_keeps : (serveArmShow s).1.now = s.now ∧ (serveArmShow s).1.pending = s.pending := by
  simp only [serveArmShow]
  (repeat' split) <;> simp

theorem serveMuteNow_keeps (st : Nat) :
    (serveMuteNow st s).1.now = s.now ∧ (serveMuteNow st s).1.pending = s.pending := by
  simp only [serveMuteNow, forStage]
  (repeat' split) <;> simp

theorem serveFade_keeps (st : Nat) :
    (serveFade st s).1.now = s.now ∧ (serveFade st s).1.pending = s.pending := by
  simp only [serveFade, forStage]
  (repeat' split) <;> simp

theorem serveRelease_keeps (st : Nat) :
    (serveRelease st s).1.now = s.now ∧ (serveRelease st s).1.pending = s.pending := by
  simp only [serveRelease, forStage]
  (repeat' split) <;> simp

theorem serveEnablePath_keeps (st : Nat) :
    (serveEnablePath st s).1.now = s.now ∧ (serveEnablePath st s).1.pending = s.pending := by
  simp only [serveEnablePath, forStage]
  (repeat' split) <;> simp

theorem serveDisablePath_keeps (st : Nat) :
    (serveDisablePath st s).1.now = s.now ∧ (serveDisablePath st s).1.pending = s.pending := by
  simp only [serveDisablePath, forStage]
  (repeat' split) <;> simp

theorem serveAlignPath_keeps (st : Nat) :
    (serveAlignPath st s).1.now = s.now ∧ (serveAlignPath st s).1.pending = s.pending := by
  simp only [serveAlignPath, forStage]
  (repeat' split) <;> simp

theorem serveSetPath_keeps (st : Nat) (f : SetPathFields) :
    (serveSetPath st f s).1.now = s.now ∧ (serveSetPath st f s).1.pending = s.pending := by
  simp only [serveSetPath, forStage]
  (repeat' split) <;> simp

theorem serveClearAlarms_keeps (st : Nat) (m : Byte) :
    (serveClearAlarms st m s).1.now = s.now ∧ (serveClearAlarms st m s).1.pending = s.pending := by
  simp only [serveClearAlarms, forStage]
  (repeat' split) <;> simp

theorem serveSetNotices_keeps (n : Nat) (f : SetNoticesFields) :
    (serveSetNotices n f s).1.now = s.now ∧ (serveSetNotices n f s).1.pending = s.pending := by
  simp only [serveSetNotices]
  (repeat' split) <;> simp

theorem serveRestart_keeps : (serveRestart s).1.now = s.now ∧ (serveRestart s).1.pending = s.pending := by
  simp only [serveRestart]
  (repeat' split) <;> simp

/-- The service of a request neither moves time nor touches the queue. -/
@[simp] theorem serveRequest_keeps (l : LinkId) (r : Request) :
    (serveRequest l r s).1.now = s.now ∧ (serveRequest l r s).1.pending = s.pending := by
  cases l with
  | desk d =>
    cases r with
    | unknownKind _ => exact ⟨rfl, rfl⟩
    | forbidden _ => exact ⟨rfl, rfl⟩
    | stageStatus => exact ⟨rfl, rfl⟩
    | zoneView => exact ⟨rfl, rfl⟩
    | setDesk f => exact serveSetDesk_keeps s d f
    | encore _ => exact serveEncoreAsk_keeps s d _
    | encoreEnd => exact serveEncoreEnd_keeps s d
    | readNotices => exact ⟨rfl, rfl⟩
    | ackNotices m => exact serveAckNotices_keeps s (.desk d) m
    | setZone _ _ => exact ⟨rfl, rfl⟩
    | enableZone _ => exact ⟨rfl, rfl⟩
    | disableZone _ => exact ⟨rfl, rfl⟩
    | readZone _ => exact ⟨rfl, rfl⟩
    | insertSegment _ _ => exact ⟨rfl, rfl⟩
    | editSegment _ _ => exact ⟨rfl, rfl⟩
    | deleteSegment _ _ => exact ⟨rfl, rfl⟩
    | readSchedule _ => exact ⟨rfl, rfl⟩
    | setCoupling _ _ _ => exact ⟨rfl, rfl⟩
    | setStage _ _ => exact ⟨rfl, rfl⟩
    | assignMonitor _ _ => exact ⟨rfl, rfl⟩
    | unassignMonitor _ => exact ⟨rfl, rfl⟩
    | readMonitor _ => exact ⟨rfl, rfl⟩
    | setTime _ => exact ⟨rfl, rfl⟩
    | selectSource _ => exact ⟨rfl, rfl⟩
    | armShow => exact ⟨rfl, rfl⟩
    | endShow => exact ⟨rfl, rfl⟩
    | setPool _ => exact ⟨rfl, rfl⟩
    | muteNow _ => exact ⟨rfl, rfl⟩
    | fade _ => exact ⟨rfl, rfl⟩
    | release _ => exact ⟨rfl, rfl⟩
    | enablePath _ => exact ⟨rfl, rfl⟩
    | disablePath _ => exact ⟨rfl, rfl⟩
    | alignPath _ => exact ⟨rfl, rfl⟩
    | setPath _ _ => exact ⟨rfl, rfl⟩
    | clearAlarms _ _ => exact ⟨rfl, rfl⟩
    | readRecords _ _ => exact ⟨rfl, rfl⟩
    | clearClosed => exact ⟨rfl, rfl⟩
    | setNotices _ _ => exact ⟨rfl, rfl⟩
    | restart => exact ⟨rfl, rfl⟩
  | officer =>
    cases r with
    | unknownKind _ => exact ⟨rfl, rfl⟩
    | forbidden _ => exact ⟨rfl, rfl⟩
    | stageStatus => exact ⟨rfl, rfl⟩
    | zoneView => exact ⟨rfl, rfl⟩
    | setDesk _ => exact ⟨rfl, rfl⟩
    | encore _ => exact ⟨rfl, rfl⟩
    | encoreEnd => exact ⟨rfl, rfl⟩
    | readNotices => exact ⟨rfl, rfl⟩
    | ackNotices m => exact serveAckNotices_keeps s .officer m
    | setZone z f => exact serveSetZone_keeps s z f
    | enableZone z => exact serveEnableZone_keeps s z
    | disableZone z => exact serveDisableZone_keeps s z
    | readZone z => exact serveReadZone_keeps s z
    | insertSegment z f => exact serveInsertSegment_keeps s z f
    | editSegment z f => exact serveEditSegment_keeps s z f
    | deleteSegment z n => exact serveDeleteSegment_keeps s z n
    | readSchedule z => exact serveReadSchedule_keeps s z
    | setCoupling st z v => exact serveSetCoupling_keeps s st z v
    | setStage st f => exact serveSetStage_keeps s st f
    | assignMonitor a z => exact serveAssignMonitor_keeps s a z
    | unassignMonitor a => exact serveUnassignMonitor_keeps s a
    | readMonitor a => exact serveReadMonitor_keeps s a
    | setTime t => exact serveSetTime_keeps s t
    | selectSource n => exact serveSelectSource_keeps s n
    | armShow => exact serveArmShow_keeps s
    | endShow => exact serveEndShow_keeps s
    | setPool _ => exact ⟨rfl, rfl⟩
    | muteNow st => exact serveMuteNow_keeps s st
    | fade st => exact serveFade_keeps s st
    | release st => exact serveRelease_keeps s st
    | enablePath st => exact serveEnablePath_keeps s st
    | disablePath st => exact serveDisablePath_keeps s st
    | alignPath st => exact serveAlignPath_keeps s st
    | setPath st f => exact serveSetPath_keeps s st f
    | clearAlarms st m => exact serveClearAlarms_keeps s st m
    | readRecords _ _ => exact ⟨rfl, rfl⟩
    | clearClosed => exact ⟨rfl, rfl⟩
    | setNotices n f => exact serveSetNotices_keeps s n f
    | restart => exact serveRestart_keeps s

/-! ## The three fates of a request (R161) -/

/-- A request that reaches an IDLE interface is taken. -/
theorem requestReaches_idle (l : LinkId) (r : Request) (h : (s.links.get l).transmitter = none) :
    s.requestReaches l r = s.takeRequest l r := by
  simp only [State.requestReaches, h]

/-- A request that reaches a SENDING interface with an empty place is held. -/
theorem requestReaches_held (l : LinkId) (r : Request) {m : List Byte} (h : (s.links.get l).transmitter = some m)
    (e : (s.links.get l).held = none) :
    s.requestReaches l r = s.onLink l fun k => { k with held := some r } := by
  simp only [State.requestReaches, h, e]

/-- A request that reaches a SENDING interface with a taken place owes REJECT BUSY. -/
theorem requestReaches_busy (l : LinkId) (r : Request) {m : List Byte} {q : Request}
    (h : (s.links.get l).transmitter = some m) (e : (s.links.get l).held = some q) :
    s.requestReaches l r = s.onLink l (LinkInterface.owe .busy) := by
  have o : (LinkInterface.owe .busy (s.links.get l)).transmitter = some m := by
    unfold LinkInterface.owe
    split <;> exact h
  simp only [State.requestReaches, h, e, State.oweReject, onLink_links, links_get_set_self, o]

/-- Once the officer link has served a request, no RESTART overtakes a close report from before it (R155). -/
theorem takeRequest_officer_reports (r : Request) : (s.takeRequest .officer r).reports = [] := by
  simp [State.takeRequest]

@[simp] theorem takeRequest_keeps (l : LinkId) (r : Request) :
    (s.takeRequest l r).now = s.now ∧ (s.takeRequest l r).pending = s.pending := by
  simp [State.takeRequest]

@[simp] theorem nextMessage_keeps (l : LinkId) :
    (s.nextMessage l).now = s.now ∧ (s.nextMessage l).pending = s.pending := by
  unfold State.nextMessage
  split <;> simp

@[simp] theorem oweReject_keeps (l : LinkId) (c : Reject) :
    (s.oweReject l c).now = s.now ∧ (s.oweReject l c).pending = s.pending := by
  simp only [State.oweReject]
  split <;> simp

@[simp] theorem requestReaches_keeps (l : LinkId) (r : Request) :
    (s.requestReaches l r).now = s.now ∧ (s.requestReaches l r).pending = s.pending := by
  unfold State.requestReaches
  split <;> simp

@[simp] theorem messageSent_keeps (l : LinkId) :
    (s.messageSent l).now = s.now ∧ (s.messageSent l).pending = s.pending := by
  unfold State.messageSent
  split <;> simp

@[simp] theorem rxEvent_keeps (l : LinkId) (e : RxEvent) :
    (s.rxEvent l e).now = s.now ∧ (s.rxEvent l e).pending = s.pending := by
  unfold State.rxEvent
  (repeat' split) <;> simp

@[simp] theorem receiveByte_keeps (l : LinkId) (b : LineByte) :
    (s.receiveByte l b).now = s.now ∧ (s.receiveByte l b).pending = s.pending := by
  simp only [State.receiveByte]
  split <;> simp

@[simp] theorem receive_keeps (l : LinkId) (b : List LineByte) :
    (s.receive l b).now = s.now ∧ (s.receive l b).pending = s.pending :=
  ⟨foldl_keeps State.now _ (fun _ _ => by simp) _ _, foldl_keeps State.pending _ (fun _ _ => by simp) _ _⟩

@[simp] theorem dropMessage_keeps (l : LinkId) :
    (s.dropMessage l).now = s.now ∧ (s.dropMessage l).pending = s.pending := by
  simp [State.dropMessage]

@[simp] theorem gap_keeps (l : LinkId) : (s.gap l).now = s.now ∧ (s.gap l).pending = s.pending := by
  unfold State.gap
  split <;> simp

@[simp] theorem idleAfterLengthError_keeps (l : LinkId) :
    (s.idleAfterLengthError l).now = s.now ∧ (s.idleAfterLengthError l).pending = s.pending := by
  unfold State.idleAfterLengthError
  split <;> simp

@[simp] theorem breakFound_keeps (l : LinkId) :
    (s.breakFound l).now = s.now ∧ (s.breakFound l).pending = s.pending := by
  simp [State.breakFound]

end

end Sys2Proof.Machine
end

