-- ==== Sys2Proof/Laws/Zone.lean ====
section
/-! SUPPORT. What the operations of the zone accounts, the exceedance list and the audio paths can do. -/

namespace Sys2Proof.Machine

/-! ## Ranges -/

theorem clampTo_within {lo hi : Nat} (h : lo ≤ hi) (n : Nat) : lo ≤ clampTo lo hi n ∧ clampTo lo hi n ≤ hi := by
  unfold clampTo
  omega

theorem clampLevel_within (n : Nat) : 400 ≤ clampLevel n ∧ clampLevel n ≤ 1300 :=
  clampTo_within (by decide) n

theorem clampTo_of_within {lo hi n : Nat} (h : lo ≤ n) (k : n ≤ hi) : clampTo lo hi n = n := by
  unfold clampTo
  omega

/-! ## Rings (R70, R71) -/

theorem pushSecond_length (l : List Nat) (e : Nat) (h : l.length ≤ 10) : (pushSecond l e).length ≤ 10 := by
  unfold pushSecond
  simp only [Config.secondRing]
  by_cases k : 10 ≤ l.length <;> simp [k] <;> omega

theorem pushSecond_ne_nil (l : List Nat) (e : Nat) : pushSecond l e ≠ [] := by
  simp [pushSecond]

theorem pushMinute_ne_nil (l : List MinuteSlot) (m : Option Nat) (e : Pair Nat) (b : Bool) :
    pushMinute l m e b ≠ [] := by
  unfold pushMinute
  split
  · simp
  · next h =>
    split
    · next g =>
      simp [opensSlot, g] at h
    · simp

theorem pushMinute_length (l : List MinuteSlot) (m : Option Nat) (e : Pair Nat) (b : Bool) (h : l.length ≤ 15) :
    (pushMinute l m e b).length ≤ 15 := by
  unfold pushMinute
  simp only [Config.minuteRing]
  split
  · by_cases k : 15 ≤ l.length <;> simp [k] <;> omega
  · split
    · exact h
    · next g =>
      have : l ≠ [] := by
        intro e
        simp [e] at g
      have := List.length_pos_iff.2 this
      simp
      omega

/-! ## A close (R66) -/

/-- What a close leaves of an account. -/
@[simp] theorem close_keeps (zn : Zone) (n : Nat) (l : Pair Nat) (aw : Awaiting) (r : Option MeasurementRecord) :
    (zn.close n l aw r).config = zn.config ∧ (zn.close n l aw r).enabled = zn.enabled ∧
    (zn.close n l aw r).awaiting = some { aw with isOpen := false } ∧
    (zn.close n l aw r).missingRun = (zn.closing r).missingRun ∧
    (zn.close n l aw r).feed = feedOf (zn.closing r).missingRun ∧
    (zn.close n l aw r).hold = (zn.closing r).hold := by
  simp [Zone.close]

theorem closing_missingRun (zn : Zone) (r : Option MeasurementRecord) : (zn.closing r).missingRun ≤ 255 := by
  unfold Zone.closing
  split
  · simp
  · split <;> simp

/-- All that the close of a zone does to the accounts: that zone's own close, for the limits in force. -/
theorem closeZone_zones (s : State) (z : ZoneId) (b : Bank4 Bool) (aw : Awaiting) (r : Option MeasurementRecord) :
    (s.closeZone z b aw r).zones =
      s.zones.set z ((s.zones.get z).close s.now (limitsInForce s z) aw r) := by
  simp [State.closeZone, Bank8.modify]

/-- A close recomputes targets only: every stage keeps its record. -/
@[simp] theorem closeToStages_record (s : State) (z : ZoneId) (w : Bank4 Bool) (old new : Zone) (i : StageId) :
    ((s.closeToStages z w old new).stages.get i).record = (s.stages.get i).record := by
  unfold State.closeToStages
  split
  · exact eachStage_keeps (fun s => (s.stages.get i).record) _ (fun st s => by split <;> simp) s
  · rfl

@[simp] theorem closeZone_record (s : State) (z : ZoneId) (b : Bank4 Bool) (aw : Awaiting)
    (r : Option MeasurementRecord) (i : StageId) :
    ((s.closeZone z b aw r).stages.get i).record = (s.stages.get i).record := by
  simp [State.closeZone]

@[simp] theorem stageLosesZone_record (s : State) (z : ZoneId) (b : Bool) (st i : StageId) :
    ((s.stageLosesZone z b st).stages.get i).record = (s.stages.get i).record := by
  unfold State.stageLosesZone
  split <;> simp

/-! ## The exceedance list (R146 to R151) -/

@[simp] theorem takePair_length (c : CloseReport) (b : Bank4 Bool) (p : Metric × RecordKind)
    (l : List Exceedance) : (takePair c b p l).length = l.length := by
  simp [takePair]

theorem makeRoom_sublist (l : List Exceedance) : (makeRoom l).Sublist l := by
  unfold makeRoom
  split
  · exact List.eraseP_sublist
  · exact List.Sublist.refl _

@[simp] theorem servePair_counter (s : State) (c : CloseReport) (b : Bank4 Bool) (p : Metric × RecordKind) :
    (s.servePair c b p).exceedances = { s.exceedances with records := takePair c b p s.exceedances.records } := by
  simp only [State.servePair, State.raiseOfficerIf]
  split <;> simp

/-- What the list keeps of a close report: the zone's last, at the end, and no other of that zone (log entry 40). -/
theorem takeSent_reports (s : State) (c : CloseReport) :
    ∃ n : Nat, n < 65536 ∧ (s.takeSent c).reports =
      s.reports.filter (fun r => decide (r.report.zone ≠ c.zone)) ++ [⟨s.now, c, n, attenuated s⟩] :=
  ⟨_, Nat.mod_lt _ (by decide), rfl⟩

/-- The list takes a report the same way whether or not it is kept. -/
@[simp] theorem takeSent_list (s : State) (c : CloseReport) :
    (s.takeSent c).exceedances = (s.takeReport c).exceedances ∧ (s.takeSent c).links = (s.takeReport c).links :=
  ⟨rfl, rfl⟩

/-- A RESTART that overtakes no report leaves the list empty and its counter as it was (R155). -/
theorem restartList_none (s : State) (o : Interleaving) (h : s.overtaken o = []) (hc : s.exceedances.counter < 65536) :
    s.restartList o = { s with exceedances := ⟨[], s.exceedances.counter⟩, reports := [] } := by
  simp [State.restartList, h, State.emptyList, State.takeOvertaken, tagDistance]
  omega

/-! ## The audio paths (R130) -/

@[simp] theorem completeFill_keeps (p : Path) :
    p.completeFill.buffer = p.buffer ∧ p.completeFill.writeIndex = p.writeIndex ∧
    p.completeFill.alarms = p.alarms ∧ p.completeFill.watch = p.watch ∧ p.completeFill.delay = p.delay ∧
    p.completeFill.muteMask = p.muteMask ∧ p.completeFill.followStrobe = p.followStrobe ∧
    p.completeFill.sent = p.sent := by
  unfold Path.completeFill
  split <;> simp

@[simp] theorem hear_keeps (p : Path) (n : Nat) :
    (p.hear n).state = p.state ∧ (p.hear n).buffer = p.buffer ∧ (p.hear n).writeIndex = p.writeIndex ∧
    (p.hear n).alarms = p.alarms ∧ (p.hear n).delay = p.delay ∧ (p.hear n).muteMask = p.muteMask ∧
    (p.hear n).followStrobe = p.followStrobe ∧ (p.hear n).sent = p.sent := by
  unfold Path.hear
  split <;> simp_all

/-- An arrival changes no setting, alarm or sent frame of its path. -/
@[simp] theorem arrive_keeps (p : Path) (f : Frame) (b : Bool) :
    (p.arrive f b).1.alarms = p.alarms ∧ (p.arrive f b).1.delay = p.delay ∧
    (p.arrive f b).1.muteMask = p.muteMask ∧ (p.arrive f b).1.followStrobe = p.followStrobe ∧
    (p.arrive f b).1.watch = p.watch ∧ (p.arrive f b).1.sent = p.sent := by
  simp only [Path.arrive]
  (repeat' split) <;> simp [Path.beginFill]

end Sys2Proof.Machine
end

