-- ==== Sys2Proof/Tests/Slice0.lean ====
section
/-! SUPPORT. Tests: the WellFormed smoke tests, single steps with the results the spec's worked examples and
sequences give (the section is named at each), and for each obligation a state and operands that meet its
hypotheses. -/

namespace Sys2Proof.Tests
open Sys2Proof Sys2Proof.Machine

/-! ## Helpers -/

/-- One resolution of the open orders: each owner in the order the rules name them. -/
def plain : Interleaving :=
  ⟨[], Bank8.fill (Bank4.fill false), Bank4.fill false, false, Bank8.fill false, Bank8.fill (Bank4.fill false)⟩

/-- The state a command leaves, with the orders the spec leaves open taken as given. -/
def afterWith (o : Interleaving) (c : Instr) (s : State) : State :=
  match exec c { s with orders := [o] } with
  | .next t => t
  | _ => s

/-- The state a command leaves, with the orders the spec leaves open taken as `plain`. -/
def after (c : Instr) (s : State) : State := afterWith plain c s

/-- The first byte of the payload a link is sending: the reply code. -/
def codeOn (l : LinkId) (s : State) : Option Byte := (sentReply l s).bind fun r => r.2.head?

def withTime (f : TimeBase → TimeBase) : State := { State.reset with timeBase := f TimeBase.reset }

def withZone (z : ZoneId) (f : Zone → Zone) : State := State.reset.onZone z f

def withStage (st : StageId) (f : Stage → Stage) : State := State.reset.onStage st f

def withPath (st : StageId) (f : Path → Path) : State := State.reset.onPath st f

def withLoop (f : Loop → Loop) : State := { State.reset with loop := f Loop.reset }

def withLink (l : LinkId) (f : LinkInterface → LinkInterface) : State := State.reset.onLink l f

def inShow (s : State) : State := { s with mode := .show }

def noFields : SetZoneFields :=
  ⟨none, none, none, none, none, none, none, none, none, none, none, none⟩

def noStageFields : SetStageFields := ⟨none, none, none, none, none, none, none, none⟩

def playFields : InsertFields := ⟨630, 0, 650, 700, none, none, false⟩

def noEdit : EditFields := ⟨0, none, none, none, none, none, false⟩

def recordAt (tag raw : Nat) : MeasurementRecord := ⟨tag, raw, raw, false, false, false⟩

/-! ## WellFormed: one ill-formed term for each check -/

theorem test_ill_formed_events :
    ([.identifyReply 256 0, .identifyReply 0 4294967296, .statusReply 256 0#8,
      .fetchReply (some ⟨65536, 0, 0, false, false, false⟩), .fetchReply (some ⟨0, 65536, 0, false, false, false⟩),
      .fetchReply (some ⟨0, 0, 65536, false, false, false⟩), .frameArrival 0 (Bank8.fill 8388608) false,
      .frameArrival 0 ((Bank8.fill 0).set 7 (-8388609)) true] : List Instr).all (fun c => !c.wf) = true := by
  decide

theorem test_ill_formed_desk_requests :
    ([.setDesk 0 ⟨some 256, none, none, none, false⟩, .setDesk 0 ⟨none, some 256, none, none, false⟩,
      .setDesk 0 ⟨none, none, none, some [0, 0, 0, 0, 0], false⟩,
      .setDesk 0 ⟨none, none, none, some [0, 0, 0, 0, 0, 256], false⟩, .encore 0 256,
      .ackNotices (.desk 0) 256#16] : List Instr).all (fun c => !c.wf) = true := by
  decide

theorem test_ill_formed_zone_requests :
    ([.setZone 256 noFields, .setZone 0 { noFields with window := some 256 },
      .setZone 0 { noFields with guardBand := some 256 }, .setZone 0 { noFields with fastMargin := some 256 },
      .setZone 0 { noFields with releaseMargin := some 256 }, .setZone 0 { noFields with hysteresis := some 256 },
      .setZone 0 { noFields with warnMargin := some 256 }, .setZone 0 { noFields with fastStep := some 255 },
      .setZone 0 { noFields with attackCap := some 255 }, .setZone 0 { noFields with settlePeriod := some 255 },
      .setZone 0 { noFields with releaseInterval := some 255 },
      .setZone 0 { noFields with fallbackBroad := some 65535 },
      .setZone 0 { noFields with fallbackLow := some 65535 }, .enableZone 256, .disableZone 256, .readZone 256,
      .readSchedule 256] : List Instr).all (fun c => !c.wf) = true := by
  decide

theorem test_ill_formed_schedule_requests :
    ([.insertSegment 256 playFields, .insertSegment 0 { playFields with start := 65536 },
      .insertSegment 0 { playFields with kind := 256 }, .insertSegment 0 { playFields with broad := 65536 },
      .insertSegment 0 { playFields with low := 65536 },
      .insertSegment 0 { playFields with encoreBroad := some 65536 },
      .insertSegment 0 { playFields with encoreLow := some 65536 }, .editSegment 256 noEdit,
      .editSegment 0 { noEdit with start := 65536 }, .editSegment 0 { noEdit with kind := some 256 },
      .editSegment 0 { noEdit with broad := some 65536 }, .editSegment 0 { noEdit with low := some 65536 },
      .editSegment 0 { noEdit with encoreBroad := some 65536 },
      .editSegment 0 { noEdit with encoreLow := some 65536 }, .deleteSegment 256 0,
      .deleteSegment 0 65536] : List Instr).all (fun c => !c.wf) = true := by
  decide

theorem test_ill_formed_stage_requests :
    ([.setCoupling 256 0 0, .setCoupling 0 256 0, .setCoupling 0 0 256, .setStage 256 noStageFields,
      .setStage 0 { noStageFields with failsafe := some 256 },
      .setStage 0 { noStageFields with changeMode := some 256 },
      .setStage 0 { noStageFields with attack := some 256 },
      .setStage 0 { noStageFields with releaseStep := some 65536 },
      .setStage 0 { noStageFields with fadeStep := some 65536 },
      .setStage 0 { noStageFields with resumeStep := some 65536 },
      .setStage 0 { noStageFields with lead := some 256 }, .setStage 0 { noStageFields with trim := some 256 },
      .muteNow 256, .fade 256, .release 256] : List Instr).all (fun c => !c.wf) = true := by
  decide

theorem test_ill_formed_other_requests :
    ([.assignMonitor 256 0, .assignMonitor 0 256, .unassignMonitor 256, .readMonitor 256, .setTime 16777216,
      .selectSource 256, .setPool 256, .enablePath 256, .disablePath 256, .alignPath 256,
      .setPath 256 ⟨none, none, none, false⟩, .setPath 0 ⟨some 256, none, none, false⟩,
      .setPath 0 ⟨none, none, some 256, false⟩, .clearAlarms 256 0#8, .readRecords 256 1, .readRecords 0 256,
      .setNotices 256 ⟨none, none, false⟩, .setNotices 0 ⟨none, some [0], false⟩,
      .setNotices 0 ⟨none, some [256, 0, 0, 0, 0, 0, 0, 0, 0], false⟩] : List Instr).all (fun c => !c.wf) = true := by
  decide

theorem test_well_formed :
    ([.powerOn, .identifyReply 255 4294967295, .fetchReply (some ⟨65535, 65535, 65535, true, true, true⟩),
      .frameArrival 0 (Bank8.fill (-8388608)) true, .setDesk 3 ⟨some 255, none, none, some [0, 1, 2, 3, 255, 9], true⟩,
      .setZone 255 { noFields with fastStep := some 254, fallbackLow := some 65534 }, .ackNotices .officer 511#16,
      .setNotices 4 ⟨some 1#16, none, false⟩] : List Instr).all Instr.wf = true := by
  decide

/-! ## Arithmetic (the worked conversions, means, table and scaling of Chapter 1) -/

theorem test_level_to_energy :
    [levelToEnergy 700, levelToEnergy 715, levelToEnergy 650, levelToEnergy 401, levelToEnergy 1450,
      levelToEnergy 320, levelToEnergy 701, levelToEnergy 702] =
    [1048576, 1572864, 349696, 1059, 2 ^ 40, 1024, 1084416, 1119232] := by decide

theorem test_energy_to_level :
    [energyToLevel 1048576, energyToLevel 1572864, energyToLevel 349696, energyToLevel 1059,
      energyToLevel 1100000, energyToLevel (2 ^ 40), energyToLevel 1023] =
    [700, 715, 650, 401, 701, 1300, 400] := by decide

theorem test_means :
    levelOfList [1048576, 1572864] = 707 ∧ levelOfList (List.replicate 9 1048576 ++ [11190272]) = 729 ∧
    levelOfSum (9437184 + 11190272) (9 + 1) = 729 := by decide

theorem test_ceiling_division :
    [ceilDiv 63 5, ceilDiv 1 5, ceilDiv 10 5, ceilDiv 280 100, ceilDiv 1 100, ceilDiv 9600 100, ceilDiv 0 100] =
    [13, 1, 2, 3, 1, 96, 0] := by decide

theorem test_scaling :
    [scaleSample 1000000 (gain 7), scaleSample (-1000000) (gain 7), scaleSample 3 (gain 12),
      scaleSample (-3) (gain 12), scaleSample 1 (gain 12), scaleSample (-1) (gain 12),
      scaleSample 8388607 (gain 96), scaleSample (-8388608) (gain 96), scaleSample (-8388608) (gain 0)] =
    [667419, -667419, 2, -1, 1, 0, 32768, -32768, -8388608] := by decide

/-! ## Power-on and the time base (Section 2.2) -/

theorem test_power_on :
    (after .powerOn (inShow State.reset)).mode = .setup ∧
    (after .powerOn { State.reset with pool := 9, pending := [.armShow] }).pool = 0 := by decide

/-- FREE with source PPS, tag 100, time of day 80000, the mark of tag 100 at moment 0. -/
def steered : State :=
  withTime fun t => { t with state := .free, source := .pps, tag := 100, timeOfDay := 80000 }

/-- LOCKED at tag 102. -/
def locked : State :=
  withTime fun t => { t with
    state := .locked, source := .pps, tag := 102, timeOfDay := 80002, lockCount := 2, expected := 3000400
    lastMark := 2000400 }

theorem test_expected_point_marks :
    (after .expectedPoint State.reset).timeBase.tag = 1 ∧
    (after .expectedPoint State.reset).timeBase.timeOfDay = 0 ∧
    (after .expectedPoint State.reset).loop.sent = [0#8, 4#8, 0#8, 1#8, 0xFB#8] := by decide

theorem test_expected_point_waits :
    (after .expectedPoint steered).timeBase.tag = 100 ∧ (after .expectedPoint steered).now = 1000000 := by decide

theorem test_pulse_in_window :
    (after (.ppsPulse 1000400) steered).timeBase.tag = 101 ∧
    (after (.ppsPulse 1000400) steered).timeBase.timeOfDay = 80001 ∧
    (after (.ppsPulse 1000400) steered).timeBase.lockCount = 1 ∧
    (after (.ppsPulse 1000400) steered).timeBase.expected = 2000400 ∧
    (after (.ppsPulse 1000400) steered).timeBase.lastEvent = none := by decide

theorem test_pulse_short :
    (after (.ppsPulse 2700400) locked).timeBase.tag = 103 ∧
    (after (.ppsPulse 2700400) locked).timeBase.state = .free ∧
    (after (.ppsPulse 2700400) locked).timeBase.lockCount = 0 ∧
    (after (.ppsPulse 2700400) locked).timeBase.expected = 3700400 ∧
    (after (.ppsPulse 2700400) locked).timeBase.lastEvent = some .short := by decide

/-- LOCKED at tag 106, its next expected point at 7100.4 ms. -/
def late : State :=
  withTime fun t => { t with
    state := .locked, source := .pps, tag := 106, timeOfDay := 80006, lockCount := 2, expected := 7100400
    lastMark := 6100400 }

theorem test_window_close :
    (after .windowClose late).now = 7101400 ∧ (after .windowClose late).timeBase.tag = 107 ∧
    (after .windowClose late).timeBase.state = .locked ∧ (after .windowClose late).timeBase.lockCount = 0 ∧
    (after .windowClose late).timeBase.expected = 8100400 ∧
    (after .windowClose late).timeBase.firstEmpty = some 7100400 := by decide

def emptied : State := { late with timeBase := { late.timeBase with firstEmpty := some 7100400 } }

theorem test_lock_loss :
    (after .lockLoss emptied).now = 8600400 ∧ (after .lockLoss emptied).timeBase.state = .free ∧
    (after .lockLoss emptied).timeBase.tag = 106 ∧ (after .lockLoss emptied).timeBase.lastEvent = some .lost ∧
    noticeAt .officer 6 (after .lockLoss emptied) = true := by decide

theorem test_set_time :
    (after (.setTime 64800) State.reset).timeBase.state = .free ∧
    (after (.setTime 64800) State.reset).minute = some 360 ∧
    ((after (.setTime 64800) State.reset).stages.get 0).target = 0 ∧
    codeOn .officer (after (.setTime 86400) State.reset) = some 3#8 := by decide +kernel

theorem test_select_source :
    codeOn .officer (after (.selectSource 1) State.reset) = some 9#8 ∧
    (after (.selectSource 0) locked).timeBase.state = .free ∧
    (after (.selectSource 0) locked).timeBase.source = .internal := by decide

/-! ## Schedules (Section 2.4) -/

/-- Z2's four segments, in force at a time of day, the time base LOCKED and SHOW armed. -/
def zoneNight (tod : Nat) : State :=
  let l : List Segment := [⟨0, .play, 1300, 1300⟩, ⟨480, .play, 700, 750⟩, ⟨630, .play, 650, 700⟩,
    ⟨660, .curfew 550 600, 450, 500⟩]
  inShow (((((withTime fun t => { t with state := .locked, source := .pps, timeOfDay := tod }).onZone 2
    fun z => { z with enabled := true, feed := .fed }).onStage 1 fun g => { g with
      record := { g.record with coupling := g.record.coupling.set 2 60 } }).onTable 2
        fun _ => ⟨l, segmentAt l (some (minuteOf tod))⟩))

theorem test_minutes_and_seconds_left :
    minutesLeft (zoneNight 80999) 1 = some 31 ∧ onsetSeconds (zoneNight 80999) 1 = some 1801 ∧
    limitsInForce (zoneNight 80999) 2 = ⟨700, 750⟩ ∧ limitsInForce (zoneNight 81000) 2 = ⟨650, 700⟩ := by decide

theorem test_insert_in_show :
    codeOn .officer (after (.insertSegment 2 ⟨650, 1, 450, 480, some 500, some 550, false⟩) (zoneNight 81900)) =
      some 0#8 ∧
    minutesLeft (after (.insertSegment 2 ⟨650, 1, 450, 480, some 500, some 550, false⟩) (zoneNight 81900)) 1 =
      some 5 := by decide

theorem test_insert_refused_in_show :
    codeOn .officer (after (.insertSegment 2 ⟨640, 1, 450, 480, none, none, false⟩) (zoneNight 81970)) =
      some 7#8 := by decide

theorem test_edit_in_show :
    codeOn .officer (after (.editSegment 2 { noEdit with start := 660, broad := some 480 }) (zoneNight 81970)) =
      some 7#8 ∧
    codeOn .officer (after (.editSegment 2 { noEdit with start := 660, broad := some 440 }) (zoneNight 81970)) =
      some 0#8 := by decide

theorem test_delete_segment :
    codeOn .officer (after (.deleteSegment 2 0) (zoneNight 81970)) = some 3#8 ∧
    codeOn .officer (after (.deleteSegment 2 630) (zoneNight 81970)) = some 7#8 ∧
    codeOn .officer (after (.deleteSegment 2 631) (zoneNight 81970)) = some 4#8 := by decide

theorem test_read_schedule :
    ((sentReply .officer (after (.readSchedule 2) (zoneNight 81000))).map fun r => r.2.take 11) =
      some [0#8, 2#8, 0x02#8, 0x76#8, 2#8, 0x02#8, 0x8A#8, 0x02#8, 0xBC#8, 0#8, 4#8] := by decide

/-! ## The monitor loop (Sections 3.9 and 3.10) -/

/-- Slots 1 and 3 ACTIVE for Z0 and Z2 with next fetch numbers 18 and 41, slot 5 as given. -/
def busyLoop (u : UnitSlot) (k : Loop → Loop) : State :=
  withLoop fun l => k { l with
    slots := ((l.slots.set 0 { UnitSlot.reset with state := .active, zone := some 0, nextFetch := 18 }).set 2
      { UnitSlot.reset with state := .active, zone := some 2, nextFetch := 41 }).set 4 u }

def seekingFive : UnitSlot := { UnitSlot.reset with state := .seeking, zone := some 4 }

def activeFive : UnitSlot := { UnitSlot.reset with state := .active, zone := some 4 }

theorem test_assign_monitor :
    (after (.assignMonitor 5 4) (busyLoop UnitSlot.reset id)).loop.flight = some ⟨.identify 4 false, false⟩ ∧
    (after (.assignMonitor 5 4) (busyLoop UnitSlot.reset id)).loop.sent = [5#8, 1#8, 0xFA#8] ∧
    codeOn .officer (after (.assignMonitor 5 2) (busyLoop UnitSlot.reset id)) = some 6#8 := by decide

theorem test_unassign_monitor :
    (after (.unassignMonitor 3) (busyLoop UnitSlot.reset id)).loop.slotState 2 = .vacant ∧
    codeOn .officer (after (.unassignMonitor 5) (busyLoop UnitSlot.reset id)) = some 4#8 := by decide

def identifying : State :=
  busyLoop seekingFive fun k => { k with flight := some ⟨.identify 4 false, false⟩ }

theorem test_identify_reply :
    (after (.identifyReply 0x31 7) identifying).loop.slotState 4 = .active ∧
    ((after (.identifyReply 0x31 7) identifying).loop.slots.get 4).serial = some 7 ∧
    noticeAt .officer 2 (after (.identifyReply 0x31 7) identifying) = true ∧
    ((after (.identifyReply 0x32 7) identifying).loop.slots.get 4).cause = some .wrongKind := by decide

theorem test_latn_starts_scan :
    (after (.latnAsserted true) (busyLoop activeFive id)).loop.flight = some ⟨.status 0, false⟩ := by decide

def fetching (tag : Nat) : State :=
  { (busyLoop { activeFive with nextFetch := 1 } fun k => { k with
      flight := some ⟨.fetch 4 0, false⟩, scan := some ⟨4, .fetch 3 none⟩ }) with
    timeBase := { TimeBase.reset with state := .free, tag := tag }
    zones := (Bank8.fill Zone.reset).set 4
      { Zone.reset with enabled := true, feed := .fed, awaiting := some ⟨199, true, none⟩ } }

theorem test_status_reply :
    (after (.statusReply 3 0#8) (busyLoop activeFive fun k => { k with
      flight := some ⟨.status 4, false⟩, scan := some ⟨4, .status⟩ })).loop.flight = some ⟨.fetch 4 0, false⟩ ∧
    (after (.statusReply 0 0#8) (busyLoop activeFive fun k => { k with
      flight := some ⟨.status 0, false⟩, scan := some ⟨0, .status⟩ })).loop.flight =
        some ⟨.status 2, false⟩ := by decide

theorem test_fetch_reply_late :
    ((after (.fetchReply (some (recordAt 197 600))) (fetching 200)).loop.slots.get 4).late = true ∧
    (after (.fetchReply (some (recordAt 197 600))) (fetching 200)).loop.flight = some ⟨.fetch 4 1, false⟩ := by
  decide

theorem test_fetch_reply_taken :
    ((after (.fetchReply (some (recordAt 199 600))) (fetching 200)).zones.get 4).awaiting =
      some ⟨199, false, none⟩ ∧
    ((after (.fetchReply (some (recordAt 199 600))) (fetching 200)).loop.slots.get 4).late = false := by decide

/-- Step 12 of Section 3.9: a FETCH to 3 whose check is wrong. -/
def fetchThree : State :=
  busyLoop activeFive fun k => { k with
    flight := some ⟨.fetch 2 41, false⟩, scan := some ⟨2, .fetch 1 none⟩
    slots := k.slots.modify 2 fun u => { u with nextFetch := 42 } }

theorem test_complete_reply_failed :
    ((after (.completeReplyFailed [1#8, 0#8, 0#8]) fetchThree).loop.slots.get 2).failed = 1 ∧
    (after (.completeReplyFailed [1#8, 0#8, 0#8]) fetchThree).loop.flight = some ⟨.fetch 2 41, false⟩ ∧
    ((after (.completeReplyFailed [1#8, 0#8, 0#8]) fetchThree).loop.slots.get 2).nextFetch = 42 := by decide

theorem test_reply_timeout_third :
    (after .replyTimeout (fetchThree.onLoop (Loop.onSlot 2 fun u =>
      { u with failed := 2 }))).loop.slotState 2 = .lost := by decide

theorem test_reply_break : after .replyBreak fetchThree = after .replyTimeout fetchThree := by decide

theorem test_loop_stall :
    (after .loopStall fetchThree).loop.slotState 2 = .seeking ∧
    (after .loopStall fetchThree).loop.flight = some ⟨.loopReset, false⟩ ∧
    ((after .loopStall fetchThree).loop.slots.get 2).failed = 0 ∧
    noticeAt .officer 2 (after .loopStall fetchThree) = true := by decide

/-- Step 4 of Section 3.10: the stall of the LOOP RESET itself. -/
theorem test_loop_stall_in_reset :
    ((after .loopStall (busyLoop seekingFive fun k => { k with
      flight := some ⟨.loopReset, false⟩ })).loop.slots.get 4).cause = some .loopStall := by decide

theorem test_mark_sent :
    (after .markSent (busyLoop seekingFive fun k => { k with
      flight := some ⟨.mark 201, false⟩ })).loop.flight = some ⟨.identify 4 false, false⟩ := by decide

/-- A scan's last FETCH ends with a MARK waiting: the scan has ended, so LATN raised during the MARK starts a scan,
and STATUS goes before the IDENTIFY of slot 5 (R43, R45, R47). -/
theorem test_latn_during_mark :
    let s := busyLoop seekingFive fun k => { k with
      flight := some ⟨.fetch 2 41, false⟩, scan := some ⟨2, .fetch 1 none⟩, pendingMark := some 8 }
    (after (.fetchReply none) s).loop.scan = none ∧
    (after .markSent (after (.latnAsserted true) (after (.fetchReply none) s))).loop.flight =
      some ⟨.status 0, false⟩ ∧
    (after .markSent (after (.fetchReply none) s)).loop.flight = some ⟨.identify 4 false, false⟩ := by decide

theorem test_loop_reset_done :
    (after .loopResetDone (busyLoop activeFive fun k => { k with
      flight := some ⟨.loopReset, false⟩, latn := true })).loop.flight = some ⟨.status 0, false⟩ := by decide

def lostFive : UnitSlot :=
  { UnitSlot.reset with
    state := .lost, zone := some 4, cause := some .noAnswer, failed := 3, reseek := .running 10000000 }

theorem test_reseek_expiry :
    (after (.reseekExpiry 4) (busyLoop lostFive id)).loop.flight = some ⟨.identify 4 true, false⟩ ∧
    (after (.reseekExpiry 4) (busyLoop lostFive id)).now = 10000000 := by decide

theorem test_read_monitor :
    ((after (.readMonitor 5) (busyLoop { activeFive with late := true } id)).loop.slots.get 4).late = false ∧
    ((sentReply .officer (after (.readMonitor 5) (busyLoop { activeFive with late := true } id))).map fun r =>
      r.2) = some [0#8, 0#8, 1#8, 5#8, 2#8, 4#8, 0#8, 0#8, 1#8, 0#8, 0#8, 0#8, 0#8, 0#8] := by decide

/-- A unit's answers (R34, R35): a repeat of the fetch number gives the remembered record again. -/
theorem test_unit_repeats :
    let u : MonitorUnit := ⟨[recordAt 197 500, recordAt 198 510], true, none, 0x31, 1, 0#8⟩
    (u.answerFetch 0).2 = .fetched (some (recordAt 197 500)) ∧
    ((u.answerFetch 0).1.answerFetch 0).2 = .fetched (some (recordAt 197 500)) ∧
    ((u.answerFetch 0).1.answerFetch 1).2 = .fetched (some (recordAt 198 510)) ∧
    ((u.hearMark 201 (recordAt 0 520)).unread.getLast?.map MeasurementRecord.tag) = some 200 := by decide

/-! ## Zone accounts (Sections 4.8 and 8.3) -/

/-- Z2 at the closes of Section 4.8: limits 650 and 750, demand 10. -/
def zoneTwo : Zone := { Zone.reset with enabled := true, feed := .fed, demand := 10 }

theorem test_target_short_level : targetLevel 650 10 655 = 620 := by decide

theorem test_attack :
    steer zoneTwo.config 0 63 (demandBranch zoneTwo.config false 63 true) ⟨10, none, 0⟩ =
      ⟨12, some 5000000, 0⟩ ∧
    demandBranch zoneTwo.config false 61 false = .hold ∧
    demandBranch zoneTwo.config false (-8) false = .hold := by decide

theorem test_release :
    demandBranch zoneTwo.config false (-30) false = .release ∧
    steer zoneTwo.config 0 (-30) .release ⟨14, some 9, 0⟩ = ⟨14, some 9, 1⟩ ∧
    steer zoneTwo.config 0 (-40) .release ⟨14, some 9, 2⟩ = ⟨13, some 9, 0⟩ := by decide

theorem test_conditions :
    [nextCondition zoneTwo.config 650 648 .clear, nextCondition zoneTwo.config 650 652 .near,
      nextCondition zoneTwo.config 650 646 .over, nextCondition zoneTwo.config 650 645 .over,
      nextCondition zoneTwo.config 650 630 .near] = [.near, .over, .over, .near, .clear] := by decide

theorem test_fast_flag :
    [nextFast 10 ⟨false, 0⟩, nextFast (-50) ⟨true, 0⟩, nextFast (-60) ⟨true, 1⟩, nextFast (-70) ⟨true, 2⟩] =
    [⟨true, 0⟩, ⟨true, 1⟩, ⟨true, 2⟩, ⟨false, 0⟩] := by decide

theorem test_set_zone :
    codeOn .officer (after (.setZone 0 { noFields with warnMargin := some 30 }) (inShow State.reset)) = some 0#8 ∧
    codeOn .officer (after (.setZone 0 { noFields with guardBand := some 15, warnMargin := some 25 })
      (inShow State.reset)) = some 7#8 ∧
    ((after (.setZone 0 { noFields with window := some 99 }) State.reset).zones.get 0).config.window = 15 := by
  decide

theorem test_enable_zone :
    ((after (.enableZone 2) State.reset).zones.get 2).feed = .fed ∧
    noticeAt .officer 1 (after (.enableZone 2) State.reset) = true := by decide +kernel

theorem test_disable_zone :
    ((after (.disableZone 2) (withZone 2 fun _ => zoneTwo)).zones.get 2).demand = 0 ∧
    codeOn .officer (after (.disableZone 2) (inShow (withZone 2 fun _ => zoneTwo))) = some 7#8 := by decide +kernel

theorem test_read_zone :
    ((after (.readZone 2) (withZone 2 fun z => { z with
      conditions := ⟨.near, .clear⟩, snapshot := ⟨⟨.over, true⟩, ⟨.near, false⟩⟩ })).zones.get 2).snapshot =
        ⟨⟨.near, false⟩, ⟨.clear, false⟩⟩ := by decide

theorem test_settle_expiry :
    ((after (.settleExpiry 2) (withZone 2 fun z => { z with settle := some 5000000 })).zones.get 2).settle =
      none := by decide

/-! ## Stages (Sections 5.2, 5.7 and 5.8) -/

/-- S2 OPEN in SOFT mode at 4, coupled to Z1 at 100 and to Z5 at 40. -/
def stageTwo (target applied : Nat) (r : Option Ramp) : Stage :=
  { Stage.reset with
    record := { StageRecord.reset with coupling := ((Bank8.fill 0).set 1 100).set 5 40 }
    reasons := ⟨false, false, false⟩, gain := .opened, target := target, applied := applied, ramp := r }

theorem test_target_from_zones :
    targetOf { (withTime fun t => { t with state := .locked, source := .pps }) with
      zones := (((((Bank8.fill Zone.reset).set 0 { zoneTwo with demand := 3 }).set 1
        { zoneTwo with demand := 7, feed := .fallback, missingRun := 3 }).set 3 { zoneTwo with demand := 30 }).set 6
        { zoneTwo with demand := 50 })
      stages := (Bank4.fill Stage.reset).set 0 { Stage.reset with record := { StageRecord.reset with
        coupling := ⟨100, 60, 0, 25, 0, 0, 0, 80⟩, trim := 2 } } } 0 = 24 := by decide

theorem test_target_changes :
    (stageTwo 4 4 none).retarget 0 9 = stageTwo 9 4 (some ⟨.attack, 10000⟩) ∧
    (stageTwo 9 6 (some ⟨.attack, 30000⟩)).retarget 25000 7 = stageTwo 7 6 (some ⟨.attack, 30000⟩) ∧
    (stageTwo 7 7 none).retarget 100000 4 = stageTwo 4 7 (some ⟨.release, 350000⟩) ∧
    (stageTwo 4 6 (some ⟨.release, 600000⟩)).retarget 400000 8 = stageTwo 8 6 (some ⟨.attack, 410000⟩) := by
  decide

theorem test_ramp_expiry :
    (after (.rampExpiry 2) (withStage 2 fun _ => stageTwo 7 6 (some ⟨.attack, 30000⟩))).stages.get 2 =
      stageTwo 7 7 none ∧
    (after (.rampExpiry 2) (withStage 2 fun _ => stageTwo 4 7 (some ⟨.release, 350000⟩))).stages.get 2 =
      stageTwo 4 6 (some ⟨.release, 600000⟩) := by decide

theorem test_fade :
    ((after (.fade 2) { (withStage 2 fun _ => stageTwo 8 8 none) with now := 1000000 }).stages.get 2).ramp =
      some ⟨.fade, 1125000⟩ ∧
    ((after (.fade 2) (withStage 2 fun _ => stageTwo 8 8 none)).stages.get 2).gain = .fading := by decide

theorem test_fade_step :
    (({ stageTwo 8 12 (some ⟨.fade, 1250000⟩) with
        gain := .fading, target := 12, reasons := ⟨false, true, false⟩ } : Stage).rampStep 1250000 .fade).applied =
      13 := by decide

theorem test_release_request :
    ((after (.release 2) { (withStage 2 fun _ => { stageTwo 12 13 (some ⟨.fade, 1375000⟩) with
        gain := .fading, reasons := ⟨false, true, false⟩ }) with now := 1300000 }).stages.get 2).ramp =
      some ⟨.resume, 1350000⟩ ∧
    ((after (.release 0) State.reset).stages.get 0).gain = .resuming := by decide

theorem test_mute_now :
    ((after (.muteNow 2) (withStage 2 fun _ => stageTwo 8 8 none)).stages.get 2).applied = 96 ∧
    noticeAt (.desk 2) 1 (after (.muteNow 2) (withStage 2 fun _ => stageTwo 0 0 none)) = true := by decide

theorem test_set_stage :
    codeOn .officer (after (.setStage 1 { noStageFields with failsafe := some 23 }) (inShow State.reset)) =
      some 7#8 ∧
    ((after (.setStage 1 { noStageFields with failsafe := some 99 }) (inShow State.reset)).stages.get 1).target =
      96 := by decide

theorem test_set_coupling :
    codeOn .officer (after (.setCoupling 1 2 40) (zoneNight 80999)) = some 7#8 ∧
    (((after (.setCoupling 1 2 80) (zoneNight 80999)).stages.get 1).record.coupling.get 2) = 80 := by decide

/-- A stage MUTED by a curfew at target 96 loses its coupling to the one zone: the target falls at once, so the stage
comes back RESUMING from 96 (R89, R93, R97). -/
theorem test_set_coupling_falls :
    let s := ((zoneNight 82800).onStage 1 fun g => { g with
      reasons := ⟨false, false, true⟩, gain := .muted, target := 96, applied := 96 }).onCurfew 1 fun c =>
        { c with zones := (Bank8.fill false).set 2 true, onsetTag := some 0 }
    let t := (after (.setCoupling 1 2 0) { s with mode := .setup }).stages.get 1
    t.target = 0 ∧ t.gain = .resuming ∧ t.applied = 96 ∧ t.reasons = ⟨false, false, false⟩ := by decide +kernel

/-! ## The curfew unit (Section 6.9) -/

/-- Z2 enabled and coupled to S1 and S3, both OPEN, at a time of day and a tag, with a pool. -/
def contest (tod tag pool : Nat) : State :=
  let l : List Segment := [⟨0, .play, 1300, 1300⟩, ⟨630, .play, 650, 700⟩, ⟨660, .curfew 550 600, 450, 500⟩]
  let s := (((withTime fun t => { t with
    state := .free, timeOfDay := tod, tag := tag }).onZone 2 fun _ =>
      { zoneTwo with demand := 0, conditions := ⟨.near, .clear⟩ }).onTable 2
        fun _ => ⟨l, segmentAt l (some (minuteOf tod))⟩)
  let open_ (c a : Nat) (_ : Stage) : Stage := { Stage.reset with
    record := { StageRecord.reset with coupling := (Bank8.fill 0).set 2 c }
    reasons := ⟨false, false, false⟩, gain := .opened, target := a, applied := a }
  { (s.onStage 1 (open_ 60 4)).onStage 3 (open_ 40 6) with pool := pool }

theorem test_encore_books :
    ((after (.encore 1 4) (contest 82620 4820 3)).curfew.get 1).grant = .booked 3 ∧
    (after (.encore 1 4) (contest 82620 4820 3)).pool = 0 ∧
    codeOn (.desk 3) (after (.encore 3 2) (contest 82620 4820 0)) = some 0x0A#8 := by decide

/-- Step 3: the onset starts S1's booking and takes S3 down. -/
theorem test_onset_starts_booking :
    let s := (contest 82800 5000 0).onCurfew 1 fun c => { c with grant := .booked 3, total := 3 }
    ((s.zoneOnset 2).curfew.get 1).grant = .running 3 5180 ∧
    ((s.zoneOnset 2).stages.get 3).gain = .fading ∧ ((s.zoneOnset 2).stages.get 3).reasons.curfew = true ∧
    limitsInForce (s.zoneOnset 2) 2 = ⟨550, 600⟩ := by decide

/-- Two stages leave their curfew by a disabling, S1 told by the curfew unit first and S3 by its own new target
first: the order is each stage's own (R60, log entry 5). -/
theorem test_disable_order_per_stage :
    let s := ((contest 82800 5000 0).zoneOnset 2).onStage 1 fun g => { g with applied := 96, gain := .muted }
    let t := afterWith { plain with curfewFirst := ⟨false, true, false, false⟩ } (.disableZone 2) s
    (t.stages.get 1).reasons.curfew = false ∧ (t.stages.get 3).reasons.curfew = false ∧
    (t.stages.get 1).gain = .resuming ∧ (t.stages.get 3).target = targetOf t 3 := by decide +kernel

/-- S3 in curfew since tag 5000, at a later tag with a pool. -/
def inCurfewAt (tag pool : Nat) : State :=
  ((contest 82800 tag pool).onCurfew 3 fun c => { c with
    zones := (Bank8.fill false).set 2 true, onsetTag := some 5000 }).onStage 3 fun g => { g with
      reasons := ⟨false, false, true⟩, gain := .muted, applied := 96 }

theorem test_encore_late :
    codeOn (.desk 3) (after (.encore 3 2) (inCurfewAt 5060 0)) = some 0x0A#8 ∧
    codeOn (.desk 3) (after (.encore 3 2) (inCurfewAt 5150 0)) = some 0x0B#8 ∧
    ((after (.encore 3 2) (inCurfewAt 5060 5)).curfew.get 3).grant = .running 2 5180 ∧
    ((after (.encore 3 2) (inCurfewAt 5060 5)).stages.get 3).gain = .resuming := by decide

/-- S1's running grant at a tag. -/
def runningAt (tag : Nat) : State :=
  (contest 82800 tag 0).onCurfew 1 fun c => { c with
    zones := (Bank8.fill false).set 2 true, onsetTag := some 5000, grant := .running 3 5180, total := 3 }

theorem test_grant_marks :
    ((runningAt 5120).grantMarks.curfew.get 1).endSoon = true ∧
    noticeAt (.desk 1) 4 (runningAt 5120).grantMarks = true ∧
    ((runningAt 5119).grantMarks.curfew.get 1).endSoon = false ∧
    ((runningAt 5180).grantMarks.curfew.get 1).grant = .none ∧
    ((runningAt 5180).grantMarks.stages.get 1).gain = .fading := by decide

theorem test_encore_end :
    (after (.encoreEnd 1) (runningAt 5060)).pool = 2 ∧
    ((after (.encoreEnd 1) (runningAt 5060)).stages.get 1).reasons.curfew = true ∧
    codeOn (.desk 3) (after (.encoreEnd 3) (runningAt 5060)) = some 8#8 := by decide

theorem test_set_pool :
    (after (.setPool 5) (runningAt 5030)).pool = 5 ∧
    ((after (.setPool 5) (runningAt 5030)).curfew.get 1).total = 0 ∧
    ((after (.setPool 5) (runningAt 5030)).curfew.get 1).grant = .running 3 5180 := by decide

/-- Desks that ask together are served in stage order, the officer after them (R125): requests that come as rows, as
the bytes of a message, or out of the pending place when a sending ends; what comes from no link keeps its place. -/
theorem test_arbiter_order :
    arbiterOrder [.setPool 3, .expectedPoint, .encore 3 2, .encore 1 4] =
      [.encore 1 4, .expectedPoint, .encore 3 2, .setPool 3] ∧
    arbiterOrder [.messageSent (.desk 3), .encore 3 2,
        .messageEnd (.desk 1) ([0xA5#8, 2#8, 4#8, 4#8, 0xF6#8].map LineByte.sound)] =
      [.messageEnd (.desk 1) ([0xA5#8, 2#8, 4#8, 4#8, 0xF6#8].map LineByte.sound), .messageSent (.desk 3),
        .encore 3 2] := by decide

/-- Two desks ask for more than the pool holds while their links are SENDING, and their sendings then end: S1 takes
what there is, though DL3's commands stand first (R125). -/
theorem test_arrive_together :
    let busy (k : LinkInterface) : LinkInterface := { k with transmitter := some [0xA5#8] }
    let s := ((contest 82620 4820 3).onLink (.desk 3) busy).onLink (.desk 1) busy
    let s := s.arriveTogether [.messageSent (.desk 3), .encore 3 2, .encore 1 4, .messageSent (.desk 1)]
    let t := s.pending.foldl (fun s c => after c s) s
    (t.curfew.get 1).grant = .booked 3 ∧ (t.curfew.get 3).grant = .none := by decide +kernel

/-! ## SHOW and RESTART (Section 11.7) -/

def overReport : CloseReport :=
  ⟨3, 1202, some 655, false, 10, ⟨650, 750⟩, ⟨656, 500⟩, ⟨760, 500⟩, ⟨.over, .clear⟩, ⟨true, false⟩⟩

def closedRecord (n : Nat) : Exceedance :=
  ⟨n, 1, .broad, .rolling, 0, none, 650, 1, 0, 651, 0, Bank4.fill false, none, some .cleared⟩

def openRecord (n : Nat) : Exceedance :=
  ⟨n, 3, .broad, .rolling, 1201, some 655, 650, 1, 0, 652, 6, ⟨true, false, false, false⟩, none, none⟩

def armable : State :=
  { withTime fun t => { t with state := .free, timeOfDay := 64800 } with
    zones := (Bank8.fill Zone.reset).set 0 zoneTwo
    loop := { Loop.reset with
      slots := Loop.reset.slots.set 0 { UnitSlot.reset with state := .active, zone := some 0 } } }

theorem test_arm_show :
    sentReply .officer (after .armShow (withZone 2 fun _ => zoneTwo)) =
      some (0x9F#8, [8#8, 0#8, 1#8, 4#8]) ∧
    (after .armShow armable).mode = .show := by decide

theorem test_end_show :
    (after .endShow (inShow (runningAt 5060))).mode = .setup ∧
    sentReply .officer (after .endShow (inShow (runningAt 5060))) =
      some (0xA0#8, [0#8, 0#8, 1#8, 0#8]) := by decide

theorem test_restart :
    codeOn .officer (after .restart (inShow armable)) = some 7#8 ∧
    (after .restart armable).loop.slotState 0 = .seeking ∧
    ((after .restart armable).stages.get 1).reasons = ⟨true, false, false⟩ := by decide +kernel

/-- A report of Z3 that opened record 21 is overtaken by a RESTART of its moment (R155): its pairs open records in the
empty list, numbered from the counter as it stood before it. -/
theorem test_restart_overtakes_report :
    let s := { armable with
      exceedances := ⟨[closedRecord 20, openRecord 21], 22⟩, reports := [⟨0, overReport, 1, Bank4.fill false⟩] }
    let t := afterWith { plain with overtaken := Bank8.fill true } .restart s
    (t.exceedances.records.map fun r => (r.number, r.duration, r.cause)) = [(21, 1, none), (22, 1, none)] ∧
    t.exceedances.counter = 23 ∧ t.links.officer.noticeSet = 8#16 ∧
    (after .restart s).exceedances = ⟨[], 22⟩ := by decide +kernel

/-- A READ RECORDS that has shown record 21 ends the keeping of its report: a RESTART of the same moment after it empties
the list and keeps the counter (R155, log entry 40). -/
theorem test_restart_after_read_records :
    let s := { armable with
      exceedances := ⟨[closedRecord 20, openRecord 21], 22⟩, reports := [⟨0, overReport, 1, Bank4.fill false⟩] }
    let t := afterWith { plain with overtaken := Bank8.fill true } .restart
      (after (.messageSent .officer) (after (.readRecords 0 8) s))
    t.exceedances = ⟨[], 22⟩ ∧ t.links.officer.noticeSet = 0#16 := by decide +kernel

/-! ## Audio paths (Sections 7.7 and 7.8) -/

def frameOf (x : Int) : Frame := Bank8.fill x

/-- S2's path with D of 4 and follow-strobe on. -/
def pathTwo (f : Path → Path) : State :=
  (withPath 2 fun p => f { p with delay := 4, followStrobe := true }).onStage 2 fun _ => stageTwo 0 0 none

/-- The samples 1 and -2 and the least one, most significant bit first, channel 0 first (R127). -/
theorem test_frame_bits :
    sampleBits 1 = List.replicate 23 false ++ [true] ∧ sampleBits (-2) = List.replicate 23 true ++ [false] ∧
    sampleOfBits (true :: List.replicate 23 false) = -8388608 ∧
    (frameBits ((Bank8.fill 0).set 1 (-2))).take 49 =
      List.replicate 24 false ++ List.replicate 23 true ++ [false, false] ∧
    arrivalOfBits 2 (frameBits (frameOf (-7))) true = some (.frameArrival 2 (frameOf (-7)) true) ∧
    frameOfBits [true] = none := by decide +kernel

theorem test_enable_path :
    ((after (.enablePath 2) (pathTwo id)).paths.get 2).state = .aligning ∧
    ((after (.enablePath 2) (pathTwo id)).paths.get 2).watch = .present 1000 := by decide

def fillingTwo : State := pathTwo fun p => { p with
  state := .aligning, watch := .present 1000, buffer := [frameOf 1, frameOf 2, frameOf 3], writeIndex := some 2 }

theorem test_fill_completes :
    ((after (.frameArrival 2 (frameOf 4) false) fillingTwo).paths.get 2).state = .running ∧
    ((after (.frameArrival 2 (frameOf 4) false) fillingTwo).paths.get 2).writeIndex = some 3 := by decide

def runningTwo : State := pathTwo fun p => { p with
  state := .running, watch := .present 1000, buffer := [frameOf 7, frameOf 8, frameOf 9], writeIndex := some 8 }

theorem test_strobe_slip :
    ((after (.frameArrival 2 (frameOf 10) true) runningTwo).paths.get 2).state = .aligning ∧
    ((after (.frameArrival 2 (frameOf 10) true) runningTwo).paths.get 2).buffer = [frameOf 10] ∧
    ((after (.frameArrival 2 (frameOf 10) true) runningTwo).paths.get 2).alarms = ⟨false, false, true, false⟩ ∧
    noticeAt (.desk 2) 5 (after (.frameArrival 2 (frameOf 10) true) runningTwo) = true := by decide

theorem test_output_frame :
    ((after .outputFrameEvent runningTwo).paths.get 2).sent = frameOf 7 ∧
    ((after .outputFrameEvent runningTwo).paths.get 2).buffer = [frameOf 8, frameOf 9] := by decide

theorem test_output_underflow :
    ((after .outputFrameEvent (pathTwo fun p => { p with
      state := .running, writeIndex := some 0, watch := .present 9 })).paths.get 2).alarms.underflow =
        true := by decide

theorem test_no_signal_expiry :
    ((after (.noSignalExpiry 2) runningTwo).paths.get 2).watch = .absent ∧
    ((after (.noSignalExpiry 2) runningTwo).paths.get 2).alarms.noSignal = true := by decide

def deadTwo : State := pathTwo fun p => { p with
  state := .running, writeIndex := some 0, watch := .absent, alarms := ⟨false, true, false, true⟩ }

theorem test_clear_alarms :
    ((after (.clearAlarms 2 0x0A#8) deadTwo).paths.get 2).alarms = ⟨false, false, false, true⟩ ∧
    codeOn .officer (after (.clearAlarms 2 0x10#8) deadTwo) = some 3#8 := by decide

theorem test_align_path :
    ((after (.alignPath 2) runningTwo).paths.get 2).buffer = [] ∧
    codeOn .officer (after (.alignPath 2) (pathTwo id)) = some 8#8 := by decide

theorem test_disable_path :
    ((after (.disablePath 2) runningTwo).paths.get 2).watch = .notWatched ∧
    ((after (.disablePath 2) runningTwo).paths.get 2).writeIndex = none := by decide

theorem test_set_path :
    ((after (.setPath 2 ⟨some 3, none, none, false⟩) fillingTwo).paths.get 2).state = .running ∧
    ((after (.setPath 2 ⟨some 99, none, some 0, false⟩) (pathTwo id)).paths.get 2).delay = 30 := by decide

/-! ## Records (Sections 8.3 and 8.5) -/

/-- Tag 1202 of Section 8.3: record 21 is updated and record 22 opened. -/
theorem test_take_report :
    let s := { (withStage 0 fun _ => stageTwo 4 4 none) with exceedances := ⟨[openRecord 21], 22⟩ }
    ((s.takeReport overReport).exceedances.records.map fun r => (r.number, r.duration, r.peakLevel)) =
      [(21, 2, 656), (22, 1, 760)] := by decide

theorem test_full_list :
    let s := { State.reset with exceedances := ⟨openRecord 3 :: (List.range 47).map closedRecord, 149⟩ }
    ((s.takeReport { overReport with fast := ⟨true, false⟩ }).exceedances.records.length = 48) ∧
    ((s.takeReport overReport).exceedances.records.getLast?.map Exceedance.number) = some 149 ∧
    noticeAt .officer 5 (s.takeReport overReport) = true := by decide

theorem test_read_records :
    ((sentReply .officer (after (.readRecords 0 0)
      { State.reset with exceedances := ⟨[openRecord 21], 22⟩ })).map fun r => r.2.length) = some 28 := by decide

theorem test_clear_closed :
    (after .clearClosed { State.reset with
      exceedances := ⟨[closedRecord 1, openRecord 2, closedRecord 3], 4⟩ }).exceedances.records =
        [openRecord 2] := by decide

/-! ## Links (Sections 9.2, 10.4 and R160) -/

def soundBytes (l : List Byte) : List LineByte := l.map LineByte.sound

/-- DL1 SENDING with ZONE VIEW held and two rejects owed: step 4 of the burst. -/
def burst : State := withLink (.desk 1) fun k => { k with
  transmitter := some [0xA5#8], held := some .zoneView, owed := [.busy, .format] }

theorem test_message_end :
    (sentReply (.desk 1) (after (.messageEnd (.desk 1) (soundBytes [0xA5#8, 1#8, 1#8, 0xFE#8]))
      State.reset)).map Prod.fst = some 0x81#8 ∧
    (after (.messageEnd (.desk 1) (soundBytes [0xA5#8, 1#8, 1#8, 0xFF#8])) State.reset).links.desk.i1.transmitter =
      some [0xA5#8, 2#8, 0xFF#8, 2#8, 0xFD#8] := by decide

/-- 0xA5 has four ones: start bit, data bits from the least significant on, an even parity bit of 0, stop bit; 0x01
has a parity bit of 1 (R156). -/
theorem test_line_bits :
    (LineByte.sound 0xA5#8).bits = [false, true, false, true, false, false, true, false, true, false, true] ∧
    lineBits [1#8] = [false, true, false, false, false, false, false, false, false, true, true] ∧
    LineByte.ofBits [false, true, false, false, false, false, false, false, false, false, true] =
      some ⟨1#8, false, true⟩ ∧
    (⟨1#8, false, true⟩ : LineByte).lineError = true ∧ burst.links.desk.i1.lineOut.length = 11 := by decide

theorem test_message_line_error :
    (after (.messageEnd (.desk 1) [.sound 0xA5#8, .sound 1#8, ⟨1#8, true, false⟩, .sound 0xFE#8])
      State.reset).links.desk.i1.transmitter = some [0xA5#8, 2#8, 0xFF#8, 1#8, 0xFE#8] := by decide

theorem test_bad_length :
    (after (.badLength .officer (soundBytes [0xA5#8, 0xF1#8])) State.reset).links.officer.transmitter =
      some [0xA5#8, 2#8, 0xFF#8, 2#8, 0xFD#8] := by decide

theorem test_inter_byte_gap :
    (after (.interByteGap .officer (soundBytes [0xA5#8, 3#8, 0x11#8])) State.reset).links.officer.transmitter =
      some [0xA5#8, 2#8, 0xFF#8, 1#8, 0xFE#8] := by decide

theorem test_length_error_idle :
    (after (.lengthErrorIdle .officer [.sound 0xA5#8, ⟨3#8, true, true⟩, .sound 1#8])
      State.reset).links.officer.transmitter = some [0xA5#8, 2#8, 0xFF#8, 1#8, 0xFE#8] := by decide

theorem test_break :
    (after (.breakLine (.desk 1) []) burst).links.desk.i1.held = none ∧
    (after (.breakLine (.desk 1) []) burst).links.desk.i1.owed = [] := by decide

theorem test_message_sent :
    (after (.messageSent (.desk 1)) burst).links.desk.i1.transmitter = some (rejectFrame .busy) ∧
    (after (.messageSent (.desk 1)) burst).links.desk.i1.owed = [.format] ∧
    (after (.messageSent (.desk 1)) burst).links.desk.i1.held = some .zoneView := by decide

theorem test_stage_status :
    (after (.stageStatus 1) burst).links.desk.i1.owed = [.busy, .format] ∧
    ((sentReply (.desk 1) (after (.stageStatus 1) State.reset)).map fun r => r.2.take 8) =
      some [0#8, 1#8, 3#8, 1#8, 96#8, 24#8, 0#8, 0#8] := by decide

theorem test_zone_view :
    ((sentReply (.desk 1) (after (.zoneView 1) (zoneNight 80999))).map fun r => r.2) =
      some [0#8, 1#8, 2#8, 0#8, 0#8, 0#8, 0x80#8, 0#8, 0x80#8, 0#8, 0#8, 0#8] := by decide

theorem test_unknown_and_forbidden :
    sentReply .officer (after (.unknownKind .officer 0x66#8) State.reset) = some (0xFE#8, [1#8, 0x66#8]) ∧
    sentReply (.desk 0) (after (.forbidden (.desk 0) 0x11#8) State.reset) = some (0x91#8, [2#8]) := by decide

/-- Step 1 of Section 10.4: DL3 with ATTENUATING pending, S3's next onset 20 minutes off. -/
def deskThree : State :=
  (contest 81600 0 0).onLink (.desk 3) (LinkInterface.raise 1)

def warnings : SetDeskFields := ⟨none, some 25, some 0x1D#8, some [2, 255, 1, 0, 0, 255], false⟩

theorem test_set_desk :
    (after (.setDesk 3 warnings) deskThree).links.desk.i3.noticeSet = 6#16 ∧
    (after (.setDesk 3 warnings) deskThree).links.desk.i3.topKind = some 2 ∧
    (after (.setDesk 3 warnings) deskThree).links.desk.i3.alert = true ∧
    ((after (.setDesk 3 warnings) deskThree).curfew.get 3).soonMinute = some 660 := by decide

def warned : LinkInterface :=
  { LinkInterface.reset 6 with
    noticeSet := 6#16, enables := 0x1D#16, priorities := [2, 0, 1, 0, 0, 0], alert := true }

theorem test_read_notices :
    sentReply (.desk 3) (after (.readNotices (.desk 3)) (withLink (.desk 3) fun _ => warned)) =
      some (0x86#8, [0#8, 6#8, 0x1D#8, 2#8, 0#8, 1#8, 0#8, 0#8, 0#8, 2#8]) := by decide

theorem test_ack_notices :
    (after (.ackNotices (.desk 3) 4#16) (withLink (.desk 3) fun _ => warned)).links.desk.i3.noticeSet = 2#16 ∧
    (after (.ackNotices (.desk 3) 4#16) (withLink (.desk 3) fun _ => warned)).links.desk.i3.alert = false ∧
    codeOn (.desk 3) (after (.ackNotices (.desk 3) 0x44#16) (withLink (.desk 3) fun _ => warned)) =
      some 3#8 := by decide

theorem test_set_notices :
    (after (.setNotices 3 ⟨some 2#16, none, false⟩) (withLink (.desk 3) fun _ => warned)).links.desk.i3.topKind =
      some 1 ∧
    codeOn .officer (after (.setNotices 5 ⟨none, none, false⟩) State.reset) = some 4#8 := by decide

/-! ## Steps -/

theorem test_step_takes_front :
    step { State.reset with orders := [plain], pending := [.setPool 7, .armShow] } =
      .next { after (.setPool 7) State.reset with pending := [.armShow] } := rfl

theorem test_idle_step_marks :
    (match step { State.reset with orders := [plain] } with
      | .next t => t.timeBase.tag
      | _ => 0) = 1 := by decide

/-! ## Witnesses: for each obligation, states and operands that meet its hypotheses, clause by clause -/

theorem witness_StepRunsFrontCommand :
    ({ State.reset with pending := [.setPool 7, .armShow] } : State).pending = .setPool 7 :: [.armShow] := rfl

theorem witness_IdleStepTakesEarliestTimer : State.reset.pending = [] := rfl

theorem witness_EveryCommandCompletes : Instr.armShow ≠ .powerOn ∧ movesTime .armShow = false := by decide

theorem witness_ConversionsAreMatched :
    (1024 ≤ 2 ^ 40 ∧ within 400 1300 400 ∧ levelToEnergy 400 ≤ 1024) ∧
    (within 400 1300 1300 ∧ 2 ^ 40 ≤ levelToEnergy 1300) := by decide

theorem witness_CollectionLevelLiesBetweenMembers :
    ([400, 1300, 707] : List Nat) ≠ [] ∧ ∀ x ∈ ([400, 1300, 707] : List Nat), 400 ≤ x ∧ x ≤ 1300 := by decide

theorem witness_WeightingOfDemand :
    0 < 100 ∧ 4150 ≤ 100 * 42 ∧ 96 ≤ 96 ∧ 100 ≤ 100 ∧ 1 ≤ 96 ∧ 1 ≤ 1 ∧ 50 ≤ 96 := by decide

theorem witness_GainsFallAndSamplesNeverGrow :
    84 ≤ 84 ∧ 95 < 96 ∧ Stage.reset.applied ≤ 96 ∧ (-8388608 : Int) ≤ (Frame.silence).get 0 ∧
    (-8388608 : Int) ≤ -8388608 ∧ (8388607 : Int) ≤ 8388607 := by decide

theorem witness_ExpectedPointIssuesMark :
    State.reset.timeBase.state = .unset ∧ loopBusy State.reset.loop ∧ State.reset.loop.flight = none ∧
    loopBusy identifying.loop ∧ identifying.loop.flight ≠ none ∧ identifying.timeBase.source = .internal := by decide

theorem witness_MissingPulsesKeepPhaseThenLoseLock :
    late.timeBase.source = .pps ∧ late.timeBase.state ≠ .unset ∧ State.reset.timeBase.source = .internal ∧
    emptied.timeBase.state = .locked ∧ emptied.timeBase.firstEmpty = some 7100400 ∧
    late.timeBase.firstEmpty = none := by decide

/-- Both ends of the window around 1000000, a moment outside each, and both sides of half a second. -/
theorem witness_PulseFollowsWhereItFalls :
    State.reset.timeBase.source = .internal ∧ steered.timeBase.source = .pps ∧ steered.timeBase.state ≠ .unset ∧
    (∀ m ∈ [999000, 1001000], steered.now ≤ m ∧ steered.timeBase.expected ≤ m + 1000 ∧
      m ≤ steered.timeBase.expected + 1000) ∧
    (∀ m ∈ [500000, 998999, 1001001], ¬(steered.timeBase.expected ≤ m + 1000 ∧
      m ≤ steered.timeBase.expected + 1000) ∧ steered.timeBase.lastMark + 500000 ≤ m) ∧
    499999 < steered.timeBase.lastMark + 500000 := by decide

theorem witness_SetTimeRequest :
    idle .officer State.reset ∧ 86399 < 86400 ∧ State.reset.timeBase.state = .unset ∧
    idle .officer (inShow steered) ∧ (inShow steered).mode = .show ∧
    120 < min (((80121 : Nat) : Int) - (inShow steered).timeBase.timeOfDay).natAbs
      (86400 - (((80121 : Nat) : Int) - (inShow steered).timeBase.timeOfDay).natAbs) ∧
    min (((80120 : Nat) : Int) - (inShow steered).timeBase.timeOfDay).natAbs
      (86400 - (((80120 : Nat) : Int) - (inShow steered).timeBase.timeOfDay).natAbs) ≤ 120 := by decide

/-- Source INTERNAL, the last pulse two seconds old. -/
def pulsed : State := { withTime (fun t => { t with lastPulse := some 0 }) with now := 2000000 }

theorem witness_SelectSourceRequest :
    idle .officer pulsed ∧ pulsed.timeBase.source = .internal ∧
    (∀ p ∈ pulsed.timeBase.lastPulse, pulsed.now ≤ p + 2000000) ∧
    (∀ p ∈ ({ pulsed with now := 2000001 } : State).timeBase.lastPulse, p + 2000000 < 2000001) ∧
    idle .officer locked ∧ locked.timeBase.source = .pps ∧ ¬locked.timeBase.expected ≤ locked.now ∧
    ({ locked with now := 3000400 } : State).timeBase.expected ≤ 3000400 := by decide

/-- Z2's four segments at 22:45:00 in SETUP, and a full table. -/
def setupNight : State := { zoneNight 81900 with mode := .setup }

def fullTable : State :=
  State.reset.onTable 2 fun _ =>
    ⟨(List.range 8).map fun i => ⟨100 * i, .play, 700, 700⟩, ⟨0, .play, 700, 700⟩⟩

theorem witness_InsertSegmentRequest :
    idle .officer setupNight ∧ idle .officer (zoneNight 81900) ∧ (zoneNight 81900).mode = .show ∧
    playFields.spareBits = false ∧ playFields.kind ≤ 1 ∧
    (∃ h ∈ (setupNight.tables.get 2).segments, h.start = 630) ∧
    (fullTable.tables.get 2).segments.length = 8 ∧
    (∀ h ∈ (fullTable.tables.get 2).segments, h.start ≠ 630) ∧
    (setupNight.tables.get 2).segments.length < 8 ∧
    (∀ p ∈ (zoneNight 81900).minute, 645 ≤ p) ∧ (∃ p ∈ (zoneNight 81900).minute, p < 646) ∧
    (∀ h ∈ (setupNight.tables.get 2).segments, h.start ≠ 645 ∧ h.start ≠ 646) ∧
    (segmentAt ((zoneNight 81900).tables.get 2).segments (some 646)).broad = 650 := by decide

theorem witness_EditAndDeleteSegmentRequests :
    idle .officer setupNight ∧ idle .officer (zoneNight 81970) ∧ noEdit.spareBits = false ∧
    (∀ n ∈ noEdit.kind, n ≤ 1) ∧
    segmentStarting (setupNight.tables.get 2).segments 630 = some ⟨630, .play, 650, 700⟩ ∧
    segmentStarting (setupNight.tables.get 2).segments 0 = some ⟨0, .play, 1300, 1300⟩ ∧
    ((setupNight.tables.get 2).segments.map Segment.start).Nodup ∧
    (∀ h ∈ (setupNight.tables.get 2).segments, h.start ≠ 631) := by decide

theorem witness_ReadsAnswerAndClear :
    (∀ d : StageId, idle (.desk d) State.reset) ∧ idle .officer State.reset ∧
    State.reset.links.officer.priorities.length = linkKinds .officer := by decide

/-- A loop for each class of the arbiter in turn. -/
def markWaiting : Loop := { Loop.reset with pendingMark := some 7 }

def resetWaiting : Loop := { Loop.reset with pendingReset := true }

def slotLoop (a : SlotId) (u : UnitSlot) (c : Option Scan) (latn : Bool) : Loop :=
  { Loop.reset with slots := Loop.reset.slots.set a u, scan := c, latn := latn }

def probing : UnitSlot := { lostFive with reseek := .probeDue }

theorem witness_ArbiterFollowsClassOrder :
    identifying.loop.flight ≠ none ∧
    (markWaiting.flight = none ∧ markWaiting.pendingMark = some 7) ∧
    (resetWaiting.flight = none ∧ resetWaiting.pendingMark = none ∧ resetWaiting.pendingReset = true) ∧
    ((slotLoop 7 seekingFive none false).slotState 7 = .seeking ∧
      ∀ b : SlotId, b < 7 → (slotLoop 7 seekingFive none false).slotState b ≠ .seeking) ∧
    ((∀ b : SlotId, (slotLoop 7 probing none false).slotState b ≠ .seeking) ∧
      (slotLoop 7 probing none false).slotState 7 = .lost ∧
      ((slotLoop 7 probing none false).slots.get 7).reseek = .probeDue) ∧
    (∀ a : SlotId, Loop.reset.slotState a = .lost → (Loop.reset.slots.get a).reseek ≠ .probeDue) := by
  decide

/-- A scan behind an identification transaction, and one that may be started so. -/
def behindIdentification (u : UnitSlot) : Loop :=
  { slotLoop 7 u (some ⟨0, .status⟩) true with
    slots := (Loop.reset.slots.set 7 u).set 6 activeFive, identifyFirst := true }

theorem witness_ArbiterFollowsClassOrder_scan :
    (behindIdentification seekingFive).settleScan = behindIdentification seekingFive ∧
    ((behindIdentification probing).slotState 7 = .lost ∧
      ((behindIdentification probing).slots.get 7).reseek = .probeDue ∧
      (behindIdentification probing).settleScan = behindIdentification probing ∧
      ∀ b : SlotId, (behindIdentification probing).slotState b ≠ .seeking) ∧
    (slotLoop 7 activeFive (some ⟨3, .status⟩) false).settleScan.scan = some ⟨7, .status⟩ ∧
    (slotLoop 7 activeFive (some ⟨7, .fetch 1 none⟩) false).settleScan.scan = some ⟨7, .fetch 1 none⟩ ∧
    (slotLoop 7 activeFive (some ⟨7, .fetch 4 (some 255)⟩) false).settleScan.scan =
      some ⟨7, .fetch 4 (some 255)⟩ := by decide

/-- Where a scan stands: behind identification work or not, at its own slot, past it with fetches left or with none,
past address 8 with LATN low or held, and then with identification work waiting or not. -/
theorem witness_ArbiterFollowsClassOrder_settle :
    (behindIdentification seekingFive).identification ≠ none ∧
    (behindIdentification activeFive).identification = none ∧
    ((slotLoop 7 activeFive (some ⟨7, .status⟩) false).slotState 7 = .active ∧
      ∀ b : SlotId, 7 ≤ b.val → b < 7 →
        (slotLoop 7 activeFive (some ⟨7, .status⟩) false).slotState b ≠ .active) ∧
    ((slotLoop 7 activeFive (some ⟨7, .fetch 0 none⟩) false).settleScan.scan = none ∧
      (slotLoop 7 activeFive (some ⟨8, .status⟩) false).settleScan.scan = none) ∧
    (∀ a : SlotId, a.val = 6 → (slotLoop 7 activeFive (some ⟨6, .fetch 1 none⟩) false).slotState a ≠ .active) ∧
    (∀ a : SlotId, 8 ≤ a.val → (slotLoop 7 activeFive (some ⟨8, .status⟩) true).slotState a ≠ .active) ∧
    (slotLoop 7 activeFive (some ⟨8, .status⟩) true).identification = none ∧
    (slotLoop 7 activeFive (some ⟨8, .status⟩) true).settleScan.scan = some ⟨7, .status⟩ ∧
    (busyLoop seekingFive fun k => { k with scan := some ⟨8, .status⟩, latn := true }).loop.identification ≠
      none ∧
    (busyLoop seekingFive fun k => { k with scan := some ⟨8, .status⟩, latn := true }).loop.settleScan.scan =
      some ⟨0, .status⟩ ∧
    (∀ a : SlotId, (slotLoop 7 seekingFive (some ⟨8, .status⟩) true).slotState a ≠ .active) := by decide

theorem witness_LatnAndBroadcastEnds :
    (busyLoop activeFive id).loop.scan = none ∧ (busyLoop activeFive id).loop.pendingReset = false ∧
    (withLoop fun k => { k with flight := some ⟨.mark 201, false⟩ }).loop.flight =
      some ⟨.mark 201, false⟩ ∧
    (withLoop fun k => { k with flight := some ⟨.loopReset, false⟩ }).loop.flight =
      some ⟨.loopReset, false⟩ ∧
    fetchThree.loop.flight = some ⟨.fetch 2 41, false⟩ ∧ (Transaction.fetch 2 41).slot ≠ none ∧
    State.reset.loop.flight = none := by decide

def probingFive : State := busyLoop lostFive fun k => { k with flight := some ⟨.identify 4 true, false⟩ }

theorem witness_IdentifyReplyMovesSlot :
    identifying.loop.flight = some ⟨.identify 4 false, false⟩ ∧
    probingFive.loop.flight = some ⟨.identify 4 true, false⟩ := by decide

/-- The distances 1, 32767, 0 and 32768 behind the awaiting second 199. -/
theorem witness_ScanRepliesFeedZones :
    (busyLoop activeFive fun k => { k with flight := some ⟨.status 4, false⟩ }).loop.flight =
      some ⟨.status 4, false⟩ ∧
    4 < 5 ∧ 4 ≤ 4 ∧ (fetching 200).loop.flight = some ⟨.fetch 4 0, false⟩ ∧
    (fetching 200).loop.scan = some ⟨4, .fetch 3 none⟩ ∧
    ((fetching 200).loop.slots.get 4).zone = some 4 ∧ ((fetching 200).zones.get 4).enabled = true ∧
    ((fetching 200).zones.get 4).awaiting = some ⟨199, true, none⟩ ∧
    [198, 32968, 199, 32967].map (fun tag => (199 + 65536 - tag % 65536) % 65536) = [1, 32767, 0, 32768] ∧
    1500 < (recordAt 199 1501).broadRaw ∧ (recordAt 199 1500).broadRaw ≤ 1500 := by decide

def failedTwice : State := fetchThree.onLoop (Loop.onSlot 2 fun u => { u with failed := 2 })

theorem witness_FailedAttemptsCount :
    byteSum [1#8] ≠ 0#8 ∧ replyOfFrame [] = none ∧ State.reset.loop.flight = none ∧
    (Transaction.mark 7).slot = none ∧
    fetchThree.loop.flight = some ⟨.fetch 2 41, false⟩ ∧ (fetchThree.loop.slots.get 2).failed + 1 < 3 ∧
    failedTwice.loop.flight = some ⟨.fetch 2 41, false⟩ ∧ 3 ≤ (failedTwice.loop.slots.get 2).failed + 1 ∧
    probingFive.loop.flight = some ⟨.identify 4 true, false⟩ ∧
    (fetchThree.onLoop fun k => { k with flight := some ⟨.fetch 2 41, true⟩ }).loop.flight =
      some ⟨.fetch 2 41, true⟩ := by decide

theorem witness_StallClearsTheLoop :
    fetchThree.loop.flight.map Flight.transaction ≠ some .loopReset ∧ fetchThree.loop.pendingMark = none ∧
    (fetchThree.onLoop fun k => { k with pendingMark := some 8 }).loop.pendingMark = some 8 ∧
    (fetchThree.loop.slots.get 2).state = .active ∧ (fetchThree.loop.slots.get 1).state = .vacant ∧
    fetchThree.loop.flight ≠ some ⟨.identify 2 true, false⟩ ∧
    (withLoop fun k => { k with flight := some ⟨.loopReset, false⟩ }).loop.flight.map Flight.transaction =
      some .loopReset := by decide

theorem witness_SlotAssignments :
    idle .officer (busyLoop UnitSlot.reset id) ∧ (busyLoop UnitSlot.reset id).mode = .setup ∧
    (inShow (busyLoop UnitSlot.reset id)).mode = .show ∧
    ((busyLoop UnitSlot.reset id).loop.slots.get 0).zone = some 0 ∧
    (∀ b : SlotId, ((busyLoop UnitSlot.reset id).loop.slots.get b).zone ≠ some 7) ∧
    (busyLoop UnitSlot.reset id).loop.slotState 7 = .vacant ∧
    (busyLoop UnitSlot.reset id).loop.slotState 0 ≠ .vacant ∧ (busyLoop UnitSlot.reset id).loop.flight = none ∧
    (busyLoop activeFive fun k => { k with flight := some ⟨.mark 7, false⟩ }).loop.flight =
      some ⟨.mark 7, false⟩ ∧ (Transaction.mark 7).slot = none ∧
    fetchThree.loop.flight = some ⟨.fetch 2 41, false⟩ ∧ (Transaction.fetch 2 41).slot = some 2 := by decide

theorem witness_SetZoneRequest :
    idle .officer State.reset ∧ State.reset.mode = .setup ∧ idle .officer (inShow State.reset) ∧
    ({ noFields with window := some 3 } : SetZoneFields).window.isSome = true ∧
    ({ noFields with fallbackLow := some 700 } : SetZoneFields).fallbackLow.isSome = true ∧
    noFields.window.isSome = false := by decide

theorem witness_EnableZoneRequest :
    idle .officer State.reset ∧ (State.reset.zones.get 7).enabled = false ∧
    ((withZone 7 fun _ => zoneTwo).zones.get 7).enabled = true := by decide

theorem witness_DisableZoneRequest :
    idle .officer (withZone 7 fun _ => zoneTwo) ∧ (withZone 7 fun _ => zoneTwo).mode = .setup ∧
    ((withZone 7 fun _ => zoneTwo).zones.get 7).enabled = true ∧ (State.reset.zones.get 7).enabled = false ∧
    (inShow State.reset).mode = .show := by decide

def awaitingTwo (isOpen : Bool) : State :=
  withZone 2 fun _ => { zoneTwo with awaiting := some ⟨65535, isOpen, none⟩ }

theorem witness_DeadlineAtMark :
    (awaitingTwo true).timeBase.source = .internal ∧ ((awaitingTwo true).zones.get 2).enabled = true ∧
    ((awaitingTwo true).zones.get 2).awaiting = some ⟨65535, true, none⟩ ∧
    (∀ aw ∈ ((awaitingTwo false).zones.get 2).awaiting, aw.isOpen = false) ∧
    ((awaitingTwo true).zones.get 3).enabled = false ∧
    (after .expectedPoint (awaitingTwo true)).minute = (awaitingTwo true).minute ∧
    (∀ st : StageId, ((awaitingTwo true).curfew.get st).grant.isRunning = false) := by decide +kernel

/-- A close of Z2 with limits 650 and 750 from its record, or with none. -/
def closed (z : Zone) (rec : Option MeasurementRecord) : Zone :=
  z.close 2000000 ⟨650, 750⟩ ⟨5, true, some 630⟩ rec

theorem witness_CloseTakesLevelsIntoRings :
    (closed zoneTwo (some (recordAt 5 700))).levels.isSome = true ∧ (closed zoneTwo none).levels.isSome = true ∧
    (closed { zoneTwo with missingRun := 2 } none).missingRun = 3 ∧ (recordAt 5 700).wind = false ∧
    zoneTwo.slots = [] ∧ (closed zoneTwo none).slots.getLast?.map MinuteSlot.counted = some 1 := by
  decide +kernel

/-- FAST above limit + 100, attack, hold inside the release margin, and release below it. -/
theorem witness_CloseSteersDemand :
    zoneTwo.demand ≤ 96 ∧ zoneTwo.settle = none ∧
    [751, 750, 651, 650, 630, 629].all (fun raw =>
      (closed zoneTwo (some (recordAt 5 raw))).levels.isSome) = true ∧
    (closed zoneTwo (some (recordAt 5 751))).demand = 14 ∧
    (closed zoneTwo (some (recordAt 5 750))).demand = 12 ∧
    (closed zoneTwo (some (recordAt 5 500))).releaseCount = 1 ∧
    (closed { zoneTwo with releaseCount := 2 } (some (recordAt 5 500))).demand = 9 := by decide +kernel

theorem witness_CloseJudgesConditions :
    (closed zoneTwo (some (recordAt 5 751))).levels.isSome = true ∧ (zoneTwo.fast.get .broad).isSet = false ∧
    (({ zoneTwo with fast := ⟨⟨true, 2⟩, ⟨true, 1⟩⟩ } : Zone).fast.get .low).isSet = true := by decide +kernel

theorem witness_BlockTimersExpire :
    (State.reset.zones.get 0).settle = none ∧
    ((withZone 0 fun z => { z with settle := some 9 }).zones.get 0).settle = some 9 ∧
    State.reset.loop.slotState 4 ≠ .lost ∧ (busyLoop lostFive id).loop.slotState 4 = .lost ∧
    ((busyLoop lostFive id).loop.slots.get 4).reseek = .running 10000000 ∧
    (runningTwo.paths.get 2).watch = .present 1000 ∧
    (∀ due ∈ [0, 1000], (State.reset.paths.get 2).watch ≠ .present due) := by decide

theorem witness_OfficerMutesAndReleases : idle .officer State.reset := rfl

theorem witness_RampExpiryTakesOneStep :
    Stage.reset.ramp = none ∧ (stageTwo 7 6 (some ⟨.attack, 30000⟩)).ramp = some ⟨.attack, 30000⟩ ∧
    (stageTwo 7 6 (some ⟨.attack, 30000⟩)).gain = .opened ∧ (stageTwo 7 6 (some ⟨.attack, 30000⟩)).applied < 96 ∧
    ({ stageTwo 4 95 (some ⟨.fade, 9⟩) with gain := .fading } : Stage).gain = .fading ∧
    ({ stageTwo 4 5 (some ⟨.resume, 9⟩) with gain := .resuming } : Stage).gain = .resuming ∧
    (stageTwo 4 7 (some ⟨.release, 350000⟩)).ramp.map Ramp.purpose = some .release := by decide

/-- The greatest weighted demand of a state with no zone enabled is 0, and of one with Z1 at demand 7 and full
coupling 7. -/
theorem witness_TargetAndItsChanges :
    (∀ z : ZoneId, (State.reset.zones.get z).enabled = true → False) ∧
    (∀ z : ZoneId, ((withZone 1 fun _ => { zoneTwo with demand := 7 }).zones.get z).enabled = true →
      ceilDiv (((withZone 1 fun _ => { zoneTwo with demand := 7 }).zones.get z).demand * 100) 100 ≤ 7) ∧
    Stage.reset.gain = .muted ∧ (stageTwo 4 4 none).gain = .opened ∧ (stageTwo 4 4 none).record.mode = .soft ∧
    rampPurpose (stageTwo 9 6 (some ⟨.attack, 30000⟩)) = some .attack := by decide

theorem witness_SetStageRequest :
    idle .officer State.reset ∧ idle .officer (inShow State.reset) ∧
    (∃ n ∈ ({ noStageFields with changeMode := some 2 } : SetStageFields).changeMode, 2 ≤ n) ∧
    (∃ n ∈ ({ noStageFields with failsafe := some 23 } : SetStageFields).failsafe,
      min 96 n < (State.reset.stages.get 1).record.failsafe) ∧
    (∀ n ∈ ({ noStageFields with failsafe := some 24 } : SetStageFields).failsafe,
      (State.reset.stages.get 1).record.failsafe ≤ min 96 n) ∧
    ((withStage 2 fun _ => stageTwo 7 6 (some ⟨.attack, 30000⟩)).stages.get 2).gain = .opened := by decide

theorem witness_SetCouplingRequest :
    idle .officer (zoneNight 80999) ∧ (zoneNight 80999).mode = .show ∧
    ((zoneNight 80999).stages.get 1).record.coupling.get 2 = 60 ∧ State.reset.mode = .setup ∧
    reaches (inCurfewAt 5060 0) 3 2 = true ∧
    ((inCurfewAt 5060 0).tables.get 2).inForce.kind.isCurfew = true := by decide

theorem witness_EncoreRequest :
    idle (.desk 1) (contest 82620 4820 3) ∧ (contest 82620 4820 3).timeBase.tag < 65536 ∧
    onsetSeconds (contest 82500 4820 3) 1 = some 300 ∧ onsetSeconds (contest 82499 4820 3) 1 = some 301 ∧
    onsetSeconds (contest 82799 4820 3) 1 = some 1 ∧
    (((inCurfewAt 5120 5).stages.get 3).reasons.curfew = true ∧
      ((inCurfewAt 5120 5).curfew.get 3).grant.isRunning = false ∧
      ((inCurfewAt 5120 5).curfew.get 3).onsetTag = some 5000 ∧ 5120 + 65536 - 5000 - 65536 ≤ 120) ∧
    ((runningAt 5060).curfew.get 1).grant = .running 3 5180 ∧ ((runningAt 5060).curfew.get 1).total < 15 := by
  decide +kernel

/-- A grant whose end point lies so far off that no further minute fits below 32767 s, and one that one fits. -/
theorem witness_EncoreRequest_bound :
    min 1 ((32767 - (5060 + 32708 + 65536 - 5060) % 65536) / 60) = 0 ∧
    min 1 ((32767 - (5060 + 32707 + 65536 - 5060) % 65536) / 60) = 1 := by decide

theorem witness_EncoreEndRequest :
    idle (.desk 1) (runningAt 5060) ∧ (State.reset.curfew.get 1).grant = .none ∧
    ((runningAt 5060).curfew.get 1).grant = .running 3 5180 ∧
    ((after (.encore 1 4) (contest 82620 4820 3)).curfew.get 1).grant = .booked 3 ∧ 3 ≤ 255 ∧
    (((runningAt 5060).onCurfew 1 fun c => { c with grant := .booked 256 }).curfew.get 1).grant = .booked 256 ∧
    tagDistance 20420 5060 / 60 = 256 ∧ tagDistance 5180 5060 / 60 ≤ 255 := by decide +kernel

theorem witness_PoolAndShowRequests :
    idle .officer armable ∧ armable.mode = .setup ∧ armable.timeBase.state ≠ .unset ∧
    (∀ z : ZoneId, (armable.zones.get z).enabled = true →
      ∃ a : SlotId, (armable.loop.slots.get a).zone = some z ∧ armable.loop.slotState a = .active) ∧
    State.reset.timeBase.state = .unset ∧ (inShow State.reset).mode = .show ∧
    ((runningAt 5060).curfew.get 1).grant ≠ .none ∧ ((runningAt 5060).curfew.get 0).grant = .none := by
  decide +kernel

/-- The mark that carries the end point, and marks with 60 and 61 seconds left. -/
theorem witness_GrantAtMark :
    [5179, 5119, 5118].all (fun tag =>
      decide ((runningAt tag).timeBase.source = .internal) &&
      decide ((after .expectedPoint (runningAt tag)).minute = (runningAt tag).minute) &&
      decide ((after .expectedPoint (runningAt tag)).timeBase.tag = tag + 1)) = true ∧
    [tagDistance 5180 5120, tagDistance 5180 5119] = [60, 61] ∧ ((runningAt 5119).curfew.get 1).endSoon = false := by
  decide +kernel

/-- An onset that reaches S1 and S3, the booking it starts, and an end at the midnight after. -/
def endingAt : State :=
  { (contest 43200 5000 0).onTable 2 fun t => { t with inForce := ⟨660, .curfew 550 600, 450, 500⟩ } with
    curfew := (inCurfewAt 5000 0).curfew }

theorem witness_OnsetsAndEnds :
    (segmentAt ((zoneNight 82800).tables.get 2).segments (zoneNight 82800).minute).kind.isCurfew = true ∧
    ((zoneNight 80999).tables.get 2).inForce.kind.isCurfew = false ∧
    ((contest 82620 4820 0).tables.get 2).inForce.kind.isCurfew = false ∧
    reaches (contest 82620 4820 0) 1 2 = true ∧ noZone ((contest 82620 4820 0).curfew.get 1).zones = true ∧
    reaches (contest 82620 4820 0) 0 2 = false ∧
    (endingAt.tables.get 2).inForce.kind.isCurfew = true ∧
    (segmentAt (endingAt.tables.get 2).segments endingAt.minute).kind.isCurfew = false ∧
    noZone (endingAt.curfew.get 3).zones = false ∧
    noZone ((endingAt.curfew.get 3).zones.set 2 false) = true := by decide +kernel

theorem witness_FrameArrivesAtPath :
    (State.reset.paths.get 2).state = .idle ∧ (fillingTwo.paths.get 2).state = .aligning ∧
    (fillingTwo.paths.get 2).delay ≤ (fillingTwo.paths.get 2).buffer.length + 1 ∧
    (runningTwo.paths.get 2).state = .running ∧ (runningTwo.paths.get 2).followStrobe = true := by decide

theorem witness_OutputEventSendsOneFrameEach :
    (runningTwo.paths.get 2).state = .running ∧ (runningTwo.paths.get 2).buffer.head? = some (frameOf 7) ∧
    (deadTwo.paths.get 2).buffer = [] ∧ (runningTwo.paths.get 2).alarms.underflow = false ∧
    (State.reset.paths.get 2).state ≠ .running := by decide

theorem witness_PathRequests :
    idle .officer runningTwo ∧ (runningTwo.paths.get 2).state ≠ .idle ∧ (State.reset.paths.get 2).state = .idle ∧
    (∃ m ∈ (⟨none, some 16#8, none, false⟩ : SetPathFields).muteMask, 16 ≤ m.toNat) ∧
    (∀ m ∈ (⟨some 30, some 15#8, some 1, false⟩ : SetPathFields).muteMask, m.toNat < 16) ∧
    16 ≤ (16#8 : Byte).toNat ∧ (15#8 : Byte).toNat < 16 := by decide

/-- Lists of 47 and 48 closed records. -/
def listOf (n : Nat) : State := { State.reset with exceedances := ⟨(List.range n).map closedRecord, n⟩ }

set_option synthInstance.maxHeartbeats 400000 in
set_option synthInstance.maxSize 4096 in
/-- The two openings of `overReport` fit, fill the list, or overfill it by one or two. -/
theorem witness_ListTakesCloseReport :
    recordsOk State.reset ∧ recordsOk (listOf 47) ∧ recordsOk (listOf 48) ∧
    ((listOf 46).takeReport overReport).exceedances.records.length = 48 ∧
    ((listOf 47).takeReport overReport).exceedances.records.head? = some (closedRecord 1) ∧
    ((listOf 48).takeReport overReport).exceedances.records.head? = some (closedRecord 2) ∧
    idle .officer State.reset := by decide +kernel

theorem witness_PayloadsReadBackAsRequests :
    Frame.wf ((Bank8.fill (-8388608)).set 7 8388607) = true ∧
    requestOf (.setZone 255 { noFields with window := some 255, fallbackLow := some 65534 }) =
      some (.officer, .setZone 255 { noFields with window := some 255, fallbackLow := some 65534 }) ∧
    (Instr.setZone 255 { noFields with window := some 255, fallbackLow := some 65534 }).wf = true ∧
    requestOf (.setDesk 3 ⟨some 255, none, some 0x3F#8, some [0, 1, 2, 3, 255, 9], true⟩) =
      some (.desk 3, .setDesk ⟨some 255, none, some 0x3F#8, some [0, 1, 2, 3, 255, 9], true⟩) ∧
    (Instr.setDesk 3 ⟨some 255, none, some 0x3F#8, some [0, 1, 2, 3, 255, 9], true⟩).wf = true := by decide

theorem witness_ReceiverJudgesMessages :
    (State.reset.links.get .officer).receiver = .hunting ∧
    ((State.reset.links.get .officer).transmitter = none → (State.reset.links.get .officer).owed = []) ∧
    (∀ b ∈ ⟨0xA5#8, true, true⟩ :: soundBytes [0x11#8, 0xFE#8], b.byte = 0xA5#8 → b.lineError = true) ∧
    (⟨3#8, true, true⟩ : LineByte).lineError = true ∧ (⟨3#8, false, false⟩ : LineByte).lineError = true ∧
    (LineByte.sound 0xFF#8).lineError = false ∧
    (List.replicate 239 (0#8 : Byte)).length ≤ 239 ∧ readPayload .officer 0x1E [] = none ∧
    readPayload .officer 0x1F [] = some .armShow ∧ requestOf .armShow = some (.officer, .armShow) ∧
    (1 ≤ (240#8 : Byte).toNat ∧ (240#8 : Byte).toNat ≤ 240 ∧ 240 < (241#8 : Byte).toNat) ∧
    byteSum (1#8 :: ([0x1F#8, 0xE1#8] : List Byte)) ≠ 0#8 := by decide +kernel

theorem witness_TransmitterServesInTurn :
    requestOf (.zoneView 1) = some (.desk 1, .zoneView) ∧ (State.reset.links.get (.desk 1)).transmitter = none ∧
    (burst.links.get (.desk 1)).transmitter ≠ none ∧ (burst.links.get (.desk 1)).held ≠ none ∧
    (burst.links.get (.desk 1)).owed = .busy :: [.format] ∧
    ((withLink (.desk 1) fun k => { k with transmitter := some [] }).links.get (.desk 1)).held = none ∧
    ((withLink (.desk 1) fun k => { k with transmitter := some [], held := some .zoneView }).links.get
      (.desk 1)).held = some .zoneView := by decide

theorem witness_NoticeRequests :
    idle (.desk 3) (withLink (.desk 3) fun _ => warned) ∧ idle .officer State.reset ∧
    (2 ^ linkKinds (.desk 3) ≤ (64#16 : BitVec 16).toNat ∧ (63#16 : BitVec 16).toNat < 2 ^ linkKinds (.desk 3)) ∧
    (2 ^ linkKinds .officer ≤ (512#16 : BitVec 16).toNat ∧
      (511#16 : BitVec 16).toNat < 2 ^ linkKinds .officer) ∧
    (∃ n ∈ ([0, 0, 0, 0, 0, 0, 0, 255, 255] : List Nat).drop (linkKinds (.desk 3)), n ≠ 255) ∧
    (∀ n ∈ ([0, 1, 2, 3, 4, 255, 255, 255, 255] : List Nat).drop (linkKinds (.desk 3)), n = 255) := by decide

theorem witness_SetDeskRequest :
    idle (.desk 3) deskThree ∧ warnings.spareBits = false ∧ (∀ m ∈ warnings.enables, m.toNat < 64) ∧
    (∃ m ∈ (⟨none, none, some 64#8, none, false⟩ : SetDeskFields).enables, 64 ≤ m.toNat) ∧
    nextOnset deskThree 3 = some 660 ∧ minutesLeft deskThree 3 = some 20 := by decide +kernel

/-- Z0's report of the present moment, of an OVER condition, kept beside its open record. -/
def reported : State :=
  { armable with
    exceedances := ⟨[{ openRecord 21 with zone := 0 }], 22⟩
    reports := [⟨0, { overReport with zone := 0 }, 1, Bank4.fill false⟩] }

set_option synthInstance.maxHeartbeats 400000 in
set_option synthInstance.maxSize 4096 in
theorem witness_RestartRequest :
    idle .officer armable ∧ armable.mode = .setup ∧ (inShow armable).mode = .show ∧
    (armable.zones.get 0).enabled = true ∧ (armable.zones.get 1).enabled = false ∧
    (runningTwo.paths.get 2).state ≠ .idle ∧ (armable.paths.get 2).state = .idle ∧
    armable.exceedances.counter < 65536 ∧ (∀ r ∈ armable.reports, r.moment ≠ armable.now) ∧
    idle .officer reported ∧ reported.mode = .setup ∧ reportsOk reported ∧
    ¬(∀ r ∈ reported.reports, r.moment ≠ reported.now) ∧
    (afterWith { plain with overtaken := Bank8.fill true } .restart reported).exceedances.records ≠ [] ∧
    (after .restart reported).exceedances.records = [] := by decide +kernel

theorem witness_ShowKeepsTheNightTight :
    (zoneNight 81000).mode = .show ∧ Instr.setCoupling 1 2 40 ≠ .powerOn ∧ tablesOk (zoneNight 81000) := by
  decide +kernel

theorem witness_DeskReachesItsOwnStageOnly : fromDesk (.encore 3 2) 3 = true := by decide

/-- The step answers a next state. -/
def goesOn (s : State) : Bool :=
  match step s with
  | .next _ => true
  | _ => false

theorem witness_LinksAndPathsStaySound :
    linksOk { burst with paths := fillingTwo.paths } ∧ pathsOk { burst with paths := fillingTwo.paths } ∧
    goesOn { burst with paths := fillingTwo.paths, pending := [.messageSent (.desk 1)] } = true := by
  decide +kernel

/-- S2 OPEN on its way from 4 to its target 6, its trim, the time base set. -/
def risingTwo : State :=
  ((withTime fun t => { t with state := .free }).onStage 2 fun _ =>
    { stageTwo 6 4 (some ⟨.attack, 10000⟩) with
      record := { (stageTwo 6 4 none).record with trim := 6 } }).onStage 0 fun g => { g with target := 0 }

def rising : State := (risingTwo.onStage 1 fun g => { g with target := 0 }).onStage 3 fun g => { g with target := 0 }

set_option synthInstance.maxHeartbeats 400000 in
set_option synthInstance.maxSize 4096 in
theorem witness_StagesAndTargetsStaySound :
    stagesOk rising ∧ targetsOk rising ∧ goesOn rising = true ∧ rising.nextDue.2 = .rampExpiry 2 := by
  decide +kernel

theorem witness_TimeAndTablesStaySound :
    timeOk (zoneNight 82799) ∧ tablesOk (zoneNight 82799) ∧ goesOn (zoneNight 82799) = true := by decide +kernel

/-- Z3 with a second closed OVER, its record open, the next second awaited. -/
def overThree : State :=
  { (withZone 3 fun _ =>
      { closed zoneTwo (some (recordAt 5 660)) with awaiting := some ⟨6, true, some 630⟩ }) with
    exceedances := ⟨[openRecord 21], 22⟩, reports := [⟨0, overReport, 1, Bank4.fill false⟩] }

set_option synthInstance.maxHeartbeats 400000 in
set_option synthInstance.maxSize 4096 in
theorem witness_ZonesAndRecordsStaySound :
    zonesOk overThree ∧ recordsOk overThree ∧ recordsAgree overThree ∧ reportsOk overThree ∧ goesOn overThree = true := by
  decide +kernel

def curfewNight : State :=
  { inCurfewAt 5060 5 with
    curfew := ((inCurfewAt 5060 5).curfew).modify 1 fun c =>
      { c with zones := (Bank8.fill false).set 2 true, onsetTag := some 5000, grant := .running 3 5180, total := 3 } }

theorem witness_CurfewUnitStaysSound :
    curfewsOk curfewNight ∧ goesOn { curfewNight with pending := [.encore 3 2] } = true := by decide +kernel

set_option synthInstance.maxHeartbeats 400000 in
set_option synthInstance.maxSize 4096 in
theorem witness_LoopStaysSound :
    loopOk fetchThree ∧ goesOn { fetchThree with pending := [.loopStall] } = true := by decide +kernel

end Sys2Proof.Tests
end

section
/-! PROOFS. Chapter 1: ceiling division, the two conversions between levels and energies, the level of a collection,
the gains and the scaling of samples. The two conversions form a Galois connection on the accounting range
(`le_energyToLevel_iff`); all of R4 and R6 follows from it and from the exact round trip. -/

namespace Sys2Proof.Machine

/-! ## Ceiling division (R9) -/

theorem ceilDiv_eq_nat_ceilDiv (a b : Nat) : ceilDiv a b = a ⌈/⌉ b :=
  (Nat.ceilDiv_eq_add_pred_div a b).symm

theorem ceilDiv_le_iff {a b n : Nat} (hb : 0 < b) : ceilDiv a b ≤ n ↔ a ≤ b * n := by
  rw [ceilDiv_eq_nat_ceilDiv, ceilDiv_le_iff_le_mul hb]

theorem le_mul_ceilDiv (a : Nat) {b : Nat} (hb : 0 < b) : a ≤ b * ceilDiv a b :=
  (ceilDiv_le_iff hb).mp le_rfl

theorem ceilDiv_mono {a a' b : Nat} (hb : 0 < b) (h : a ≤ a') : ceilDiv a b ≤ ceilDiv a' b :=
  (ceilDiv_le_iff hb).mpr (h.trans (le_mul_ceilDiv a' hb))

theorem ceilDiv_pos {a b : Nat} (ha : 0 < a) (hb : 0 < b) : 0 < ceilDiv a b :=
  Nat.pos_of_mul_pos_left (ha.trans_le (le_mul_ceilDiv a hb))

theorem ceilDiv_zero_left {b : Nat} (hb : 0 < b) : ceilDiv 0 b = 0 :=
  Nat.le_zero.mp ((ceilDiv_le_iff hb).mpr (Nat.zero_le _))

theorem ceilDiv_mul_self (d : Nat) {b : Nat} (hb : 0 < b) : ceilDiv (d * b) b = d :=
  le_antisymm ((ceilDiv_le_iff hb).mpr (Nat.mul_comm d b).le)
    (Nat.le_of_mul_le_mul_left ((Nat.mul_comm b d).le.trans (le_mul_ceilDiv (d * b) hb)) hb)

/-! ## The mantissa (R2) -/

/-- The heart of R4: step 4 of R3 reaches r exactly when q reaches the mantissa m(r). -/
theorem mantissa_le_iff {r q : Nat} (hq : 1024 ≤ q) : mantissa r ≤ q ↔ r ≤ (q - 1024) * 30 / 1024 := by
  have hceil : ceilDiv (r * 1024) 30 ≤ q - 1024 ↔ r * 1024 ≤ 30 * (q - 1024) := ceilDiv_le_iff (by decide)
  unfold mantissa
  omega

theorem le_mantissa (r : Nat) : 1024 ≤ mantissa r := Nat.le_add_right _ _

theorem mantissa_lt {r : Nat} (hr : r < 30) : mantissa r < 2048 :=
  Nat.lt_succ_of_le ((mantissa_le_iff (by decide)).mpr (by omega))

theorem mantissa_lt_succ (r : Nat) : mantissa r < mantissa (r + 1) := by
  unfold mantissa ceilDiv
  omega

theorem position_of_mantissa (r : Nat) : (mantissa r - 1024) * 30 / 1024 = r := by
  have reached := (mantissa_le_iff (le_mantissa r)).mp le_rfl
  have next : ¬ r + 1 ≤ (mantissa r - 1024) * 30 / 1024 := fun h =>
    absurd ((mantissa_le_iff (le_mantissa r)).mpr h) (mantissa_lt_succ r).not_ge
  omega

/-! ## The conversions, octave by octave (R2, R3) -/

theorem levelToEnergy_octave {k r : Nat} (hr : r < 30) (hk : 30 * k + r ≤ 900) :
    levelToEnergy ((400 + 30 * k + r : Nat) : Int) = mantissa r * 2 ^ k := by
  have hd : clampLevel (400 + 30 * k + r) - Config.minLevel = 30 * k + r := by
    simp only [clampLevel, clampTo, Config.minLevel, Config.maxLevel]
    omega
  have hmod : (30 * k + r) % 30 = r := by omega
  have hdiv : (30 * k + r) / 30 = k := by omega
  simp only [levelToEnergy, Int.toNat_natCast, hd, hmod, hdiv]

/-- A level of the accounting range by its octave and its place in it (step 3 of R2). -/
theorem exists_octave_of_level {L : Nat} (hL : within 400 1300 L) :
    ∃ k r, r < 30 ∧ 30 * k + r ≤ 900 ∧ L = 400 + 30 * k + r :=
  ⟨(L - 400) / 30, (L - 400) % 30, by omega⟩

/-- The octave of an energy figure (step 2 of R3). -/
theorem exists_octave_of_energy {M : Nat} (hM : 1024 ≤ M) : ∃ k, 1024 * 2 ^ k ≤ M ∧ M < 2048 * 2 ^ k := by
  have hne : M / 1024 ≠ 0 := by omega
  have lower : 2 ^ octave M ≤ M / 1024 := Nat.log2_self_le hne
  have upper : M / 1024 < 2 ^ (octave M + 1) := Nat.lt_log2_self
  refine ⟨octave M, by omega, ?_⟩
  rw [pow_succ] at upper
  omega

theorem octave_eq {M k : Nat} (lower : 1024 * 2 ^ k ≤ M) (upper : M < 2048 * 2 ^ k) : octave M = k := by
  have hpos : 0 < 2 ^ k := Nat.two_pow_pos k
  refine (Nat.log2_eq_iff (by omega)).mpr ⟨by omega, ?_⟩
  rw [pow_succ]
  omega

theorem energyToLevel_octave {M k : Nat} (lower : 1024 * 2 ^ k ≤ M) (upper : M < 2048 * 2 ^ k) :
    energyToLevel M = min 1300 (400 + 30 * k + (M / 2 ^ k - 1024) * 30 / 1024) := by
  have hpos : 0 < 2 ^ k := Nat.two_pow_pos k
  have hM : ¬ M < 1024 := by omega
  simp only [energyToLevel, if_neg hM, octave_eq lower upper]

theorem energyToLevel_of_lt {M : Nat} (hM : M < 1024) : energyToLevel M = 400 := if_pos hM

/-- Levels produced by the conversion fall in the accounting range by construction (R1). -/
theorem energyToLevel_within (M : Nat) : within 400 1300 (energyToLevel M) := by
  unfold energyToLevel
  split
  · exact ⟨le_rfl, by decide⟩
  · dsimp only
    omega

/-! ## The conversions are matched (R4) -/

theorem le_levelToEnergy {L : Nat} (hL : within 400 1300 L) : 1024 ≤ levelToEnergy L := by
  obtain ⟨k, r, hr, hk, rfl⟩ := exists_octave_of_level hL
  rw [levelToEnergy_octave hr hk]
  exact (le_mantissa r).trans (Nat.le_mul_of_pos_right _ (Nat.two_pow_pos k))

/-- The two conversions form a Galois connection on the accounting range. The octaves are compared first; within one
octave the mantissas decide. -/
theorem le_energyToLevel_iff {M L : Nat} (hM : 1024 ≤ M) (hL : within 400 1300 L) :
    L ≤ energyToLevel M ↔ levelToEnergy L ≤ M := by
  obtain ⟨j, r, hr, hj, rfl⟩ := exists_octave_of_level hL
  obtain ⟨k, lower, upper⟩ := exists_octave_of_energy hM
  have hpos : 0 < 2 ^ k := Nat.two_pow_pos k
  have hq : 1024 ≤ M / 2 ^ k := (Nat.le_div_iff_mul_le hpos).mpr lower
  have hq' : M / 2 ^ k < 2048 := (Nat.div_lt_iff_lt_mul hpos).mpr upper
  rw [levelToEnergy_octave hr hj, energyToLevel_octave lower upper]
  rcases lt_trichotomy j k with hlt | rfl | hgt
  · have figure : mantissa r * 2 ^ j ≤ M :=
      calc mantissa r * 2 ^ j
        _ ≤ 2048 * 2 ^ j := Nat.mul_le_mul_right _ (mantissa_lt hr).le
        _ = 1024 * 2 ^ (j + 1) := by rw [pow_succ]; omega
        _ ≤ 1024 * 2 ^ k := Nat.mul_le_mul_left _ (Nat.pow_le_pow_right (by decide) hlt)
        _ ≤ M := lower
    exact iff_of_true (by omega) figure
  · rw [← Nat.le_div_iff_mul_le hpos, mantissa_le_iff hq]
    omega
  · have figure : M < mantissa r * 2 ^ j :=
      calc M
        _ < 2048 * 2 ^ k := upper
        _ = 1024 * 2 ^ (k + 1) := by rw [pow_succ]; omega
        _ ≤ 1024 * 2 ^ j := Nat.mul_le_mul_left _ (Nat.pow_le_pow_right (by decide) hgt)
        _ ≤ mantissa r * 2 ^ j := Nat.mul_le_mul_right _ (le_mantissa r)
    exact iff_of_false (by omega) figure.not_ge

/-- The exact round trip. -/
theorem energyToLevel_levelToEnergy {L : Nat} (hL : within 400 1300 L) : energyToLevel (levelToEnergy L) = L := by
  obtain ⟨k, r, hr, hk, rfl⟩ := exists_octave_of_level hL
  have hpos : 0 < 2 ^ k := Nat.two_pow_pos k
  rw [levelToEnergy_octave hr hk,
    energyToLevel_octave (Nat.mul_le_mul_right _ (le_mantissa r)) (Nat.mul_lt_mul_of_pos_right (mantissa_lt hr) hpos),
    Nat.mul_div_cancel _ hpos, position_of_mantissa]
  omega

theorem levelToEnergy_energyToLevel_le {M : Nat} (hM : 1024 ≤ M) : levelToEnergy (energyToLevel M) ≤ M :=
  (le_energyToLevel_iff hM (energyToLevel_within M)).mp le_rfl

theorem energyToLevel_mono {M N : Nat} (h : M ≤ N) : energyToLevel M ≤ energyToLevel N := by
  rcases lt_or_ge M 1024 with hlt | hge
  · rw [energyToLevel_of_lt hlt]
    exact (energyToLevel_within N).1
  · exact (le_energyToLevel_iff (hge.trans h) (energyToLevel_within M)).mpr
      ((levelToEnergy_energyToLevel_le hge).trans h)

/-- No overstatement. -/
theorem energyToLevel_le {M L : Nat} (hL : within 400 1300 L) (h : M ≤ levelToEnergy L) : energyToLevel M ≤ L :=
  (energyToLevel_mono h).trans_eq (energyToLevel_levelToEnergy hL)

theorem levelToEnergy_mono {L L' : Nat} (hL : 400 ≤ L) (h : L ≤ L') (hL' : L' ≤ 1300) :
    levelToEnergy L ≤ levelToEnergy L' := by
  have hin : within 400 1300 L' := ⟨hL.trans h, hL'⟩
  refine (le_energyToLevel_iff (le_levelToEnergy hin) ⟨hL, h.trans hL'⟩).mp ?_
  rwa [energyToLevel_levelToEnergy hin]

/-- Settles O5: all four clauses follow from the Galois connection and the exact round trip. -/
theorem conversionsAreMatched : Obligations.ConversionsAreMatched :=
  ⟨fun M hM _ => ⟨energyToLevel_within M, levelToEnergy_energyToLevel_le hM,
      fun _ hL => (le_energyToLevel_iff hM hL).mpr⟩,
    fun _ => energyToLevel_levelToEnergy,
    fun _ _ => energyToLevel_le,
    fun _ _ => energyToLevel_mono⟩

/-! ## The level of a collection (R6) -/

/-- The mean of a collection, its floor taken, lies between bounds of its members (R5, R6). -/
theorem mean_within {l : List Nat} {lo hi : Nat} (hne : l ≠ []) (h : ∀ x ∈ l, within lo hi x) :
    within lo hi (l.sum / l.length) := by
  have hlen : 0 < l.length := List.length_pos_of_ne_nil hne
  constructor
  · rw [Nat.le_div_iff_mul_le hlen, Nat.mul_comm]
    exact List.card_nsmul_le_sum l lo fun x hx => (h x hx).1
  · refine Nat.div_le_of_le_mul ?_
    exact List.sum_le_card_nsmul l hi fun x hx => (h x hx).2

/-- Lean reads the cast in the statement of R6 as one of the whole list, made before the map; the figures are those of
the levels all the same. -/
theorem map_levelToEnergy_cast (l : List Nat) :
    (l.map fun x => levelToEnergy (x : Int)) = List.map (fun L : Nat => levelToEnergy L) l := by
  simp only [bind_pure_comp, List.map_eq_map, List.map_map, Function.comp_def]

/-- Settles O6: the mean lies between the figures of the bounds, and the conversions are matched. -/
theorem collectionLevelLiesBetweenMembers : Obligations.CollectionLevelLiesBetweenMembers := by
  intro lo hi l hne hlo hhi hmem
  obtain ⟨x, hx⟩ := List.exists_mem_of_ne_nil l hne
  have hle : lo ≤ hi := (hmem x hx).1.trans (hmem x hx).2
  have loIn : within 400 1300 lo := ⟨hlo, hle.trans hhi⟩
  have hiIn : within 400 1300 hi := ⟨hlo.trans hle, hhi⟩
  have figures : ∀ p ∈ List.map (fun L : Nat => levelToEnergy L) l,
      within (levelToEnergy lo) (levelToEnergy hi) p := by
    simp only [List.forall_mem_map]
    intro y hy
    obtain ⟨hlow, hhigh⟩ := hmem y hy
    exact ⟨levelToEnergy_mono hlo hlow (hhigh.trans hhi), levelToEnergy_mono (hlo.trans hlow) hhigh hhi⟩
  obtain ⟨meanLow, meanHigh⟩ := mean_within (mt List.map_eq_nil_iff.mp hne) figures
  rw [map_levelToEnergy_cast]
  exact ⟨(le_energyToLevel_iff ((le_levelToEnergy loIn).trans meanLow) loIn).mpr meanLow,
    energyToLevel_le hiIn meanHigh⟩

/-! ## The weighting of a demand by a coupling (R9) -/

/-- A coupling of at most 100 percent never weights a demand above itself. -/
theorem ceilDiv_percent_le {d c : Nat} (hc : c ≤ 100) : ceilDiv (d * c) 100 ≤ d :=
  (ceilDiv_le_iff (by decide)).mpr ((Nat.mul_le_mul_left d hc).trans_eq (Nat.mul_comm d 100))

/-- Settles O7: each property is the one of ceiling division at the divisor 100. -/
theorem weightingOfDemand : Obligations.WeightingOfDemand := by
  have hundred : 0 < 100 := by decide
  refine ⟨fun a b hb => ⟨rfl, le_mul_ceilDiv a hb, fun _ => (ceilDiv_le_iff hb).mpr⟩,
    fun d c _ hc => ⟨fun hzero => ?_, fun hd hc' => ceilDiv_pos (Nat.mul_pos hd hc') hundred,
      ceilDiv_percent_le hc, ceilDiv_mul_self d hundred⟩,
    fun d e c f hde hcf => ceilDiv_mono hundred (Nat.mul_le_mul hde hcf)⟩
  rw [Nat.mul_eq_zero.mpr hzero, ceilDiv_zero_left hundred]

/-! ## The gains (R11) -/

/-- Twelve steps halve the gain. -/
theorem gain_add_twelve (a : Nat) : gain (a + 12) = gain a / 2 := by
  simp only [gain, Nat.add_mod_right, Nat.add_div_right a (by decide : 0 < 12), pow_succ, Nat.div_div_eq_div_mul]

/-- What stands one step below an entry of the table in the same row of gains: the next entry, and behind the last
entry the halved first one. -/
def entryBelow (r : Nat) : Nat := if r = 11 then 16384 else gainTable.getD (r + 1) 0

theorem gain_succ (a : Nat) : gain (a + 1) = entryBelow (a % 12) / 2 ^ (a / 12) := by
  unfold gain entryBelow
  split
  case isTrue h =>
    have hmod : (a + 1) % 12 = 0 := by omega
    have hdiv : (a + 1) / 12 = a / 12 + 1 := by omega
    rw [hmod, hdiv, pow_succ, Nat.mul_comm, ← Nat.div_div_eq_div_mul]
    rfl
  case isFalse h =>
    have hmod : (a + 1) % 12 = a % 12 + 1 := by omega
    have hdiv : (a + 1) / 12 = a / 12 := by omega
    rw [hmod, hdiv]

/-- Neighbours in the table lie far enough apart to stay apart in the deepest row of gains. -/
theorem entryBelow_add_le : ∀ r < 12, entryBelow r + 2 ^ 8 ≤ gainTable.getD r 0 := by decide

theorem gain_succ_lt {a : Nat} (ha : a < 96) : gain (a + 1) < gain a := by
  have hrow : 2 ^ (a / 12) ≤ 2 ^ 8 := Nat.pow_le_pow_right (by decide) (by omega)
  have apart := entryBelow_add_le (a % 12) (Nat.mod_lt a (by decide))
  rw [gain_succ, gain, ← Nat.succ_le_iff, Nat.succ_eq_add_one, ← Nat.add_div_right _ (Nat.two_pow_pos _)]
  exact Nat.div_le_div_right (by omega)

theorem gain_strictAntiOn : StrictAntiOn gain (Set.Iic 96) :=
  strictAntiOn_of_add_one_lt Set.ordConnected_Iic fun _ _ _ ha => gain_succ_lt ha

theorem gain_le_unity {a : Nat} (ha : a ≤ 96) : gain a ≤ 32768 :=
  gain_strictAntiOn.antitoneOn (Nat.zero_le 96) ha (Nat.zero_le a)

/-! ## The scaling of samples (R12, R13) -/

theorem scaleSample_of_nonneg {x : Int} {g : Nat} (hx : 0 ≤ x) (hg : g ≤ 32768) :
    0 ≤ scaleSample x g ∧ scaleSample x g ≤ x := by
  have lower : 0 ≤ x * g := by positivity
  have upper : x * g ≤ x * 32768 := mul_le_mul_of_nonneg_left (by omega) hx
  unfold scaleSample
  omega

theorem scaleSample_of_nonpos {x : Int} {g : Nat} (hx : x ≤ 0) (hg : g ≤ 32768) :
    x ≤ scaleSample x g ∧ scaleSample x g ≤ 0 := by
  have upper : x * g ≤ 0 := mul_nonpos_of_nonpos_of_nonneg hx (by positivity)
  have lower : x * 32768 ≤ x * g := mul_le_mul_of_nonpos_left (by omega) hx
  unfold scaleSample
  omega

/-- A greater gain, up to unity, never gives a smaller magnitude. -/
theorem natAbs_scaleSample_mono (x : Int) {g h : Nat} (hgh : g ≤ h) (hh : h ≤ 32768) :
    (scaleSample x g).natAbs ≤ (scaleSample x h).natAbs := by
  rcases le_total 0 x with hx | hx
  · obtain ⟨hpos, -⟩ := scaleSample_of_nonneg hx (hgh.trans hh)
    have product : x * g ≤ x * h := mul_le_mul_of_nonneg_left (by omega) hx
    have scaled : scaleSample x g ≤ scaleSample x h := Int.ediv_le_ediv (by decide) (by omega)
    omega
  · obtain ⟨-, hneg⟩ := scaleSample_of_nonpos hx (hgh.trans hh)
    have product : x * h ≤ x * g := mul_le_mul_of_nonpos_left (by omega) hx
    have scaled : scaleSample x h ≤ scaleSample x g := Int.ediv_le_ediv (by decide) (by omega)
    omega

/-- An output sample is 0 while muted, and else its input scaled by the gain of the applied attenuation (R12, R133). -/
theorem outputFrame_get (g : Stage) (muted : Bool) (f : Frame) (c : Fin 8) :
    (outputFrame g muted f).get c = 0 ∨ (outputFrame g muted f).get c = scaleSample (f.get c) (gain g.applied) := by
  unfold outputFrame
  split
  · exact .inl (Bank8.get_fill 0 c)
  · exact .inr (Bank8.get_map f _ c)

/-- R13 for one output sample. -/
theorem outputFrame_never_grows {g : Stage} (muted : Bool) (f : Frame) (c : Fin 8) (hg : g.applied ≤ 96) :
    ((outputFrame g muted f).get c).natAbs ≤ (f.get c).natAbs ∧
      (0 ≤ f.get c → 0 ≤ (outputFrame g muted f).get c) ∧ (f.get c ≤ 0 → (outputFrame g muted f).get c ≤ 0) := by
  rcases outputFrame_get g muted f c with hzero | hscaled
  · rw [hzero]
    omega
  · rw [hscaled]
    rcases le_total 0 (f.get c) with hx | hx
    · have rising := scaleSample_of_nonneg hx (gain_le_unity hg)
      omega
    · have falling := scaleSample_of_nonpos hx (gain_le_unity hg)
      omega

/-- Settles O8: the strict fall of the gains bounds them by unity, and scaling by at most unity never grows. -/
theorem gainsFallAndSamplesNeverGrow : Obligations.GainsFallAndSamplesNeverGrow := by
  refine ⟨⟨?table, rfl, rfl, fun a _ => gain_add_twelve a, ?fall⟩, ?output, ?deeper⟩
  case table =>
    rintro a - T rfl
    rfl
  case fall => exact fun a b hab hb => gain_strictAntiOn (hab.le.trans hb) hb hab
  case output => exact fun g muted f c hg _ _ => outputFrame_never_grows muted f c hg
  case deeper =>
    intro a b x hab hb _ _
    have ha : a ≤ 96 := hab.trans hb
    exact natAbs_scaleSample_mono x (gain_strictAntiOn.antitoneOn ha hb hab) (gain_le_unity ha)

end Sys2Proof.Machine
end

section
/-! PROOFS. Chapter 3: a loop stall (R49, R53). What a stall makes of a slot and of the loop is said once for each of
its two forms; the arbiter then finds the loop free with no scan, and takes the most urgent of what is pending. -/

namespace Sys2Proof.Machine

/-! ## Banks of 8: some entry has a property -/

theorem Bank8.any_toList {α : Type} (b : Bank8 α) (p : α → Bool) :
    b.toList.any p = true ↔ ∃ i, p (b.get i) = true := by
  simp [Bank8.toList_eq, mem_allZones]

theorem Bank8.map_ne_self_iff {α : Type} (b : Bank8 α) (f : α → α) :
    b.map f ≠ b ↔ ∃ i, f (b.get i) ≠ b.get i := by
  constructor
  · intro hne
    by_contra! hall
    exact hne (Bank8.eq_of_get fun i => by rw [Bank8.get_map, hall i])
  · rintro ⟨i, hi⟩ heq
    exact hi (by rw [← b.get_map f, heq])

/-! ## A slot at a stall -/

theorem UnitSlot.stall_of_serving {u : UnitSlot} (h : u.state = .seeking ∨ u.state = .active) :
    u.stall = { u with state := .seeking, failed := 0 } := by
  rcases h with h | h <;> simp [UnitSlot.stall, h]

theorem UnitSlot.stall_of_idle {u : UnitSlot} (h : u.state = .vacant ∨ u.state = .lost) : u.stall = u := by
  rcases h with h | h <;> simp [UnitSlot.stall, h]

theorem UnitSlot.resetStall_eq (now : Nat) (u : UnitSlot) :
    u.resetStall now =
      if u.state = .vacant ∨ (u.state = .lost ∧ u.cause = some .loopStall) then u else u.lose now .loopStall := by
  unfold UnitSlot.resetStall
  split <;> simp_all

theorem UnitSlot.lose_eq_self {now : Nat} {cause : LostCause} {u : UnitSlot} (h : u.lose now cause = u) :
    u.state = .lost ∧ u.cause = some cause :=
  ⟨congrArg UnitSlot.state h.symm, congrArg UnitSlot.cause h.symm⟩

/-- A stall of the LOOP RESET changes a slot exactly where it changes the slot's state or cause (R53). -/
theorem UnitSlot.resetStall_ne_self_iff (now : Nat) (u : UnitSlot) :
    u.resetStall now ≠ u ↔ u.state ≠ .vacant ∧ (u.state ≠ .lost ∨ u.cause ≠ some .loopStall) := by
  rw [UnitSlot.resetStall_eq]
  split
  · next hkept => tauto
  · next hlost =>
    have hne : u.lose now .loopStall ≠ u := fun h => hlost (.inr (UnitSlot.lose_eq_self h))
    tauto

/-! ## The probe that a stall abandons (R41, R49) -/

@[simp] theorem abandonProbe_keeps (now : Nat) (k : Loop) :
    (k.abandonProbe now).pendingMark = k.pendingMark ∧ (k.abandonProbe now).latn = k.latn := by
  unfold Loop.abandonProbe
  split <;> simp

theorem abandonProbe_get (now : Nat) (k : Loop) (a : SlotId) :
    (k.abandonProbe now).slots.get a =
      if k.flight = some ⟨.identify a true, false⟩ then (k.slots.get a).probeAgain now else k.slots.get a := by
  unfold Loop.abandonProbe
  split
  · next b hprobe =>
    by_cases hab : a = b
    · simp [hprobe, hab]
    · simp [hprobe, hab, Ne.symm hab]
  · next hother => rw [if_neg (hother a)]

@[simp] theorem abandonProbe_slotState (now : Nat) (k : Loop) (a : SlotId) :
    (k.abandonProbe now).slotState a = k.slotState a := by
  unfold Loop.slotState
  rw [abandonProbe_get]
  split <;> rfl

/-! ## The loop at a stall -/

/-- R53: the loop and the notice of a stall found during a LOOP RESET. -/
theorem stall_of_reset (now : Nat) {k : Loop} (h : k.flight.map Flight.transaction = some .loopReset) :
    k.stall now =
      ({ k with flight := none, slots := k.slots.map (UnitSlot.resetStall now) },
        decide (∃ a : SlotId, k.slotState a ≠ .vacant ∧
          (k.slotState a ≠ .lost ∨ (k.slots.get a).cause ≠ some .loopStall))) := by
  rw [Loop.stall, if_pos h]
  refine Prod.ext rfl (decide_eq_decide.mpr ?_)
  simp only [Bank8.map_ne_self_iff, UnitSlot.resetStall_ne_self_iff, Loop.slotState]

/-- R49: a stall found outside a LOOP RESET abandons the transaction, ends the scan and makes a LOOP RESET pending. -/
theorem stall_clears_of_not_reset (now : Nat) {k : Loop} (h : k.flight.map Flight.transaction ≠ some .loopReset) :
    (k.stall now).1.flight = none ∧ (k.stall now).1.scan = none ∧ (k.stall now).1.identifyFirst = false ∧
    (k.stall now).1.pendingReset = true ∧ (k.stall now).1.pendingMark = k.pendingMark ∧
    (k.stall now).1.latn = k.latn := by
  rw [Loop.stall, if_neg h]
  simp

theorem stall_get_of_not_reset (now : Nat) {k : Loop} (h : k.flight.map Flight.transaction ≠ some .loopReset)
    (a : SlotId) : (k.stall now).1.slots.get a = ((k.abandonProbe now).slots.get a).stall := by
  rw [Loop.stall, if_neg h]
  simp

theorem stall_get_of_serving (now : Nat) {k : Loop} {a : SlotId}
    (h : k.flight.map Flight.transaction ≠ some .loopReset) (hprobe : k.flight ≠ some ⟨.identify a true, false⟩)
    (hserving : (k.slots.get a).state = .seeking ∨ (k.slots.get a).state = .active) :
    (k.stall now).1.slots.get a = { k.slots.get a with state := .seeking, failed := 0 } := by
  rw [stall_get_of_not_reset now h, abandonProbe_get, if_neg hprobe, UnitSlot.stall_of_serving hserving]

theorem stall_get_of_idle (now : Nat) {k : Loop} {a : SlotId}
    (h : k.flight.map Flight.transaction ≠ some .loopReset)
    (hidle : (k.slots.get a).state = .vacant ∨ (k.slots.get a).state = .lost) :
    (k.stall now).1.slots.get a =
      if k.flight = some ⟨.identify a true, false⟩ then (k.slots.get a).probeAgain now else k.slots.get a := by
  have hidle' : (k.abandonProbe now).slotState a = .vacant ∨ (k.abandonProbe now).slotState a = .lost := by
    rwa [abandonProbe_slotState]
  rw [stall_get_of_not_reset now h, UnitSlot.stall_of_idle hidle', abandonProbe_get]

/-- R49: UNIT_CHANGE is raised where a slot leaves ACTIVE. -/
theorem stall_notice_of_not_reset (now : Nat) {k : Loop} (h : k.flight.map Flight.transaction ≠ some .loopReset) :
    (k.stall now).2 = decide (∃ a : SlotId, k.slotState a = .active) := by
  have hstate : ∀ a, ((k.abandonProbe now).slots.get a).state = k.slotState a := abandonProbe_slotState now k
  rw [Loop.stall, if_neg h, Bool.eq_iff_iff, Bank8.any_toList]
  simp only [hstate, decide_eq_true_eq]

/-! ## The arbiter behind a stall (R43) -/

theorem settleScan_of_no_scan {k : Loop} (h : k.scan = none) : k.settleScan = k := by
  simp [Loop.settleScan, h]

/-- The pending MARK goes before a LOOP RESET. -/
theorem arbitrate_of_pendingMark {k : Loop} {tag : Nat} (hfree : k.flight = none) (hscan : k.scan = none)
    (hmark : k.pendingMark = some tag) : k.arbitrate = { k with pendingMark := none }.begin (.mark tag) := by
  simp [Loop.arbitrate, hfree, settleScan_of_no_scan hscan, Loop.choose, hmark]

theorem arbitrate_of_pendingReset {k : Loop} (hfree : k.flight = none) (hscan : k.scan = none)
    (hmark : k.pendingMark = none) (hreset : k.pendingReset = true) :
    k.arbitrate = { k with pendingReset := false }.begin .loopReset := by
  simp [Loop.arbitrate, hfree, settleScan_of_no_scan hscan, Loop.choose, hmark, hreset]

/-- Behind a stall the arbiter leaves the slots and the absent scan alone, and holds no MARK back. -/
theorem arbitrate_keeps_of_pendingReset {k : Loop} (hfree : k.flight = none) (hscan : k.scan = none)
    (hreset : k.pendingReset = true) :
    k.arbitrate.slots = k.slots ∧ k.arbitrate.scan = none ∧ k.arbitrate.identifyFirst = k.identifyFirst ∧
    k.arbitrate.pendingMark = none := by
  cases hmark : k.pendingMark with
  | none => simp [arbitrate_of_pendingReset hfree hscan hmark hreset, hscan, hmark]
  | some tag => simp [arbitrate_of_pendingMark hfree hscan hmark, hscan]

/-! ## The command -/

/-- A move of the loop with the arbiter behind it touches the loop and the links alone. -/
theorem loopMove_arbitrate (f : Loop → Loop × Bool) (s : State) :
    (s.loopMove f).arbitrate =
      { s with loop := (f s.loop).1.arbitrate, links := (s.raiseOfficerIf (f s.loop).2 .unitChange).links } := by
  simp only [State.loopMove, State.raiseOfficerIf]
  split <;> rfl

theorem exec_loopStall (s : State) :
    exec .loopStall s =
      .next { s with
        loop := (s.loop.stall s.now).1.arbitrate
        links := (s.raiseOfficerIf (s.loop.stall s.now).2 .unitChange).links } :=
  congrArg Host.Outcome.next (loopMove_arbitrate (Loop.stall s.now) s)

/-- Settles O22: the stalled loop is one case of R49 and one of R53, and the arbiter finds it free. -/
theorem stallClearsTheLoop : Obligations.StallClearsTheLoop := by
  intro s
  constructor
  · intro hflight
    refine ⟨_, exec_loopStall s, rfl, ?_⟩
    obtain ⟨hfree, hscan, hfirst, hreset, hmark, hlatn⟩ := stall_clears_of_not_reset s.now hflight
    obtain ⟨kslots, kscan, kfirst, kmark⟩ := arbitrate_keeps_of_pendingReset hfree hscan hreset
    refine ⟨by rw [stall_notice_of_not_reset s.now hflight], kscan, kfirst.trans hfirst,
      (arbitrate_latn _).trans hlatn, kmark, ?reset, ?mark, ?slots⟩
    case reset =>
      intro hnone
      simp [arbitrate_of_pendingReset hfree hscan (hmark.trans hnone) hreset]
    case mark =>
      intro tag htag
      simp [arbitrate_of_pendingMark hfree hscan (hmark.trans htag), hreset]
    case slots =>
      rintro a u rfl
      dsimp only
      rw [kslots]
      exact ⟨fun hserving hprobe => stall_get_of_serving s.now hflight hprobe hserving,
        fun hidle => stall_get_of_idle s.now hflight hidle⟩
  · intro hflight
    refine ⟨_, exec_loopStall s, rfl, ?_⟩
    rw [stall_of_reset s.now hflight, funext (UnitSlot.resetStall_eq s.now)]
    exact ⟨rfl, rfl⟩

end Sys2Proof.Machine
end

section
/-! PROOFS. Chapter 4: the close of a zone account (R67 to R77). What a close finds of its second is said once for a
usable record and once for its absence, what a ring keeps once for both rings, and what the demand controller does once
for each of its four branches. -/

namespace Sys2Proof.Machine

/-! ## What a close finds (R67 to R69) -/

theorem usable_iff (r : MeasurementRecord) : usable r = true ↔ r.wind = false ∧ r.cal = false := by
  simp [usable]

theorem not_usable_iff (r : MeasurementRecord) : usable r = false ↔ r.wind = true ∨ r.cal = true := by
  cases hwind : r.wind <;> simp [usable, hwind]

theorem measuredLevels_of_overload {r : MeasurementRecord} (h : r.overload = true) :
    measuredLevels r = ⟨1300, 1300⟩ := by
  simp [measuredLevels, h]

theorem measuredLevels_of_no_overload {r : MeasurementRecord} (h : r.overload = false) :
    measuredLevels r = ⟨clampTo 400 1300 r.broadRaw, clampTo 400 1300 r.lowRaw⟩ := by
  simp [measuredLevels, h, clampLevel, Config.minLevel, Config.maxLevel]

/-- R67: a usable record closes its second measured. -/
theorem closing_of_usable (zn : Zone) {r : MeasurementRecord} (h : usable r = true) :
    zn.closing (some r) = ⟨measuredLevels r, 0, some (measuredLevels r), false⟩ := by
  simp [Zone.closing, h]

/-- R68: without a usable record the second is substituted, by the missing run that now includes it. -/
theorem closing_of_no_usable (zn : Zone) {rec : Option MeasurementRecord} (h : ∀ r ∈ rec, usable r = false) :
    zn.closing rec =
      ⟨if min 255 (zn.missingRun + 1) ≤ 2 then zn.hold.getD zn.config.fallback else zn.config.fallback,
        min 255 (zn.missingRun + 1), zn.hold, true⟩ := by
  cases rec with
  | none => rfl
  | some r => simp [Zone.closing, h r rfl]

/-- A second is substituted exactly when it leaves a missing run. -/
theorem closing_substituted (zn : Zone) (rec : Option MeasurementRecord) :
    (zn.closing rec).substituted = true ↔ (zn.closing rec).missingRun ≠ 0 := by
  by_cases h : ∀ r ∈ rec, usable r = false
  · rw [closing_of_no_usable zn h]
    simp
  · push Not at h
    obtain ⟨r, rfl, hr⟩ := h
    rw [closing_of_usable zn (by simpa using hr)]
    simp

theorem feedOf_of_pos {n : Nat} (h : 0 < n) : feedOf n = if n ≤ 2 then .holding else .fallback := by
  rw [feedOf, if_neg h.ne']

/-! ## What a ring keeps (R70, R71) -/

/-- Dropping from a full list just enough to make room keeps the newest `n` figures. -/
theorem dropOldest_append {α : Type} (l : List α) (x : α) {n : Nat} (hn : 0 < n) :
    (if n ≤ l.length then l.drop (l.length + 1 - n) else l) ++ [x] = (l ++ [x]).drop ((l ++ [x]).length - n) := by
  rw [List.length_append, List.length_singleton, List.drop_append_of_le_length (by omega)]
  split
  · rfl
  · next hroom => rw [show l.length + 1 - n = 0 by omega, List.drop_zero]

theorem pushSecond_eq_newest (l : List Nat) (e : Nat) :
    pushSecond l e = (l ++ [e]).drop ((l ++ [e]).length - 10) :=
  dropOldest_append l e (by decide)

theorem opensSlot_nil (minute : Option Nat) : opensSlot [] minute = true := rfl

theorem opensSlot_iff_of_getLast? {l : List MinuteSlot} {last : MinuteSlot} (h : l.getLast? = some last)
    (minute : Option Nat) : opensSlot l minute = true ↔ last.minute ≠ minute ∨ 60 ≤ last.counted := by
  simp [opensSlot, h]

/-- R71: a second that opens a slot stands in it alone, and the ring keeps its newest fifteen slots. -/
theorem pushMinute_of_opens {l : List MinuteSlot} {minute : Option Nat} (h : opensSlot l minute = true)
    {energies : Pair Nat} {substituted : Bool} {entry : MinuteSlot}
    (hentry : entry = ⟨minute, energies, 1, if substituted then 1 else 0⟩) :
    pushMinute l minute energies substituted = (l ++ [entry]).drop ((l ++ [entry]).length - 15) := by
  rw [← dropOldest_append _ _ (by decide), pushMinute, if_pos h, hentry]
  simp [MinuteSlot.add, Config.minuteRing]

/-- R71: any other second is added to the newest slot. -/
theorem pushMinute_of_extends {l : List MinuteSlot} {last : MinuteSlot} {minute : Option Nat}
    (hlast : l.getLast? = some last) (h : opensSlot l minute = false) (energies : Pair Nat) (substituted : Bool) :
    pushMinute l minute energies substituted = l.dropLast ++ [last.add energies substituted] := by
  simp [pushMinute, h, hlast]

/-! ## What a close leaves in the rings and the levels (R70 to R72) -/

section Close
variable (zn : Zone) (now : Nat) (limits : Pair Nat) (aw : Awaiting) (rec : Option MeasurementRecord)

theorem close_slots :
    (zn.close now limits aw rec).slots =
      pushMinute zn.slots aw.minute ((zn.closing rec).levels.map fun l : Nat => levelToEnergy (l : Int))
        (zn.closing rec).substituted := rfl

theorem close_seconds_get (m : Metric) :
    (zn.close now limits aw rec).seconds.get m =
      pushSecond (zn.seconds.get m) (levelToEnergy (((zn.closing rec).levels.get m : Nat) : Int)) := by
  simp [Zone.close]

variable {zn now limits aw rec} {v : Pair MetricLevels}

/-- The levels of a close: the closing level it found, and the two levels of the rings it leaves. -/
theorem close_levels_get (h : (zn.close now limits aw rec).levels = some v) (m : Metric) :
    v.get m =
      ⟨(zn.closing rec).levels.get m, levelOfList ((zn.close now limits aw rec).seconds.get m),
        rollingLevel zn.config.window (zn.close now limits aw rec).slots m⟩ := by
  obtain rfl := Option.some.inj h
  cases m <;> rfl

theorem close_closing_get (h : (zn.close now limits aw rec).levels = some v) (m : Metric) :
    (v.get m).closing = (zn.closing rec).levels.get m := by
  rw [close_levels_get h]

theorem close_closing_eq (h : (zn.close now limits aw rec).levels = some v) :
    (⟨v.broad.closing, v.low.closing⟩ : Pair Nat) = (zn.closing rec).levels :=
  congrArg₂ Pair.mk (close_closing_get h .broad) (close_closing_get h .low)

/-- R74 to R77: a close steers by the greater error and the fast excesses of the levels it leaves. -/
theorem close_steering (h : (zn.close now limits aw rec).levels = some v) {e : Int} {isFast : Bool}
    (he : e = max (levelError zn.config limits.broad v.broad) (levelError zn.config limits.low v.low))
    (hfast : isFast =
      (decide (0 < fastExcess zn.config limits.broad v.broad) || decide (0 < fastExcess zn.config limits.low v.low))) :
    (⟨(zn.close now limits aw rec).demand, (zn.close now limits aw rec).settle,
        (zn.close now limits aw rec).releaseCount⟩ : Steering) =
      steer zn.config now e (demandBranch zn.config isFast e zn.settle.isNone)
        ⟨zn.demand, zn.settle, zn.releaseCount⟩ := by
  subst he hfast
  obtain rfl := Option.some.inj h
  rfl

end Close

/-- Settles O28: the clauses of R67 and R68 are the two forms of a closing, those of R70 and R71 the two rings. -/
theorem closeTakesLevelsIntoRings : Obligations.CloseTakesLevelsIntoRings := by
  rintro zn now limits aw rec n rfl v hv
  obtain ⟨-, -, hawaiting, hrun, hfeed, hhold⟩ := close_keeps zn now limits aw rec
  have hclosing := close_closing_eq hv
  refine ⟨?measured, ?substituted, hawaiting, ?levels, ?slots⟩
  case measured =>
    rintro r rfl hwind hcal
    rw [closing_of_usable zn ((usable_iff r).mpr ⟨hwind, hcal⟩)] at hrun hfeed hhold hclosing
    refine ⟨hrun, hfeed, by rw [hhold, hclosing], fun hover => ?_, fun hover => ?_⟩
    · rw [measuredLevels_of_overload hover] at hclosing
      simpa using hclosing
    · rw [measuredLevels_of_no_overload hover] at hclosing
      simpa using hclosing
  case substituted =>
    intro hbad
    rw [closing_of_no_usable zn fun r hr => (not_usable_iff r).mpr (hbad r hr)] at hrun hfeed hhold hclosing
    rw [hrun]
    exact ⟨rfl, hhold, hfeed.trans (feedOf_of_pos (by simp)), hclosing⟩
  case levels =>
    rintro m ring rfl
    rw [close_levels_get hv, close_seconds_get]
    exact ⟨pushSecond_eq_newest _ _, rfl, rfl⟩
  case slots =>
    intro entry hentry
    have hslots := close_slots zn now limits aw rec
    have hcount : (if (zn.close now limits aw rec).missingRun = 0 then 0 else 1) =
        if (zn.closing rec).substituted then 1 else 0 := by
      simp [closing_substituted]
    rw [← hclosing, Pair.map] at hslots
    rw [hcount] at hentry
    refine ⟨fun hnil => ?_, fun last hlast => ⟨fun hopens => ?_, fun hsame hroom => ?_⟩⟩
    · rw [hslots, hnil, pushMinute_of_opens (opensSlot_nil _) hentry]
      rfl
    · rw [hslots, pushMinute_of_opens ((opensSlot_iff_of_getLast? hlast _).mpr hopens) hentry]
    · have hextends : opensSlot zn.slots aw.minute = false := by
        simp [← Bool.not_eq_true, opensSlot_iff_of_getLast? hlast, hsame, hroom]
      rw [hslots, pushMinute_of_extends hlast hextends, hentry]
      rfl

/-! ## The demand controller (R74 to R77) -/

theorem fastExcess_pos_iff (cfg : ZoneConfig) (limit : Nat) (v : MetricLevels) :
    0 < fastExcess cfg limit v ↔ limit + cfg.fastMargin < v.closing := by
  unfold fastExcess
  omega

section Branches
variable (cfg : ZoneConfig) {x : Int} {expired : Bool}

theorem demandBranch_fast (x : Int) (expired : Bool) : demandBranch cfg true x expired = .fast := rfl

theorem demandBranch_attack (h : 0 < x) (hexpired : expired = true) :
    demandBranch cfg false x expired = .attack := by
  simp [demandBranch, h, hexpired]

/-- A release margin is never negative, so an error below it is no attack. -/
theorem demandBranch_release (h : x < -(cfg.releaseMargin : Int)) (expired : Bool) :
    demandBranch cfg false x expired = .release := by
  have hneg : ¬ 0 < x := by omega
  simp [demandBranch, h, hneg]

theorem demandBranch_hold (h : -(cfg.releaseMargin : Int) ≤ x) (hno : ¬(0 < x ∧ expired = true)) :
    demandBranch cfg false x expired = .hold := by
  have hattack : (decide (0 < x) && expired) = false := by simpa using hno
  simp [demandBranch, hattack, h.not_gt]

end Branches

section Steer
variable (cfg : ZoneConfig) (now : Nat) (x : Int) {v : Steering}

theorem steer_hold (hd : v.demand ≤ 96) : steer cfg now x .hold v = ⟨v.demand, v.settle, 0⟩ := by
  simp [steer, hd]

theorem steer_release_of_counting (hd : v.demand ≤ 96) (h : v.releaseCount + 1 < cfg.releaseInterval) :
    steer cfg now x .release v = ⟨v.demand, v.settle, v.releaseCount + 1⟩ := by
  simp [steer, hd, h.not_ge]

theorem steer_release_of_interval (hd : v.demand ≤ 96) (h : cfg.releaseInterval ≤ v.releaseCount + 1) :
    steer cfg now x .release v = ⟨v.demand - 1, v.settle, 0⟩ := by
  have hroom : v.demand - 1 ≤ 96 := by omega
  simp only [steer, if_pos h, min_eq_right hroom]

end Steer

/-- Settles O29: each clause names one branch of the controller, and the close steers by that branch. -/
theorem closeSteersDemand : Obligations.CloseSteersDemand := by
  rintro zn now limits aw rec hdemand n rfl v hv above rfl target rfl e he isFast hfast due rfl
  have hsteer := close_steering hv he (isFast := isFast) (by simp [hfast, fastExcess_pos_iff])
  refine ⟨?fast, ?attack, ?hold, ?release⟩
  case fast =>
    rintro rfl
    rw [demandBranch_fast] at hsteer
    exact Steering.mk.inj hsteer
  case attack =>
    rintro rfl hpos hexpired
    rw [demandBranch_attack _ hpos (by simp [hexpired])] at hsteer
    exact Steering.mk.inj hsteer
  case hold =>
    rintro rfl hmargin hno
    rw [demandBranch_hold _ hmargin (by simpa using hno), steer_hold _ _ _ hdemand] at hsteer
    exact Steering.mk.inj hsteer
  case release =>
    rintro rfl hbelow
    rw [demandBranch_release _ hbelow] at hsteer
    rcases Nat.lt_or_ge (zn.releaseCount + 1) zn.config.releaseInterval with hcount | hcount
    · rw [steer_release_of_counting _ _ _ hdemand hcount] at hsteer
      obtain ⟨hd, hs, hr⟩ := Steering.mk.inj hsteer
      exact ⟨hs, fun _ => ⟨hd, hr⟩, fun hreached => absurd hcount hreached.not_gt⟩
    · rw [steer_release_of_interval _ _ _ hdemand hcount] at hsteer
      obtain ⟨hd, hs, hr⟩ := Steering.mk.inj hsteer
      exact ⟨hs, fun hbefore => absurd hcount hbefore.not_ge, fun _ => ⟨hd, hr⟩⟩

end Sys2Proof.Machine
end

section
/-! PROOFS. Chapter 6: ENCORE (R119 to R121). The window, the judgement and the start of a grant are each said once,
case by case; a request taken on an idle desk link then either is refused and changes nothing, or leaves the state its
grant starts. -/

namespace Sys2Proof.Machine

/-! ## Tags (R15, R113) -/

theorem tagDistance_of_lt {tag : Nat} (h : tag < 65536) (later : Nat) :
    tagDistance later tag = (later + 65536 - tag) % 65536 := by
  rw [tagDistance, Nat.mod_eq_of_lt h]

/-- A tag set back by less than a whole turn lies that much further off. -/
theorem tagDistance_tagPlus {later tag n : Nat} (h : tagDistance later tag + n < 65536) :
    tagDistance (tagPlus later n) tag = tagDistance later tag + n := by
  simp only [tagDistance, tagPlus] at h ⊢
  omega

theorem tagDistance_self (tag : Nat) : tagDistance tag tag = 0 := by
  simp only [tagDistance]
  omega

/-! ## Notices and replies of a desk link -/

theorem noticeAt_raiseDesk_self (s : State) (st : StageId) (k : DeskNotice) {n : Nat} (hn : n < 16) :
    noticeAt (.desk st) n (s.raiseDesk st k) = (noticeAt (.desk st) n s || decide (n = k.position)) := by
  rw [noticeAt, raiseDesk_links_get, if_pos rfl, raise_pending _ _ _ hn]

theorem noticeAt_raiseOfficer_self (s : State) (k : OfficerNotice) {n : Nat} (hn : n < 16) :
    noticeAt .officer n (s.raiseOfficer k) = (noticeAt .officer n s || decide (n = k.position)) := by
  rw [noticeAt, raiseOfficer_links_get, if_pos rfl, raise_pending _ _ _ hn]

/-- The officer's notices leave a desk's alone. -/
theorem noticeAt_desk_raiseOfficer (s : State) (st : StageId) (k : OfficerNotice) (n : Nat) :
    noticeAt (.desk st) n (s.raiseOfficer k) = noticeAt (.desk st) n s := by
  rw [noticeAt, raiseOfficer_links_get, if_neg (by simp)]

theorem noticeAt_send (s : State) (l m : LinkId) (message : List Byte) (n : Nat) :
    noticeAt l n (s.send m message) = noticeAt l n s := by
  simp only [noticeAt, send_links, links_get_set]
  split
  · next h => rw [h]
  · rfl

theorem noticeAt_encore_raised (s : State) (l : LinkId) (message : List Byte) :
    noticeAt .officer 8 ((s.raiseOfficer .encore).send l message) = true := by
  rw [noticeAt_send, noticeAt_raiseOfficer_self _ _ (by decide)]
  exact Bool.or_true _

theorem sentReply_send (s : State) (l : LinkId) (kind : Byte) (payload : List Byte) :
    sentReply l (s.send l (messageFrame kind payload)) = some (kind, payload) := by
  simp [sentReply, messageFrame, withCheck]

/-- The sending of a reply changes nothing that an ENCORE reply gives. -/
theorem encoreReply_send (code : ReplyCode) (asked granted : Nat) (s : State) (st : StageId) (l : LinkId)
    (message : List Byte) :
    encoreReply code asked granted (s.send l message) st = encoreReply code asked granted s st := rfl

/-- A change of a stage raises no desk notice but ATTENUATING (R110). -/
theorem noticeAt_changeStage (s : State) (st : StageId) (f : Stage → Stage) {n : Nat} (hn : n < 16)
    (hother : n ≠ DeskNotice.attenuating.position) :
    noticeAt (.desk st) n (s.changeStage st f) = noticeAt (.desk st) n s := by
  rw [noticeAt, changeStage_links]
  split
  · rw [← noticeAt, noticeAt_raiseDesk_self _ _ _ hn, decide_eq_false hother, Bool.or_false]
  · rfl

/-! ## The end-soon test (R122) -/

section EndSoon
variable {s : State} {st : StageId} {minutes e : Nat} (h : (s.curfew.get st).grant = .running minutes e)
include h

theorem secondsLeft_of_running : secondsLeft s st = tagDistance e s.timeBase.tag := by
  simp only [secondsLeft, h]

theorem endSoonTest_of_running :
    s.endSoonTest st =
      if tagDistance e s.timeBase.tag ≤ 60 ∧ (s.curfew.get st).endSoon = false then
        (s.onCurfew st fun c => { c with endSoon := true }).raiseDesk st .encoreEndSoon
      else s := by
  simp [State.endSoonTest, secondsLeft_of_running h, h, Grant.isRunning]

theorem endSoonTest_curfew :
    (s.endSoonTest st).curfew =
      s.curfew.set st { s.curfew.get st with
        endSoon := (s.curfew.get st).endSoon || decide (tagDistance e s.timeBase.tag ≤ 60) } := by
  rw [endSoonTest_of_running h]
  split
  · next hsoon => simp [Bank4.modify, hsoon]
  · next hlater =>
    have hsame : ((s.curfew.get st).endSoon || decide (tagDistance e s.timeBase.tag ≤ 60)) =
        (s.curfew.get st).endSoon := by
      cases hflag : (s.curfew.get st).endSoon <;> simp_all
    rw [hsame]
    exact (Bank4.set_get _ _).symm

/-- ENCORE_END_SOON is raised once, by the test that finds a minute left. -/
theorem noticeAt_endSoonTest :
    noticeAt (.desk st) 4 (s.endSoonTest st) =
      (noticeAt (.desk st) 4 s ||
        (decide (tagDistance e s.timeBase.tag ≤ 60) && !(s.curfew.get st).endSoon)) := by
  rw [endSoonTest_of_running h]
  split
  · next hsoon => rw [noticeAt_raiseDesk_self _ _ _ (by decide)]; simp [hsoon, DeskNotice.position]
  · next hlater => cases hflag : (s.curfew.get st).endSoon <;> simp_all

end EndSoon

/-! ## The window (R119) -/

/-- Whether the first case of R119 holds: up to 300 s before the onset. -/
def opensBefore (s : State) (st : StageId) : Bool :=
  noZone (s.curfew.get st).zones && !(s.curfew.get st).grant.isRunning &&
    (onsetSeconds s st).any fun n => decide (1 ≤ n) && decide (n ≤ Config.bookWindow)

/-- Whether the second case of R119 is the one that holds: up to 120 marks behind the onset. -/
def opensLate (s : State) (st : StageId) : Bool :=
  (s.stages.get st).reasons.curfew && !(s.curfew.get st).grant.isRunning && !opensBefore s st &&
    (s.curfew.get st).onsetTag.any fun tag => decide (tagDistance s.timeBase.tag tag ≤ Config.lateWindow)

/-- The cases of the window, in the order of their checks: a request that both an onset to come and one just past would
pass is one before the onset. -/
theorem encoreWindow_eq (s : State) (st : StageId) :
    encoreWindow s st =
      if (s.curfew.get st).grant.isRunning then some .extension
      else if opensBefore s st then some .before
      else if opensLate s st then some .late
      else none := by
  have hcases : encoreWindow s st =
      if (s.curfew.get st).grant.isRunning then some .extension
      else if opensBefore s st then some .before
      else if (s.stages.get st).reasons.curfew && (s.curfew.get st).onsetTag.any fun tag =>
        decide (tagDistance s.timeBase.tag tag ≤ Config.lateWindow) then some .late
      else none := by
    cases honset : onsetSeconds s st <;> cases htag : (s.curfew.get st).onsetTag <;>
      simp only [encoreWindow, opensBefore, honset, htag, Option.any]
  cases hrun : (s.curfew.get st).grant.isRunning <;> cases hbefore : opensBefore s st <;>
    simp [hcases, opensLate, hrun, hbefore]

section Window
variable {s : State} {st : StageId}

theorem encoreWindow_of_running (h : (s.curfew.get st).grant.isRunning = true) :
    encoreWindow s st = some .extension := by
  rw [encoreWindow_eq, if_pos h]

theorem encoreWindow_of_before (hbefore : opensBefore s st = true) : encoreWindow s st = some .before := by
  have hstill : (s.curfew.get st).grant.isRunning = false := by
    simp only [opensBefore, Bool.and_eq_true, Bool.not_eq_true'] at hbefore
    obtain ⟨⟨-, hstill⟩, -⟩ := hbefore
    exact hstill
  simp [encoreWindow_eq, hstill, hbefore]

theorem encoreWindow_of_late (hlate : opensLate s st = true) : encoreWindow s st = some .late := by
  obtain ⟨hstill, hbefore⟩ : (s.curfew.get st).grant.isRunning = false ∧ opensBefore s st = false := by
    simp only [opensLate, Bool.and_eq_true, Bool.not_eq_true'] at hlate
    obtain ⟨⟨⟨-, hstill⟩, hbefore⟩, -⟩ := hlate
    exact ⟨hstill, hbefore⟩
  simp [encoreWindow_eq, hstill, hbefore, hlate]

theorem encoreWindow_of_none (hbefore : opensBefore s st = false) (hlate : opensLate s st = false)
    (hstill : (s.curfew.get st).grant.isRunning = false) : encoreWindow s st = none := by
  simp [encoreWindow_eq, hbefore, hlate, hstill]

end Window

/-! ## The zones (R120) -/

theorem coupledOver_eq (s : State) (st : StageId) :
    coupledOver s st = allZones.any fun z =>
      (s.zones.get z).enabled && decide (0 < (s.stages.get st).record.coupling.get z) &&
        decide ((s.zones.get z).conditions.broad = .over ∨ (s.zones.get z).conditions.low = .over) := by
  simp only [coupledOver, reaches, Bool.decide_or]

/-! ## The judgement (R119, R120) -/

/-- The minutes that the stage total and the pool leave of those asked for (R120). -/
def minutesLeftFor (s : State) (st : StageId) (asked : Nat) : Nat :=
  min (min asked (15 - (s.curfew.get st).total)) s.pool

theorem judgeEncore_of_no_window {s : State} {st : StageId} (h : encoreWindow s st = none) (m : Nat) :
    judgeEncore s st m = .inl .outsideWindow := by
  simp only [judgeEncore, h]

section Judgement
variable {s : State} {st : StageId} {w : EncoreCase} (hw : encoreWindow s st = some w) (m : Nat)
include hw

theorem judgeEncore_of_total (ht : 15 ≤ (s.curfew.get st).total) : judgeEncore s st m = .inl .limitReached := by
  simp only [judgeEncore, hw]
  exact if_pos ht

theorem judgeEncore_of_over (ht : (s.curfew.get st).total < 15) (ho : coupledOver s st = true) :
    judgeEncore s st m = .inl .zoneOver := by
  simp [judgeEncore, hw, Config.maxTotal, ht.not_ge, ho]

theorem judgeEncore_of_no_pool (ht : (s.curfew.get st).total < 15) (ho : coupledOver s st = false)
    (hp : s.pool = 0) : judgeEncore s st m = .inl .poolShort := by
  simp [judgeEncore, hw, Config.maxTotal, ht.not_ge, ho, hp]

theorem judgeEncore_of_pass (ht : (s.curfew.get st).total < 15) (ho : coupledOver s st = false)
    (hp : 0 < s.pool) (hnew : w ≠ .extension) :
    judgeEncore s st m = .inr (w, minutesLeftFor s st m) := by
  cases w with
  | extension => exact absurd rfl hnew
  | before => simp [judgeEncore, hw, Config.maxTotal, ht.not_ge, ho, hp.ne', minutesLeftFor]
  | late => simp [judgeEncore, hw, Config.maxTotal, ht.not_ge, ho, hp.ne', minutesLeftFor]

end Judgement

theorem judgeEncore_of_extension {s : State} {st : StageId} (hw : encoreWindow s st = some .extension) (m : Nat)
    (ht : (s.curfew.get st).total < 15) (ho : coupledOver s st = false) (hp : 0 < s.pool) {h : Nat}
    (hh : h = min (minutesLeftFor s st m) ((32767 - secondsLeft s st) / 60)) :
    judgeEncore s st m = if h = 0 then .inl .limitReached else .inr (.extension, h) := by
  simp [judgeEncore, hw, Config.maxTotal, Config.maxSecondsLeft, ht.not_ge, ho, hp.ne', hh, minutesLeftFor]

/-! ## The start of a grant (R120, R121) -/

/-- The curfew unit once `g` minutes are drawn for a stage and its grant stands as given. -/
def State.withGrant (st : StageId) (g : Nat) (grant : Grant) (soon : Bool) (s : State) : State :=
  { s with
    pool := s.pool - g
    curfew := s.curfew.set st
      { s.curfew.get st with grant := grant, endSoon := soon, total := (s.curfew.get st).total + g } }

/-- A late grant runs from the present tag, and its stage comes back in. -/
def State.lateStart (st : StageId) (g : Nat) (s : State) : State :=
  (s.withGrant st g (.running g (tagPlus s.timeBase.tag (60 * g))) (s.curfew.get st).endSoon).changeStage st
    (Stage.dropCurfew s.now)

/-- A running grant's end point is set back, and the end-soon flag stays only where it still holds. -/
def State.extendGrant (st : StageId) (minutes e g : Nat) (s : State) : State :=
  s.withGrant st g (.running (minutes + g) (tagPlus e (60 * g)))
    ((s.curfew.get st).endSoon && decide (tagDistance (tagPlus e (60 * g)) s.timeBase.tag ≤ 60))

theorem drawMinutes_onCurfew (s : State) (st : StageId) (g : Nat) (f : Curfew → Curfew) :
    (s.drawMinutes st g).onCurfew st f =
      { s with
        pool := s.pool - g
        curfew := s.curfew.set st
          (f { s.curfew.get st with total := (s.curfew.get st).total + g }) } := by
  simp [State.drawMinutes, State.onCurfew, Bank4.modify]

section Start
variable (s : State) (st : StageId) (g : Nat)

theorem startGrant_before :
    (s.drawMinutes st g).startGrant st .before g =
      (s.withGrant st g (.booked ((s.curfew.get st).grant.minutes + g)) (s.curfew.get st).endSoon).raiseOfficer
        .encore := by
  rw [State.startGrant, drawMinutes_onCurfew]
  rfl

theorem startGrant_late :
    (s.drawMinutes st g).startGrant st .late g = ((s.lateStart st g).endSoonTest st).raiseOfficer .encore := by
  simp only [State.startGrant, drawMinutes_onCurfew]
  rfl

theorem startGrant_extension {minutes e : Nat} (h : (s.curfew.get st).grant = .running minutes e) :
    (s.drawMinutes st g).startGrant st .extension g =
      ((s.extendGrant st minutes e g).endSoonTest st).raiseOfficer .encore := by
  simp only [State.startGrant, drawMinutes_onCurfew, h]
  rfl

theorem lateStart_curfew :
    (s.lateStart st g).curfew = s.curfew.set st { s.curfew.get st with
      grant := .running g (tagPlus s.timeBase.tag (60 * g)), total := (s.curfew.get st).total + g } := by
  simp [State.lateStart, State.withGrant]

theorem lateStart_timeBase : (s.lateStart st g).timeBase = s.timeBase := by
  simp [State.lateStart, State.withGrant]

end Start

/-- A stage's change with the end-soon test and the reply behind it leaves the other blocks as they were. -/
theorem changeStage_endSoonTest_frame (s : State) (st : StageId) (f : Stage → Stage) (message : List Byte) {t : State}
    (ht : t = (((s.changeStage st f).endSoonTest st).raiseOfficer .encore).send (.desk st) message) :
    t = { s with curfew := t.curfew, stages := t.stages, links := t.links } := by
  subst ht
  simp only [State.changeStage, State.raiseDeskIf, State.endSoonTest]
  split <;> split <;> rfl

theorem lateStart_frame (s : State) (st : StageId) (g : Nat) (message : List Byte) {t : State}
    (ht : t = (((s.lateStart st g).endSoonTest st).raiseOfficer .encore).send (.desk st) message) :
    t = { s with pool := s.pool - g, curfew := t.curfew, stages := t.stages, links := t.links } :=
  changeStage_endSoonTest_frame _ _ _ _ ht

/-- An extension leaves the stage as it was too. -/
theorem extendGrant_frame (s : State) (st : StageId) (minutes e g : Nat) (message : List Byte) {t : State}
    (ht : t = (((s.extendGrant st minutes e g).endSoonTest st).raiseOfficer .encore).send (.desk st) message) :
    t = { s with pool := s.pool - g, curfew := t.curfew, links := t.links } := by
  subst ht
  simp only [State.endSoonTest]
  split <;> rfl

/-! ## The command -/

theorem exec_encore (st : StageId) (m : Nat) (s : State) :
    exec (.encore st m) s = .next (s.requestReaches (.desk st) (.encore m)) := rfl

theorem serveRequest_encore (st : StageId) (m : Nat) (s : State) :
    serveRequest (.desk st) (.encore m) s = serveEncore st m s := rfl

/-- A desk's ENCORE on an idle link is judged at once, and replied to from the state it leaves. -/
theorem completes_encore {s : State} {st : StageId} (hidle : idle (.desk st) s) (m : Nat) {code : ReplyCode} {g : Nat}
    {u : State} (h : s.serveEncoreAsk st (clampTo 1 10 m) = (code, g, u)) :
    completes (.encore st m) (.desk st) s u 0x84#8 (encoreReply code (clampTo 1 10 m) g u st) := by
  rw [completes, exec_encore, requestReaches_idle _ _ _ hidle, State.takeRequest, serveRequest_encore, serveEncore, h]
  rfl

theorem completes_encore_of_refused {s : State} {st : StageId} (hidle : idle (.desk st) s) {m : Nat}
    {code : ReplyCode} (h : judgeEncore s st (clampTo 1 10 m) = .inl code) :
    completes (.encore st m) (.desk st) s s 0x84#8 (encoreReply code (clampTo 1 10 m) 0 s st) :=
  completes_encore hidle m (by simp only [State.serveEncoreAsk, h])

theorem completes_encore_of_granted {s : State} {st : StageId} (hidle : idle (.desk st) s) {m : Nat}
    {w : EncoreCase} {g : Nat} (h : judgeEncore s st (clampTo 1 10 m) = .inr (w, g)) {u : State}
    (hu : (s.drawMinutes st g).startGrant st w g = u) :
    completes (.encore st m) (.desk st) s u 0x84#8 (encoreReply .ok (clampTo 1 10 m) g u st) :=
  completes_encore hidle m (by simp only [State.serveEncoreAsk, h, hu])

theorem clampTo_asked_bounds (m : Nat) : 1 ≤ clampTo 1 10 m ∧ clampTo 1 10 m ≤ 10 := by
  unfold clampTo
  omega

theorem minutesLeftFor_bounds {s : State} {st : StageId} (ht : (s.curfew.get st).total < 15) (hp : 0 < s.pool)
    (m : Nat) : 1 ≤ minutesLeftFor s st (clampTo 1 10 m) ∧ minutesLeftFor s st (clampTo 1 10 m) ≤ 10 := by
  obtain ⟨hpos, hten⟩ := clampTo_asked_bounds m
  unfold minutesLeftFor
  omega

/-- A grant that starts late has 60 s left or fewer exactly where it is of one minute. -/
theorem lateStart_ends_soon_iff {g : Nat} (hpos : 1 ≤ g) (hten : g ≤ 10) (tag : Nat) :
    tagDistance (tagPlus tag (60 * g)) tag ≤ 60 ↔ g = 1 := by
  have hself := tagDistance_self tag
  rw [tagDistance_tagPlus (by omega), hself]
  omega

theorem encore_starts_late {s : State} {st : StageId} (hidle : idle (.desk st) s) {m g : Nat}
    (hjudge : judgeEncore s st (clampTo 1 10 m) = .inr (.late, g)) (hpos : 1 ≤ g) (hten : g ≤ 10) :
    leadsTo (.encore st m) s fun t =>
      t = { s with pool := s.pool - g, curfew := t.curfew, stages := t.stages, links := t.links } ∧
      t.curfew = s.curfew.set st { s.curfew.get st with
        grant := .running g ((s.timeBase.tag + 60 * g) % 65536)
        endSoon := (s.curfew.get st).endSoon || decide (g = 1)
        total := (s.curfew.get st).total + g } ∧
      t.stages = s.stages.set st (Stage.dropCurfew s.now (s.stages.get st)) ∧
      noticeAt .officer 8 t = true ∧
      noticeAt (.desk st) 4 t = (noticeAt (.desk st) 4 s || (decide (g = 1) && !(s.curfew.get st).endSoon)) ∧
      sentReply (.desk st) t = some (0x84#8, encoreReply .ok (clampTo 1 10 m) g t st) := by
  have hget : (s.lateStart st g).curfew.get st = { s.curfew.get st with
      grant := .running g (tagPlus s.timeBase.tag (60 * g)), total := (s.curfew.get st).total + g } := by
    rw [lateStart_curfew, Bank4.get_set_self]
  have hrun := congrArg Curfew.grant hget
  have hsoon := lateStart_ends_soon_iff hpos hten s.timeBase.tag
  refine ⟨_, completes_encore_of_granted hidle hjudge (startGrant_late s st g), lateStart_frame _ _ _ _ rfl,
    ?curfew, ?stages, noticeAt_encore_raised _ _ _, ?desk, ?reply⟩
  case curfew =>
    rw [send_curfew, raiseOfficer_curfew, endSoonTest_curfew hrun, hget, lateStart_curfew, Bank4.set_set,
      lateStart_timeBase]
    simp only [hsoon]
    rfl
  case stages =>
    simp only [send_stages, raiseOfficer_stages, endSoonTest_frame, State.lateStart, changeStage_stages]
    rfl
  case desk =>
    rw [noticeAt_send, noticeAt_desk_raiseOfficer, noticeAt_endSoonTest hrun, hget, lateStart_timeBase]
    simp only [hsoon]
    rw [State.lateStart, noticeAt_changeStage _ _ _ (by decide) (by decide)]
    rfl
  case reply => rw [sentReply_send, encoreReply_send]

theorem encore_extends {s : State} {st : StageId} (hidle : idle (.desk st) s) {m h minutes e : Nat}
    (hgrant : (s.curfew.get st).grant = .running minutes e)
    (hjudge : judgeEncore s st (clampTo 1 10 m) = .inr (.extension, h))
    (hbound : tagDistance e s.timeBase.tag + 60 * h < 65536) :
    leadsTo (.encore st m) s fun t =>
      t = { s with pool := s.pool - h, curfew := t.curfew, links := t.links } ∧
      t.curfew = s.curfew.set st { s.curfew.get st with
        grant := .running (minutes + h) ((e + 60 * h) % 65536)
        endSoon := decide (tagDistance e s.timeBase.tag + 60 * h ≤ 60)
        total := (s.curfew.get st).total + h } ∧
      noticeAt .officer 8 t = true ∧
      sentReply (.desk st) t = some (0x84#8, encoreReply .ok (clampTo 1 10 m) h t st) := by
  have hget : (s.extendGrant st minutes e h).curfew.get st = { s.curfew.get st with
      grant := .running (minutes + h) (tagPlus e (60 * h))
      endSoon := (s.curfew.get st).endSoon && decide (tagDistance e s.timeBase.tag + 60 * h ≤ 60)
      total := (s.curfew.get st).total + h } := by
    rw [← tagDistance_tagPlus hbound]
    exact Bank4.get_set_self _ _ _
  have hrun := congrArg Curfew.grant hget
  refine ⟨_, completes_encore_of_granted hidle hjudge (startGrant_extension s st h hgrant),
    extendGrant_frame _ _ _ _ _ _ rfl, ?curfew, noticeAt_encore_raised _ _ _, ?reply⟩
  case curfew =>
    have hleft : tagDistance (tagPlus e (60 * h)) (s.extendGrant st minutes e h).timeBase.tag =
        tagDistance e s.timeBase.tag + 60 * h := tagDistance_tagPlus hbound
    have habsorb : ∀ a b : Bool, (a && b || b) = b := by decide
    rw [send_curfew, raiseOfficer_curfew, endSoonTest_curfew hrun, hget, hleft]
    dsimp only
    rw [habsorb]
    exact Bank4.set_set _ _ _ _
  case reply => rw [sentReply_send, encoreReply_send]

/-- Settles O37: a request is judged by the case of the window that holds, and each case has its own start. -/
theorem encoreRequest : Obligations.EncoreRequest := by
  rintro s st m hidle htag c rfl asked rfl before hbefore late hlate loud hloud
  obtain rfl : before = opensBefore s st := by
    rw [hbefore, opensBefore]
    cases onsetSeconds s st with
    | none => rfl
    | some n => exact congrArg (_ && ·) (Bool.decide_and (1 ≤ n) (n ≤ 300))
  obtain rfl : late = opensLate s st := by
    rw [hlate, opensLate]
    cases (s.curfew.get st).onsetTag <;> rfl
  obtain rfl : loud = coupledOver s st := hloud.trans (coupledOver_eq s st).symm
  refine ⟨fun hb hl hr => ?outside, fun hopen => ?inside⟩
  case outside =>
    exact completes_encore_of_refused hidle (judgeEncore_of_no_window (encoreWindow_of_none hb hl hr) _)
  case inside =>
    have hsome : ∃ w, encoreWindow s st = some w := by
      rcases hopen with hb | hl | hr
      exacts [⟨_, encoreWindow_of_before hb⟩, ⟨_, encoreWindow_of_late hl⟩, ⟨_, encoreWindow_of_running hr⟩]
    obtain ⟨w, hw⟩ := hsome
    refine ⟨fun ht => completes_encore_of_refused hidle (judgeEncore_of_total hw _ ht),
      fun ht ho => completes_encore_of_refused hidle (judgeEncore_of_over hw _ ht ho),
      fun ht ho hp => completes_encore_of_refused hidle (judgeEncore_of_no_pool hw _ ht ho hp), ?pass⟩
    case pass =>
      rintro ht ho hp g rfl
      obtain ⟨hpos, hten⟩ := minutesLeftFor_bounds ht hp m
      refine ⟨?before, ?late, ?running⟩
      case before =>
        rintro hb u rfl
        exact completes_encore_of_granted hidle
          (judgeEncore_of_pass (encoreWindow_of_before hb) _ ht ho hp (by decide)) (startGrant_before s st _)
      case late =>
        intro hl
        exact encore_starts_late hidle (judgeEncore_of_pass (encoreWindow_of_late hl) _ ht ho hp (by decide)) hpos hten
      case running =>
        rintro minutes e hrun left rfl h hh
        rw [← tagDistance_of_lt htag] at hh ⊢
        have hjudge := judgeEncore_of_extension (encoreWindow_of_running (by rw [hrun]; rfl)) (clampTo 1 10 m)
          ht ho hp (hh.trans (by rw [secondsLeft_of_running hrun, minutesLeftFor]))
        constructor
        · intro hzero
          exact completes_encore_of_refused hidle (by rw [hjudge, if_pos hzero])
        · intro hsome
          exact encore_extends hidle hrun (by rw [hjudge, if_neg hsome.ne']) (by omega)

end Sys2Proof.Machine
end

section
/-! PROOFS. Chapter 7: frame arrivals and output frame events (R129 to R138). Both do one thing to the state: they put
a new path in a stage's place and raise PATH_ALARM where its alarm set grew (`State.putPath`). What the new path is,
is then a matter of paths alone. -/

namespace Sys2Proof.Machine

/-! ## Alarm sets (R136) -/

/-- An alarm added where a condition holds. -/
def AlarmSet.addIf (c : Bool) (k : Alarm) (a : AlarmSet) : AlarmSet := if c then a.add k else a

theorem AlarmSet.addIf_strobeSlip (c : Bool) (a : AlarmSet) :
    a.addIf c .strobeSlip = { a with strobeSlip := a.strobeSlip || c } := by
  cases c <;> simp [AlarmSet.addIf, AlarmSet.add]

theorem AlarmSet.addIf_overflow (c : Bool) (a : AlarmSet) :
    a.addIf c .overflow = { a with overflow := a.overflow || c } := by
  cases c <;> simp [AlarmSet.addIf, AlarmSet.add]

theorem AlarmSet.has_add (a : AlarmSet) (k l : Alarm) : (a.add k).has l = (a.has l || decide (l = k)) := by
  cases k <;> cases l <;> simp [AlarmSet.add, AlarmSet.has]

theorem AlarmSet.add_of_has {a : AlarmSet} {k : Alarm} (h : a.has k = true) : a.add k = a := by
  cases a
  cases k <;> cases h <;> rfl

theorem AlarmSet.add_ne_self {a : AlarmSet} {k : Alarm} (h : a.has k = false) : a.add k ≠ a := fun heq => by
  rw [← heq, AlarmSet.has_add] at h
  simp at h

/-- An added alarm stays: a set that has come back after two additions took nothing from the first. -/
theorem AlarmSet.addIf_eq_of_add_eq {a : AlarmSet} {c : Bool} {k l : Alarm} (h : (a.addIf c k).add l = a) :
    a.addIf c k = a := by
  cases c with
  | false => rfl
  | true => exact AlarmSet.add_of_has (by rw [← h]; simp [AlarmSet.addIf, AlarmSet.has_add])

/-! ## PATH_ALARM on both links (R136, R163, R164) -/

theorem raise_raise (k : LinkInterface) (n : Nat) : (k.raise n).raise n = k.raise n := by
  simp [LinkInterface.raise, LinkInterface.refreshAlert, BitVec.or_assoc]

/-- PATH_ALARM raised on a stage's desk link and on the officer link, where a condition holds. -/
def State.pathAlarmIf (c : Bool) (st : StageId) (s : State) : State :=
  (s.raiseDeskIf c st .pathAlarm).raiseOfficerIf c .pathAlarm

theorem pathAlarmIf_onPath (s : State) (c : Bool) (st : StageId) (f : Path → Path) :
    (s.pathAlarmIf c st).onPath st f = (s.onPath st f).pathAlarmIf c st := by
  cases c <;> rfl

theorem pathAlarmIf_pathAlarmIf (s : State) (c d : Bool) (st : StageId) :
    (s.pathAlarmIf c st).pathAlarmIf d st = s.pathAlarmIf (c || d) st := by
  cases c <;> cases d
  case true.true =>
    simp [State.pathAlarmIf, State.raiseDeskIf, State.raiseOfficerIf, State.raiseDesk, State.raiseOfficer,
      State.onLink, Links.get, Links.set, raise_raise]
  all_goals rfl

/-! ## A path put in its place -/

/-- A stage's path replaced, with PATH_ALARM where its alarm set changes. -/
def State.putPath (st : StageId) (q : Path) (s : State) : State :=
  ({ s with paths := s.paths.set st q } : State).pathAlarmIf (decide (q.alarms ≠ (s.paths.get st).alarms)) st

theorem onPath_eq_putPath (s : State) (st : StageId) (f : Path → Path)
    (h : (f (s.paths.get st)).alarms = (s.paths.get st).alarms) :
    s.onPath st f = s.putPath st (f (s.paths.get st)) := by
  rw [State.putPath, decide_eq_false (not_not.mpr h)]
  rfl

@[simp] theorem putPath_self (s : State) (st : StageId) : s.putPath st (s.paths.get st) = s := by
  rw [State.putPath, Bank4.set_get, decide_eq_false (not_not.mpr rfl)]
  rfl

@[simp] theorem putPath_paths (s : State) (st : StageId) (q : Path) :
    (s.putPath st q).paths = s.paths.set st q := by
  simp [State.putPath, State.pathAlarmIf]

@[simp] theorem putPath_stages (s : State) (st : StageId) (q : Path) : (s.putPath st q).stages = s.stages := by
  simp [State.putPath, State.pathAlarmIf]

theorem putPath_links (s : State) (st : StageId) (q : Path) :
    (s.putPath st q).links = (if q.alarms = (s.paths.get st).alarms then s
      else (s.raiseDesk st .pathAlarm).raiseOfficer .pathAlarm).links := by
  unfold State.putPath
  split
  · next h => rw [decide_eq_false (not_not.mpr h)]; rfl
  · next h => rw [decide_eq_true h]; rfl

theorem putPath_frame (s : State) (st : StageId) (q : Path) :
    s.putPath st q = { s with paths := s.paths.set st q, links := (s.putPath st q).links } := by
  unfold State.putPath
  cases decide (q.alarms ≠ (s.paths.get st).alarms) <;> rfl

/-- An alarm set on a path just put in its place: one PATH_ALARM serves both, as long as the alarms of the first are not
lost by the second. -/
theorem putPath_setAlarm (s : State) (st : StageId) (q : Path) (k : Alarm)
    (h : q.alarms.add k = (s.paths.get st).alarms → q.alarms = (s.paths.get st).alarms) :
    (s.putPath st q).setAlarm st k = s.putPath st { q with alarms := q.alarms.add k } := by
  have hnew : (decide (q.alarms ≠ (s.paths.get st).alarms) || !q.alarms.has k) =
      decide (q.alarms.add k ≠ (s.paths.get st).alarms) := by
    cases hk : q.alarms.has k with
    | true => simp [AlarmSet.add_of_has hk]
    | false =>
      have hne : q.alarms.add k ≠ (s.paths.get st).alarms := fun heq =>
        AlarmSet.add_ne_self hk (heq.trans (h heq).symm)
      simp [hne]
  calc (s.putPath st q).setAlarm st k
      = ((s.putPath st q).onPath st fun p => { p with alarms := p.alarms.add k }).pathAlarmIf
          (!q.alarms.has k) st := by simp [State.setAlarm, State.pathAlarmIf]
    _ = s.putPath st { q with alarms := q.alarms.add k } := by
      rw [State.putPath, pathAlarmIf_onPath, pathAlarmIf_pathAlarmIf, hnew, State.putPath]
      simp [State.onPath, Bank4.modify]

theorem putPath_setAlarm_if (s : State) (st : StageId) (q : Path) (c : Bool) (k : Alarm)
    (h : q.alarms.add k = (s.paths.get st).alarms → q.alarms = (s.paths.get st).alarms) :
    (if c = true then (s.putPath st q).setAlarm st k else s.putPath st q) =
      s.putPath st { q with alarms := q.alarms.addIf c k } := by
  cases c with
  | false => rfl
  | true => exact putPath_setAlarm s st q k h

/-! ## Arrivals (R129 to R132, R135, R136) -/

/-- What an arrival makes of a path whose watch has heard it, alarms included. -/
def Path.takeFrame (f : Frame) (strobe : Bool) (p : Path) : Path :=
  { (p.arrive f strobe).1 with
    alarms := (p.alarms.addIf (p.slips strobe) .strobeSlip).addIf (p.arrive f strobe).2 .overflow }

theorem arrival_eq_putPath (s : State) (st : StageId) (f : Frame) (strobe : Bool) :
    s.arrival st f strobe = s.putPath st (((s.paths.get st).hear s.now).takeFrame f strobe) := by
  obtain ⟨-, -, -, hheard, -⟩ := hear_keeps (s.paths.get st) s.now
  rw [Path.takeFrame, hheard]
  simp only [State.arrival]
  rw [onPath_eq_putPath _ _ _ (by simp), putPath_setAlarm_if _ _ _ _ _ (by simp), putPath_setAlarm_if]
  · simp
  · simpa using AlarmSet.addIf_eq_of_add_eq

theorem hear_of_idle {p : Path} (h : p.state = .idle) (now : Nat) : p.hear now = p := by
  simp [Path.hear, h]

theorem hear_of_enabled {p : Path} (h : p.state ≠ .idle) (now : Nat) :
    p.hear now = { p with watch := .present (now + 1000) } := by
  unfold Path.hear
  split
  · next hidle => exact absurd hidle h
  · rfl

theorem slips_of_idle {p : Path} (h : p.state = .idle) (strobe : Bool) : p.slips strobe = false := by
  simp [Path.slips, h]

theorem slips_of_enabled {p : Path} (h : p.state ≠ .idle) (strobe : Bool) :
    p.slips strobe = (strobe && p.writeIndex.isSome && decide ((p.writeIndex.getD 15 + 1) % 16 ≠ 0)) := by
  unfold Path.slips
  split
  · next hidle => exact absurd hidle h
  · next hnone _ => simp [hnone]
  · next hsome _ => rw [hsome, advanceIndex, Option.isSome_some, Option.getD_some, Bool.and_true]

/-- The fill begun by a strobe-marked frame is complete at once where D is 1 or less (R130, R131). -/
theorem completeFill_beginFill (f : Frame) (p : Path) :
    (p.beginFill f).completeFill =
      { p with buffer := [f], writeIndex := some 0, state := if p.delay ≤ 1 then .running else .aligning } := by
  by_cases hfull : p.delay ≤ 1 <;> simp [Path.completeFill, Path.beginFill, hfull]

section TakeFrame
variable {p : Path} {f : Frame} {strobe : Bool}

/-! What the buffer and the index make of a frame, by the cases of R129 to R132. -/

theorem arrive_of_idle (h : p.state = .idle) : p.arrive f strobe = (p, false) := by
  simp [Path.arrive, h]

/-- Before the first strobe an aligning path discards what arrives (R130). -/
theorem arrive_of_discarding (h : p.state = .aligning) (hindex : p.writeIndex = none) (hstrobe : strobe = false) :
    p.arrive f strobe = (p, false) := by
  simp [Path.arrive, h, hindex, hstrobe]

theorem arrive_of_first_strobe (h : p.state = .aligning) (hindex : p.writeIndex = none) (hstrobe : strobe = true) :
    p.arrive f strobe = ((p.beginFill f).completeFill, false) := by
  simp [Path.arrive, h, hindex, hstrobe]

/-- A slip begins the fill anew in ALIGNING, and in RUNNING with follow-strobe on (R130, R132). -/
theorem arrive_of_refill (hslip : p.slips strobe = true)
    (h : p.state = .aligning ∨ p.state = .running ∧ p.followStrobe = true) :
    p.arrive f strobe = ((p.beginFill f).completeFill, false) := by
  rcases h with h | ⟨h, hfollow⟩
  · cases hindex : p.writeIndex with
    | none => simp [Path.slips, h, hindex] at hslip
    | some n => simp [Path.arrive, h, hindex, hslip]
  · simp [Path.arrive, h, hslip, hfollow]

theorem arrive_of_filling {n : Nat} (h : p.state = .aligning) (hindex : p.writeIndex = some n)
    (hslip : p.slips strobe = false) :
    p.arrive f strobe =
      ({ p with
          buffer := p.buffer ++ [f], writeIndex := some (advanceIndex n)
          state := if p.delay ≤ p.buffer.length + 1 then .running else .aligning }, false) := by
  by_cases hfull : p.delay ≤ p.buffer.length + 1 <;>
    simp [Path.arrive, Path.completeFill, h, hindex, hslip, hfull]

/-- In RUNNING a frame is stored, or overflows a full buffer, and the index advances or follows a slip (R131,
R132). -/
theorem arrive_of_running (h : p.state = .running) (hstay : ¬(p.slips strobe = true ∧ p.followStrobe = true)) :
    p.arrive f strobe =
      ({ p with
          buffer := if p.buffer.length < 32 then p.buffer ++ [f] else p.buffer
          writeIndex := some (if p.slips strobe = true then 0 else advanceIndex (p.writeIndex.getD 15)) },
        decide (32 ≤ p.buffer.length)) := by
  have hcond : (p.slips strobe && p.followStrobe) = false := by simpa using hstay
  by_cases hroom : p.buffer.length < 32
  · simp [Path.arrive, Config.pathBuffer, h, hcond, hroom, Nat.not_le.mpr hroom]
  · simp [Path.arrive, Config.pathBuffer, h, hcond, hroom, Nat.not_lt.mp hroom]

theorem takeFrame_of_arrive {q : Path} {overflows : Bool} (h : p.arrive f strobe = (q, overflows)) :
    p.takeFrame f strobe =
      { q with alarms := { p.alarms with
          strobeSlip := p.alarms.strobeSlip || p.slips strobe, overflow := p.alarms.overflow || overflows } } := by
  rw [Path.takeFrame, h, AlarmSet.addIf_strobeSlip, AlarmSet.addIf_overflow]

theorem takeFrame_of_quiet {q : Path} (h : p.arrive f strobe = (q, false)) (hslip : p.slips strobe = false) :
    p.takeFrame f strobe = q := by
  obtain ⟨hkept, -⟩ := arrive_keeps p f strobe
  rw [h] at hkept
  rw [takeFrame_of_arrive h, hslip, Bool.or_false, Bool.or_false, ← hkept]

/-- A frame at an aligning path, case by case (R130). -/
theorem takeFrame_of_aligning (h : p.state = .aligning) :
    p.takeFrame f strobe =
      if p.writeIndex = none ∧ strobe = false then p
      else if p.writeIndex = none ∨ p.slips strobe = true then
        { p with
          buffer := [f], writeIndex := some 0
          state := if p.delay ≤ 1 then .running else .aligning
          alarms := { p.alarms with strobeSlip := p.alarms.strobeSlip || p.slips strobe } }
      else
        { p with
          buffer := p.buffer ++ [f], writeIndex := some (advanceIndex (p.writeIndex.getD 15))
          state := if p.delay ≤ p.buffer.length + 1 then .running else .aligning } := by
  split
  case isTrue hdiscard =>
    obtain ⟨hnone, hstrobe⟩ := hdiscard
    have hquiet : p.slips strobe = false := by simp [Path.slips, h, hnone]
    exact takeFrame_of_quiet (arrive_of_discarding h hnone hstrobe) hquiet
  case isFalse hheard =>
    split
    case isTrue hbegin =>
      have harrive : p.arrive f strobe = ((p.beginFill f).completeFill, false) := by
        rcases hbegin with hnone | hslip
        · exact arrive_of_first_strobe h hnone (by simpa [hnone] using hheard)
        · exact arrive_of_refill hslip (.inl h)
      rw [takeFrame_of_arrive harrive, completeFill_beginFill, Bool.or_false]
    case isFalse hfill =>
      obtain ⟨hsome, hslip⟩ := not_or.mp hfill
      obtain ⟨n, hn⟩ := Option.ne_none_iff_exists'.mp hsome
      rw [Bool.not_eq_true] at hslip
      rw [takeFrame_of_quiet (arrive_of_filling h hn hslip) hslip, hn, Option.getD_some]

/-- A frame at a running path, case by case (R131, R132). -/
theorem takeFrame_of_running (h : p.state = .running) :
    p.takeFrame f strobe =
      if p.slips strobe = true ∧ p.followStrobe = true then
        { p with
          buffer := [f], writeIndex := some 0
          state := if p.delay ≤ 1 then .running else .aligning
          alarms := { p.alarms with strobeSlip := true } }
      else
        { p with
          buffer := if p.buffer.length < 32 then p.buffer ++ [f] else p.buffer
          writeIndex := some (if p.slips strobe = true then 0 else advanceIndex (p.writeIndex.getD 15))
          alarms := { p.alarms with
            strobeSlip := p.alarms.strobeSlip || p.slips strobe
            overflow := p.alarms.overflow || decide (32 ≤ p.buffer.length) } } := by
  split
  case isTrue hrefill =>
    obtain ⟨hslip, hfollow⟩ := hrefill
    rw [takeFrame_of_arrive (arrive_of_refill hslip (.inr ⟨h, hfollow⟩)), completeFill_beginFill, hslip,
      Bool.or_true, Bool.or_false]
  case isFalse hstay => rw [takeFrame_of_arrive (arrive_of_running h hstay)]

end TakeFrame

/-- Settles O42: an arrival puts one new path in place, and each clause is a case of R130 to R132. -/
theorem frameArrivesAtPath : Obligations.FrameArrivesAtPath := by
  rintro s st f strobe p rfl
  have hexec : exec (.frameArrival st f strobe) s =
      .next (s.putPath st (((s.paths.get st).hear s.now).takeFrame f strobe)) :=
    congrArg Host.Outcome.next (arrival_eq_putPath s st f strobe)
  refine ⟨fun hidle => ?idle, ?enabled⟩
  case idle =>
    rw [hexec, hear_of_idle hidle, takeFrame_of_quiet (arrive_of_idle hidle) (slips_of_idle hidle _), putPath_self]
  case enabled =>
    rintro hon w hw n hn slip hslip q hq
    have hheard : (s.paths.get st).hear s.now = w := (hear_of_enabled hon s.now).trans hw.symm
    suffices hpath : w.takeFrame f strobe = q by
      rw [hheard, hpath] at hexec
      exact ⟨_, hexec, putPath_frame s st q, putPath_links s st q⟩
    obtain ⟨hstate, hbuffer, hindex, halarms, hdelay, -, hfollow, -⟩ := hheard ▸ hear_keeps (s.paths.get st) s.now
    rw [← hstate] at hon
    rw [← hindex] at hn hslip
    obtain rfl : w.slips strobe = slip := by rw [hslip, hn, slips_of_enabled hon]
    obtain rfl : advanceIndex (w.writeIndex.getD 15) = n := hn.symm
    rw [hq, ← hstate, ← hbuffer, ← hindex, ← halarms, ← hdelay, ← hfollow]
    split
    case isTrue haligning => exact takeFrame_of_aligning haligning
    case isFalse hnot =>
      have hrunning : w.state = .running := by
        cases h : w.state <;> simp_all
      exact takeFrame_of_running hrunning

/-! ## One operation for each stage -/

/-- What a stage's own operation establishes, and every operation of another stage keeps, holds once each stage has had
its turn. -/
theorem eachStage_establishes {P Q : State → Prop} {f : StageId → State → State} {s : State} (st : StageId)
    (hstart : P s) (hbefore : ∀ j s, j ≠ st → P s → P (f j s)) (hturn : ∀ s, P s → Q (f st s))
    (hafter : ∀ j s, j ≠ st → Q s → Q (f j s)) : Q (s.eachStage f) := by
  obtain ⟨before, after, hsplit⟩ := List.append_of_mem (mem_allStages st)
  have hnodup : (before ++ st :: after).Nodup := hsplit ▸ by decide
  obtain ⟨hout, hin⟩ : st ∉ before ∧ st ∉ after := by
    simpa using (List.nodup_middle.mp hnodup).notMem
  rw [State.eachStage, hsplit, List.foldl_append, List.foldl_cons]
  refine List.foldlRecOn after _ (hturn _ (List.foldlRecOn before _ hstart ?_)) ?_
  · exact fun s hs j hj => hbefore j s (ne_of_mem_of_not_mem hj hout) hs
  · exact fun s hs j hj => hafter j s (ne_of_mem_of_not_mem hj hin) hs

/-! ## Output frame events (R127, R129, R130, R133) -/

/-- What an output frame event makes of the path of a stage. -/
def Path.output (g : Stage) (p : Path) : Path :=
  match p.state, p.buffer with
  | .running, [] => { p with sent := Frame.silence, alarms := p.alarms.add .underflow }
  | .running, f :: rest => { p with buffer := rest, sent := outputFrame g p.muted f }
  | _, _ => { p with sent := Frame.silence }

theorem output_of_not_running (g : Stage) {p : Path} (h : p.state ≠ .running) :
    p.output g = { p with sent := Frame.silence } := by
  unfold Path.output
  split
  · next hrunning _ => exact absurd hrunning h
  · next hrunning _ => exact absurd hrunning h
  · rfl

theorem output_of_empty (g : Stage) {p : Path} (h : p.state = .running) (hempty : p.buffer = []) :
    p.output g = { p with sent := Frame.silence, alarms := { p.alarms with underflow := true } } := by
  simp [Path.output, h, hempty, AlarmSet.add]

theorem output_of_oldest (g : Stage) {p : Path} {f : Frame} (h : p.state = .running) (hf : p.buffer.head? = some f) :
    p.output g = { p with buffer := p.buffer.tail, sent := outputFrame g p.muted f } := by
  obtain ⟨rest, hrest⟩ := List.head?_eq_some_iff.mp hf
  simp [Path.output, h, hrest]

/-- One path's part of an output frame event, as a path put in its place. -/
theorem outputAt_eq_putPath (s : State) (st : StageId) :
    s.outputAt st = s.putPath st ((s.paths.get st).output (s.stages.get st)) := by
  have hsilence : (s.onPath st fun p => { p with sent := Frame.silence }) =
      s.putPath st { s.paths.get st with sent := Frame.silence } := onPath_eq_putPath s st _ rfl
  cases hstate : (s.paths.get st).state with
  | idle => simp [State.outputAt, hstate, hsilence, output_of_not_running]
  | aligning => simp [State.outputAt, hstate, hsilence, output_of_not_running]
  | running =>
    cases hbuffer : (s.paths.get st).buffer with
    | nil =>
      simpa [State.outputAt, hstate, hbuffer, hsilence, output_of_empty, AlarmSet.add] using
        putPath_setAlarm s st { s.paths.get st with sent := Frame.silence } .underflow fun _ => rfl
    | cons f rest =>
      rw [output_of_oldest _ hstate (by rw [hbuffer, List.head?_cons]), hbuffer]
      simpa [State.outputAt, hstate, hbuffer] using onPath_eq_putPath s st
        (fun p => { p with buffer := rest, sent := outputFrame (s.stages.get st) p.muted f }) rfl

theorem noticeAt_raiseDesk_mono {s : State} {l : LinkId} {n : Nat} (st : StageId) (k : DeskNotice) (hn : n < 16)
    (h : noticeAt l n s = true) : noticeAt l n (s.raiseDesk st k) = true := by
  rw [noticeAt, raiseDesk_links_get]
  split
  · rw [raise_pending _ _ _ hn]
    exact Bool.or_eq_true_iff.mpr (.inl h)
  · exact h

theorem noticeAt_raiseOfficer_mono {s : State} {l : LinkId} {n : Nat} (k : OfficerNotice) (hn : n < 16)
    (h : noticeAt l n s = true) : noticeAt l n (s.raiseOfficer k) = true := by
  rw [noticeAt, raiseOfficer_links_get]
  split
  · rw [raise_pending _ _ _ hn]
    exact Bool.or_eq_true_iff.mpr (.inl h)
  · exact h

/-- No notice is lost when a path is put in its place. -/
theorem noticeAt_putPath_mono {s : State} {l : LinkId} {n : Nat} (st : StageId) (q : Path) (hn : n < 16)
    (h : noticeAt l n s = true) : noticeAt l n (s.putPath st q) = true := by
  rw [noticeAt, putPath_links]
  split
  · exact h
  · exact noticeAt_raiseOfficer_mono _ hn (noticeAt_raiseDesk_mono _ _ hn h)

/-- A change of the alarm set is noticed on both links (R136). -/
theorem noticeAt_putPath_of_ne {s : State} {st : StageId} {q : Path} (h : q.alarms ≠ (s.paths.get st).alarms) :
    noticeAt (.desk st) 5 (s.putPath st q) = true ∧ noticeAt .officer 7 (s.putPath st q) = true := by
  simp only [noticeAt, putPath_links, if_neg h]
  constructor
  · exact noticeAt_raiseOfficer_mono _ (by decide)
      ((noticeAt_raiseDesk_self s st .pathAlarm (by decide)).trans (Bool.or_true _))
  · exact (noticeAt_raiseOfficer_self _ .pathAlarm (by decide)).trans (Bool.or_true _)

/-- What one output frame event leaves of a stage: its path's output, and notices of an alarm that is new. -/
def OutputDone (s : State) (st : StageId) (t : State) : Prop :=
  let p := s.paths.get st
  let q := p.output (s.stages.get st)
  t.paths.get st = q ∧
    (q.alarms ≠ p.alarms → noticeAt (.desk st) 5 t = true ∧ noticeAt .officer 7 t = true)

theorem outputEvent_done (s : State) (st : StageId) : OutputDone s st (s.eachStage State.outputAt) := by
  refine eachStage_establishes (P := fun t => t.paths.get st = s.paths.get st ∧ t.stages.get st = s.stages.get st)
    st ⟨rfl, rfl⟩ ?before ?turn ?after
  case before =>
    rintro j t hj ⟨hpath, hstage⟩
    rw [outputAt_eq_putPath]
    simp [hj.symm, hpath, hstage]
  case turn =>
    rintro t ⟨hpath, hstage⟩
    rw [outputAt_eq_putPath, hpath, hstage]
    exact ⟨by simp, fun hnew => noticeAt_putPath_of_ne (hpath ▸ hnew)⟩
  case after =>
    rintro j t hj ⟨hpath, hnotice⟩
    rw [outputAt_eq_putPath]
    refine ⟨by simp [hj.symm, hpath], fun hnew => ?_⟩
    obtain ⟨hdesk, hofficer⟩ := hnotice hnew
    exact ⟨noticeAt_putPath_mono _ _ (by decide) hdesk, noticeAt_putPath_mono _ _ (by decide) hofficer⟩

/-- An output frame event touches the paths and the links alone. -/
theorem outputEvent_frame (s : State) :
    s.eachStage State.outputAt =
      { s with
        paths := (s.eachStage State.outputAt).paths
        links := (s.eachStage State.outputAt).links } := by
  have hkept := eachStage_keeps (fun t : State => { t with paths := s.paths, links := s.links }) State.outputAt
    (fun st t => by rw [outputAt_eq_putPath, putPath_frame]) s
  exact congrArg (fun t : State => { t with
    paths := (s.eachStage State.outputAt).paths, links := (s.eachStage State.outputAt).links }) hkept

/-- The frame a running path sends, by the gain of its stage (R12, R133). -/
theorem outputFrame_eq (g : Stage) (muted : Bool) (f : Frame) :
    outputFrame g muted f = if (decide (g.gain = .muted) || muted) = true then Bank8.fill 0
      else f.map fun x => (x * (gain g.applied : Int) + 16384) / 32768 := rfl

/-- Settles O43: each stage's path takes its own output in its turn, and no other stage's turn touches it. -/
theorem outputEventSendsOneFrameEach : Obligations.OutputEventSendsOneFrameEach := by
  intro s
  refine ⟨_, rfl, outputEvent_frame s, ?_⟩
  rintro st p rfl g rfl silent hsilent
  obtain ⟨hpath, hnotice⟩ := outputEvent_done s st
  refine ⟨fun hstopped => hpath.trans (output_of_not_running _ hstopped), fun hrunning => ⟨?empty, ?oldest⟩⟩
  case empty =>
    intro hempty
    have houtput := output_of_empty (s.stages.get st) hrunning hempty
    refine ⟨hpath.trans houtput, fun hclear => hnotice fun hsame => ?_⟩
    rw [houtput] at hsame
    exact Bool.false_ne_true (hclear.symm.trans (congrArg AlarmSet.underflow hsame).symm)
  case oldest =>
    intro f hf
    have hmuted : silent = (decide ((s.stages.get st).gain = .muted) || (s.paths.get st).muted) := by
      simp only [hsilent, Path.muted, Bool.or_assoc]
    rw [hpath, output_of_oldest _ hrunning hf, outputFrame_eq, hmuted]

end Sys2Proof.Machine
end

section
/-! PROOFS. What one command can do, said once. A link interface changes the links and the kept reports, and hands the
blocks behind it at most one request (`LinkOnly`, `command_change`); what a request or an event does to those blocks is
one of the cases of `Change`. Every invariant of the blocks is then a case analysis over `Change`. -/

namespace Sys2Proof.Machine

/-! ## What a link interface does on its own -/

/-- Nothing but the links has changed, and the kept reports stand or are forgotten (log entry 40). -/
def LinkOnly (s t : State) : Prop :=
  ∃ (k : Links) (r : List SentReport), (r = s.reports ∨ r = []) ∧ t = { s with links := k, reports := r }

theorem LinkOnly.refl (s : State) : LinkOnly s s := ⟨s.links, s.reports, .inl rfl, rfl⟩

theorem LinkOnly.trans {s t u : State} : LinkOnly s t → LinkOnly t u → LinkOnly s u := by
  rintro ⟨k, r, hr, rfl⟩ ⟨k', r', hr', rfl⟩
  refine ⟨k', r', ?_, rfl⟩
  rcases hr' with h | h
  · rcases hr with h' | h'
    · exact .inl (h.trans h')
    · exact .inr (h.trans h')
  · exact .inr h

theorem linkOnly_onLink (s : State) (l : LinkId) (f : LinkInterface → LinkInterface) : LinkOnly s (s.onLink l f) :=
  ⟨_, _, .inl rfl, rfl⟩

theorem linkOnly_send (s : State) (l : LinkId) (message : List Byte) : LinkOnly s (s.send l message) := by
  refine ⟨_, _, ?_, rfl⟩
  split
  · exact .inr rfl
  · exact .inl rfl

/-- The transmitter of a link is SENDING. -/
def Sending (l : LinkId) (s : State) : Prop := (s.links.get l).transmitter ≠ none

theorem sending_send (s : State) (l : LinkId) (message : List Byte) : Sending l (s.send l message) := by
  simp [Sending]

theorem sending_onLink {s : State} {l : LinkId} {f : LinkInterface → LinkInterface}
    (hf : (f (s.links.get l)).transmitter = (s.links.get l).transmitter) (h : Sending l s) :
    Sending l (s.onLink l f) := by
  simpa [Sending, hf] using h

@[simp] theorem owe_keeps (c : Reject) (k : LinkInterface) :
    (k.owe c).transmitter = k.transmitter ∧ (k.owe c).held = k.held ∧ (k.owe c).receiver = k.receiver ∧
    (k.owe c).noticeSet = k.noticeSet ∧ (k.owe c).enables = k.enables ∧ (k.owe c).priorities = k.priorities ∧
    (k.owe c).alert = k.alert := by
  unfold LinkInterface.owe
  split <;> simp

theorem owe_owed_ne_nil (c : Reject) (k : LinkInterface) : (k.owe c).owed ≠ [] := by
  unfold LinkInterface.owe
  split
  · next h => exact List.ne_nil_of_mem h
  · simp

/-- A reject that becomes owed is sent at once by an IDLE transmitter, which is SENDING from then on (R161). -/
theorem oweReject_fate (s : State) (l : LinkId) (c : Reject) :
    LinkOnly s (s.oweReject l c) ∧ Sending l (s.oweReject l c) := by
  have howed : LinkOnly s (s.onLink l (LinkInterface.owe c)) := linkOnly_onLink _ _ _
  simp only [State.oweReject]
  split
  · have hsome : ((s.onLink l (LinkInterface.owe c)).links.get l).owed ≠ [] := by simpa using owe_owed_ne_nil c _
    unfold State.nextMessage
    split
    · exact ⟨(howed.trans (linkOnly_onLink _ _ _)).trans (linkOnly_send _ _ _), sending_send _ _ _⟩
    · next hnil _ => exact absurd hnil hsome
    · next hnil _ => exact absurd hnil hsome
  · next m hm =>
    refine ⟨howed, ?_⟩
    rw [Sending, hm]
    simp

/-- The blocks behind a link have served one request of it, and before and behind that only links have changed. -/
def ServedOnce (l : LinkId) (s t : State) : Prop :=
  ∃ (r : Request) (u : State), LinkOnly s u ∧ LinkOnly (serveRequest l r u).1 t

theorem takeRequest_servedOnce (s : State) (l : LinkId) (r : Request) : ServedOnce l s (s.takeRequest l r) :=
  ⟨r, s, .refl s, linkOnly_send _ _ _⟩

theorem requestReaches_of_sending {s : State} {l : LinkId} (h : Sending l s) (r : Request) :
    LinkOnly s (s.requestReaches l r) ∧ Sending l (s.requestReaches l r) := by
  unfold State.requestReaches
  split
  · next hnone => exact absurd hnone h
  · exact ⟨linkOnly_onLink _ _ _, sending_onLink rfl h⟩
  · exact oweReject_fate s l .busy

/-- The fate of what reaches a link: only links change, or one request is served and its reply is being sent. -/
def Fate (l : LinkId) (s t : State) : Prop := LinkOnly s t ∨ ServedOnce l s t ∧ Sending l t

theorem requestReaches_fate (s : State) (l : LinkId) (r : Request) : Fate l s (s.requestReaches l r) := by
  by_cases h : (s.links.get l).transmitter = none
  · rw [requestReaches_idle _ _ _ h]
    exact .inr ⟨takeRequest_servedOnce s l r, sending_send _ _ _⟩
  · obtain ⟨honly, -⟩ := requestReaches_of_sending h r
    exact .inl honly

/-- A receiver's event on a SENDING link serves nothing. -/
theorem rxEvent_of_sending {s : State} {l : LinkId} (h : Sending l s) (e : RxEvent) :
    LinkOnly s (s.rxEvent l e) ∧ Sending l (s.rxEvent l e) := by
  cases e with
  | badLength => exact oweReject_fate s l .format
  | frameEnd n bytes lineError =>
    simp only [State.rxEvent]
    split
    · exact oweReject_fate s l .line
    · split
      · exact oweReject_fate s l .format
      · exact requestReaches_of_sending h _

theorem rxEvent_fate (s : State) (l : LinkId) (e : RxEvent) : Fate l s (s.rxEvent l e) := by
  have howed := fun c => oweReject_fate s l c
  cases e with
  | badLength => exact .inl (howed .format).1
  | frameEnd n bytes lineError =>
    simp only [State.rxEvent]
    split
    · exact .inl (howed .line).1
    · split
      · exact .inl (howed .format).1
      · exact requestReaches_fate _ _ _

theorem Fate.after_linkOnly {l : LinkId} {s t u : State} (h : LinkOnly s t) : Fate l t u → Fate l s u := by
  rintro (honly | ⟨⟨r, v, hv, hu⟩, hsending⟩)
  · exact .inl (h.trans honly)
  · exact .inr ⟨⟨r, v, h.trans hv, hu⟩, hsending⟩

theorem ServedOnce.before_linkOnly {l : LinkId} {s t u : State} (h : ServedOnce l s t) (honly : LinkOnly t u) :
    ServedOnce l s u := by
  obtain ⟨r, v, hv, ht⟩ := h
  exact ⟨r, v, hv, ht.trans honly⟩

theorem receiveByte_fate (s : State) (l : LinkId) (b : LineByte) : Fate l s (s.receiveByte l b) := by
  simp only [State.receiveByte]
  split
  · exact .inl (linkOnly_onLink _ _ _)
  · exact (rxEvent_fate _ _ _).after_linkOnly (linkOnly_onLink _ _ _)

theorem receiveByte_of_sending {s : State} {l : LinkId} (h : Sending l s) (b : LineByte) :
    LinkOnly s (s.receiveByte l b) ∧ Sending l (s.receiveByte l b) := by
  simp only [State.receiveByte]
  split
  · exact ⟨linkOnly_onLink _ _ _, sending_onLink rfl h⟩
  · obtain ⟨honly, hsending⟩ := rxEvent_of_sending (sending_onLink (f := fun k =>
      { k with receiver := ((s.links.get l).receiver.take b).1 }) rfl h) _
    exact ⟨(linkOnly_onLink _ _ _).trans honly, hsending⟩

/-- The bytes of a receive row serve at most one request: with the first the transmitter is SENDING (R161). -/
theorem receive_fate (s : State) (l : LinkId) (bytes : List LineByte) : Fate l s (s.receive l bytes) := by
  refine List.foldlRecOn bytes _ (.inl (.refl s)) ?_
  rintro t (honly | ⟨hserved, hsending⟩) b -
  · exact (receiveByte_fate t l b).after_linkOnly honly
  · obtain ⟨honly, hstill⟩ := receiveByte_of_sending hsending b
    exact .inr ⟨hserved.before_linkOnly honly, hstill⟩

theorem dropMessage_linkOnly (s : State) (l : LinkId) : LinkOnly s (s.dropMessage l) :=
  (linkOnly_onLink _ _ _).trans (oweReject_fate _ _ _).1

theorem gap_linkOnly (s : State) (l : LinkId) : LinkOnly s (s.gap l) := by
  unfold State.gap
  split
  · exact .refl s
  · exact dropMessage_linkOnly s l

theorem idleAfterLengthError_linkOnly (s : State) (l : LinkId) : LinkOnly s (s.idleAfterLengthError l) := by
  unfold State.idleAfterLengthError
  split
  · exact dropMessage_linkOnly s l
  · exact .refl s
  · exact .refl s
  · exact .refl s

theorem messageSent_fate (s : State) (l : LinkId) : LinkOnly s (s.messageSent l) ∨ ServedOnce l s (s.messageSent l) := by
  unfold State.messageSent
  split
  · exact .inl (.refl s)
  · unfold State.nextMessage
    split
    · exact .inl ((linkOnly_onLink _ _ _).trans (linkOnly_send _ _ _))
    · obtain ⟨r, u, hu, ht⟩ := takeRequest_servedOnce (s.onLink l fun k => { k with transmitter := none, held := none })
        l ‹Request›
      exact .inr ⟨r, u, (linkOnly_onLink _ _ _).trans hu, ht⟩
    · exact .inl (linkOnly_onLink _ _ _)

/-- A request command is its request reaching the interface (log entry 1). -/
theorem exec_of_requestOf {c : Instr} {l : LinkId} {r : Request} (h : requestOf c = some (l, r)) (s : State) :
    exec c s = .next (s.requestReaches l r) := by
  cases c <;> cases h <;> rfl

/-- A command of a link changes links only, or serves one request (R157 to R161). -/
theorem linkCommand_fate {c : Instr} {l : LinkId} (h : commandLink c = some l) (s : State) :
    ∃ t, exec c s = .next t ∧ (LinkOnly s t ∨ ServedOnce l s t) := by
  have hfate : ∀ t u, Fate l s t → LinkOnly t u → LinkOnly s u ∨ ServedOnce l s u := by
    rintro t u (honly | ⟨hserved, -⟩) hu
    · exact .inl (honly.trans hu)
    · exact .inr (hserved.before_linkOnly hu)
  have hrequest : ∀ {c}, (requestOf c).map Prod.fst = some l →
      ∃ t, exec c s = .next t ∧ (LinkOnly s t ∨ ServedOnce l s t) := by
    intro c hc
    obtain ⟨⟨_, r⟩, hr, rfl⟩ := Option.map_eq_some_iff.mp hc
    exact ⟨_, exec_of_requestOf hr s, hfate _ _ (requestReaches_fate s _ r) (.refl _)⟩
  unfold commandLink at h
  split at h
  · cases h; exact ⟨_, rfl, hfate _ _ (receive_fate s l _) (.refl _)⟩
  · cases h; exact ⟨_, rfl, hfate _ _ (receive_fate s l _) (.refl _)⟩
  · cases h; exact ⟨_, rfl, hfate _ _ (receive_fate s l _) (gap_linkOnly _ _)⟩
  · cases h; exact ⟨_, rfl, hfate _ _ (receive_fate s l _) (idleAfterLengthError_linkOnly _ _)⟩
  · cases h; exact ⟨_, rfl, hfate _ _ (receive_fate s l _) (linkOnly_onLink _ _ _)⟩
  · cases h; exact ⟨_, rfl, messageSent_fate s l⟩
  · exact hrequest h

/-! ## What a request or an event does to the blocks -/

/-- The state at power-on, whatever went before; what stands outside the part is kept (log entry 27). -/
def State.poweredOn (s : State) : State :=
  { State.reset with orders := s.orders, pending := s.pending, loop := { Loop.reset with latn := s.loop.latn } }

/-- Everything that one request or one event, POWER_ON apart, can do to the blocks behind the links, with what its
checks have found. -/
inductive Change (s : State) : State → Prop
  | refl : Change s s
  | ackNotices (l : LinkId) (m : BitVec 16) (h : maskBeyond l m = false) :
      Change s (s.onLink l (LinkInterface.acknowledge m))
  | setNotices (l : LinkId) (f : SetNoticesFields) (h : setNoticesRefused l f = false) :
      Change s (s.onLink l (LinkInterface.write f.enables f.priorities))
  | expectedPoint : Change s s.expectedPoint
  | pulse (m : Nat) : Change s (s.advanceTo m).pulse
  | windowEnd : Change s s.windowEnd
  | lockLost : Change s s.lockLost
  | latnFalls : Change s (s.onLoop fun k => { k with latn := false }).arbitrate
  | latnRises : Change s ((s.onLoop fun k => { k with latn := true }).onLoop Loop.lookAtLatn).arbitrate
  | markSent (tag : Nat) (h : s.loop.flight.map Flight.transaction = some (.mark tag)) :
      Change s (s.onLoop Loop.free).arbitrate
  | loopResetDone (h : s.loop.flight.map Flight.transaction = some .loopReset) :
      Change s ((s.onLoop Loop.free).onLoop Loop.lookAtLatn).arbitrate
  | completeReply (r : Option Reply) : Change s (s.completeReply r)
  | failAttempt : Change s s.failAttempt
  | stall : Change s (s.loopMove (Loop.stall s.now)).arbitrate
  | reseekExpires (a : SlotId) : Change s (s.reseekExpires a)
  | settleExpires (z : ZoneId) : Change s (s.settleExpires z)
  | rampExpires (st : StageId) : Change s (s.rampExpires st)
  | arrival (st : StageId) (f : Frame) (strobe : Bool) : Change s (s.arrival st f strobe)
  | outputEvent : Change s (s.eachStage State.outputAt)
  | noSignalExpires (st : StageId) : Change s (s.noSignalExpires st)
  | setDesk (st : StageId) (f : SetDeskFields) (h : setDeskRefused st f = false) : Change s (s.takeDesk st f)
  | encore (st : StageId) (m : Nat) : Change s (s.serveEncoreAsk st (clampTo 1 10 m)).2.2
  | encoreEnd (st : StageId) : Change s (s.serveEncoreEnd st).2.2
  | setZone (z : ZoneId) (f : SetZoneFields) (h : s.mode = .show → lockedInShow f = false) :
      Change s (s.onZone z fun zn => { zn with config := zn.config.write f })
  | enableZone (z : ZoneId) (h : (s.zones.get z).enabled = false) : Change s (s.enableZoneNow z)
  | disableZone (z : ZoneId) (hmode : s.mode = .setup) (h : (s.zones.get z).enabled = true) :
      Change s (s.disableZoneNow z)
  | readZone (z : ZoneId) : Change s (s.onZone z Zone.reloadSnapshot)
  | insertSegment (z : ZoneId) (f : InsertFields) (h : insertRefusal s z f = none) :
      Change s ((s.onTable z fun t =>
        { t with segments := placeSegment (insertedSegment f) t.segments }).reevaluate z)
  | editSegment (z : ZoneId) (f : EditFields) (g : Segment)
      (hg : segmentStarting (s.tables.get z).segments f.start = some g) (h : editRefusal s f g = none) :
      Change s ((s.onTable z fun t =>
        { t with segments := t.segments.map fun h => if h.start = f.start then editedSegment f h else h }).reevaluate z)
  | deleteSegment (z : ZoneId) (start : Nat) (hstart : start ≠ 0) (hmode : s.mode = .setup) :
      Change s ((s.onTable z fun t =>
        { t with segments := t.segments.filter fun h => decide (h.start ≠ start) }).reevaluate z)
  | setCoupling (st : StageId) (z : ZoneId) (v : Nat) (hv : v ≤ 100)
      (h : s.mode = .show → (s.stages.get st).record.coupling.get z ≤ v) : Change s (s.takeCoupling st z v)
  | setStage (st : StageId) (f : SetStageFields) (h : stageRefusal s st f = none) : Change s (s.takeStageRecord st f)
  | muteNow (st : StageId) : Change s (s.changeStage st Stage.muteNow)
  | fade (st : StageId) : Change s (s.changeStage st (Stage.fadeOut s.now))
  | release (st : StageId) : Change s (s.changeStage st (Stage.releaseReasons s.now))
  | assignMonitor (a : SlotId) (z : ZoneId) (h : assignRefusal s a z = none) : Change s (s.takeAssignment a z)
  | unassignMonitor (a : SlotId) (h : s.loop.slotState a ≠ .vacant) (hmode : s.mode = .setup) :
      Change s (s.takeUnassignment a)
  | readMonitor (l : List SlotId) :
      Change s (s.onLoop fun k => l.foldl (fun k a => k.onSlot a UnitSlot.clearFlags) k)
  | setTime (time : Nat) (h : timeRefusal s time = none) : Change s (s.takeTime time)
  | toInternal (h : s.timeBase.source = .pps) : Change s s.toInternal
  | toPps (h : s.timeBase.source = .internal) : Change s s.toPps
  | armShow : Change s { s with mode := .show }
  | endShow : Change s (({ s with mode := .setup } : State).eachStage State.endShowGrant)
  | setPool (m : Nat) : Change s (s.writePool m)
  | enablePath (st : StageId) : Change s (s.onPath st (Path.enable s.now))
  | disablePath (st : StageId) : Change s (s.onPath st Path.disable)
  | alignPath (st : StageId) (h : (s.paths.get st).state ≠ .idle) : Change s (s.onPath st Path.align)
  | setPath (st : StageId) (f : SetPathFields) : Change s (s.onPath st (Path.write f))
  | clearAlarms (st : StageId) (a : AlarmSet) : Change s (s.clearPathAlarms st a)
  | clearClosed : Change s s.clearClosedRecords
  | restart (hmode : s.mode = .setup) : Change s s.restartAll

/-! ## The services -/

theorem Mode.isShow_eq_false {m : Mode} : m.isShow = false ↔ m = .setup := by
  cases m <;> simp [Mode.isShow]

section
variable (s : State)

theorem forZone_change (zone : Nat) {serve : ZoneId → Served} (h : ∀ z, Change s (serve z).1) :
    Change s (forZone zone s serve).1 := by
  unfold forZone
  split
  · exact .refl
  · exact h _

theorem forStage_change (stage : Nat) {serve : StageId → Served} (h : ∀ st, Change s (serve st).1) :
    Change s (forStage stage s serve).1 := by
  unfold forStage
  split
  · exact .refl
  · exact h _

theorem serveSetDesk_change (st : StageId) (f : SetDeskFields) : Change s (serveSetDesk st f s).1 := by
  simp only [serveSetDesk]
  split
  · exact .refl
  · next h => exact .setDesk st f (by simpa using h)

theorem serveAckNotices_change (l : LinkId) (m : BitVec 16) : Change s (serveAckNotices l m s).1 := by
  simp only [serveAckNotices]
  split
  · exact .refl
  · next h => exact .ackNotices l m (by simpa using h)

theorem serveSetNotices_change (n : Nat) (f : SetNoticesFields) : Change s (serveSetNotices n f s).1 := by
  simp only [serveSetNotices]
  split
  · exact .refl
  · split
    · exact .refl
    · next h => exact .setNotices _ f (by simpa using h)

theorem serveSetZone_change (zone : Nat) (f : SetZoneFields) : Change s (serveSetZone zone f s).1 := by
  refine forZone_change s zone fun z => ?_
  dsimp only
  split
  · exact .refl
  · next h => exact .setZone z f fun hshow => by simpa [hshow, Mode.isShow] using h

theorem serveEnableZone_change (zone : Nat) : Change s (serveEnableZone zone s).1 := by
  refine forZone_change s zone fun z => ?_
  dsimp only
  split
  · exact .refl
  · next h => exact .enableZone z (by simpa using h)

theorem serveDisableZone_change (zone : Nat) : Change s (serveDisableZone zone s).1 := by
  refine forZone_change s zone fun z => ?_
  dsimp only
  split
  · exact .refl
  · next hmode =>
    dsimp only
    split
    · next h => exact .disableZone z (Mode.isShow_eq_false.mp (by simpa using hmode)) h
    · exact .refl

theorem serveInsertSegment_change (zone : Nat) (f : InsertFields) : Change s (serveInsertSegment zone f s).1 := by
  refine forZone_change s zone fun z => ?_
  dsimp only
  split
  · exact .refl
  · next h => exact .insertSegment z f h

theorem serveEditSegment_change (zone : Nat) (f : EditFields) : Change s (serveEditSegment zone f s).1 := by
  refine forZone_change s zone fun z => ?_
  dsimp only
  split
  · exact .refl
  · next g hg =>
    split
    · exact .refl
    · next h => exact .editSegment z f g hg h

theorem serveDeleteSegment_change (zone start : Nat) : Change s (serveDeleteSegment zone start s).1 := by
  refine forZone_change s zone fun z => ?_
  dsimp only
  split
  · exact .refl
  · split
    · exact .refl
    · next hstart =>
      split
      · exact .refl
      · next hmode => exact .deleteSegment z start hstart (Mode.isShow_eq_false.mp (by simpa using hmode))

theorem serveSetCoupling_change (stage zone value : Nat) : Change s (serveSetCoupling stage zone value s).1 := by
  refine forStage_change s stage fun st => forZone_change s zone fun z => ?_
  dsimp only
  split
  · exact .refl
  · next h =>
    refine .setCoupling st z _ (clampTo_within (by decide) value).2 fun hshow => ?_
    simpa [hshow, Mode.isShow] using h

theorem serveSetStage_change (stage : Nat) (f : SetStageFields) : Change s (serveSetStage stage f s).1 := by
  refine forStage_change s stage fun st => ?_
  dsimp only
  split
  · exact .refl
  · next h => exact .setStage st f h

theorem serveAssignMonitor_change (address zone : Nat) : Change s (serveAssignMonitor address zone s).1 := by
  unfold serveAssignMonitor
  split
  · exact .refl
  · refine forZone_change s zone fun z => ?_
    dsimp only
    split
    · exact .refl
    · next h => exact .assignMonitor _ z h

theorem serveUnassignMonitor_change (address : Nat) : Change s (serveUnassignMonitor address s).1 := by
  unfold serveUnassignMonitor
  split
  · exact .refl
  · split
    · exact .refl
    · next h =>
      split
      · exact .refl
      · next hmode => exact .unassignMonitor _ h (Mode.isShow_eq_false.mp (by simpa using hmode))

theorem serveReadMonitor_change (address : Nat) : Change s (serveReadMonitor address s).1 := by
  unfold serveReadMonitor
  split
  · exact .refl
  · exact .readMonitor _

theorem serveSetTime_change (time : Nat) : Change s (serveSetTime time s).1 := by
  unfold serveSetTime
  split
  · exact .refl
  · next h => exact .setTime time h

theorem serveSelectSource_change (n : Nat) : Change s (serveSelectSource n s).1 := by
  unfold serveSelectSource
  split
  · exact .refl
  · next h => exact .toInternal h
  · exact .refl
  · next h =>
    split
    · exact .toPps h
    · exact .refl
  · exact .refl

theorem serveArmShow_change : Change s (serveArmShow s).1 := by
  unfold serveArmShow
  split
  · exact .refl
  · split
    · exact .armShow
    · exact .refl

theorem serveAlignPath_change (stage : Nat) : Change s (serveAlignPath stage s).1 := by
  refine forStage_change s stage fun st => ?_
  dsimp only
  split
  · exact .refl
  · next h => exact .alignPath st h

theorem serveSetPath_change (stage : Nat) (f : SetPathFields) : Change s (serveSetPath stage f s).1 := by
  refine forStage_change s stage fun st => ?_
  dsimp only
  split
  · exact .refl
  · exact .setPath st f

theorem serveClearAlarms_change (stage : Nat) (mask : Byte) : Change s (serveClearAlarms stage mask s).1 := by
  refine forStage_change s stage fun st => ?_
  dsimp only
  split
  · exact .refl
  · exact .clearAlarms st _

theorem serveRestart_change : Change s (serveRestart s).1 := by
  unfold serveRestart
  split
  · exact .refl
  · next hmode => exact .restart (Mode.isShow_eq_false.mp (by simpa using hmode))

theorem serveEncore_fst (st : StageId) (m : Nat) :
    (serveEncore st m s).1 = (s.serveEncoreAsk st (clampTo 1 10 m)).2.2 := rfl

theorem serveEncoreEnd_fst (st : StageId) : (serveEncoreEnd st s).1 = (s.serveEncoreEnd st).2.2 := rfl

/-- What the service of any request does, arm by arm of `serveRequest`. -/
theorem serveRequest_change (l : LinkId) (r : Request) : Change s (serveRequest l r s).1 := by
  cases l with
  | desk st =>
    cases r
    case setDesk f => exact serveSetDesk_change s st f
    case encore m => exact serveEncore_fst s st m ▸ .encore st m
    case encoreEnd => exact serveEncoreEnd_fst s st ▸ .encoreEnd st
    case ackNotices m => exact serveAckNotices_change s _ m
    all_goals exact .refl
  | officer =>
    cases r
    case ackNotices m => exact serveAckNotices_change s _ m
    case setZone zone f => exact serveSetZone_change s zone f
    case enableZone zone => exact serveEnableZone_change s zone
    case disableZone zone => exact serveDisableZone_change s zone
    case readZone zone => exact forZone_change s zone fun z => .readZone z
    case readSchedule zone => exact forZone_change s zone fun _ => .refl
    case insertSegment zone f => exact serveInsertSegment_change s zone f
    case editSegment zone f => exact serveEditSegment_change s zone f
    case deleteSegment zone start => exact serveDeleteSegment_change s zone start
    case setCoupling stage zone value => exact serveSetCoupling_change s stage zone value
    case setStage stage f => exact serveSetStage_change s stage f
    case assignMonitor address zone => exact serveAssignMonitor_change s address zone
    case unassignMonitor address => exact serveUnassignMonitor_change s address
    case readMonitor address => exact serveReadMonitor_change s address
    case setTime time => exact serveSetTime_change s time
    case selectSource n => exact serveSelectSource_change s n
    case armShow => exact serveArmShow_change s
    case endShow => exact .endShow
    case setPool m => exact .setPool m
    case muteNow stage => exact forStage_change s stage fun st => .muteNow st
    case fade stage => exact forStage_change s stage fun st => .fade st
    case release stage => exact forStage_change s stage fun st => .release st
    case enablePath stage => exact forStage_change s stage fun st => .enablePath st
    case disablePath stage => exact forStage_change s stage fun st => .disablePath st
    case alignPath stage => exact serveAlignPath_change s stage
    case setPath stage f => exact serveSetPath_change s stage f
    case clearAlarms stage mask => exact serveClearAlarms_change s stage mask
    case clearClosed => exact .clearClosed
    case setNotices n f => exact serveSetNotices_change s n f
    case restart => exact serveRestart_change s
    all_goals exact .refl

/-! ## Commands and steps -/

/-- What an event that comes from no link does. -/
theorem event_change {c : Instr} (h : commandLink c = none) (hpower : c ≠ .powerOn) :
    ∃ t, exec c s = .next t ∧ Change s t := by
  cases c
  case powerOn => exact absurd rfl hpower
  case expectedPoint => exact ⟨_, rfl, .expectedPoint⟩
  case ppsPulse m => exact ⟨_, rfl, .pulse m⟩
  case windowClose => exact ⟨_, rfl, .windowEnd⟩
  case lockLoss => exact ⟨_, rfl, .lockLost⟩
  case latnAsserted level =>
    cases level
    · exact ⟨_, rfl, .latnFalls⟩
    · exact ⟨_, rfl, .latnRises⟩
  case markSent =>
    show ∃ t, execMarkSent s = .next t ∧ Change s t
    unfold execMarkSent
    split
    · next tag h => exact ⟨_, rfl, .markSent tag h⟩
    · exact ⟨_, rfl, .refl⟩
  case loopResetDone =>
    show ∃ t, execLoopResetDone s = .next t ∧ Change s t
    unfold execLoopResetDone
    split
    · next h => exact ⟨_, rfl, .loopResetDone h⟩
    · exact ⟨_, rfl, .refl⟩
  case identifyReply => exact ⟨_, rfl, .completeReply _⟩
  case statusReply => exact ⟨_, rfl, .completeReply _⟩
  case fetchReply => exact ⟨_, rfl, .completeReply _⟩
  case completeReplyFailed => exact ⟨_, rfl, .completeReply _⟩
  case replyTimeout => exact ⟨_, rfl, .failAttempt⟩
  case replyBreak => exact ⟨_, rfl, .failAttempt⟩
  case loopStall => exact ⟨_, rfl, .stall⟩
  case reseekExpiry a => exact ⟨_, rfl, .reseekExpires a⟩
  case settleExpiry z => exact ⟨_, rfl, .settleExpires z⟩
  case rampExpiry st => exact ⟨_, rfl, .rampExpires st⟩
  case frameArrival st f b => exact ⟨_, rfl, .arrival st f b⟩
  case outputFrameEvent => exact ⟨_, rfl, .outputEvent⟩
  case noSignalExpiry st => exact ⟨_, rfl, .noSignalExpires st⟩
  all_goals simp [commandLink, requestOf] at h

/-- Every command but POWER_ON completes, and is one change of the blocks with changes of the links alone around it. -/
theorem command_change {c : Instr} (hpower : c ≠ .powerOn) :
    ∃ t, exec c s = .next t ∧ ∃ u v, LinkOnly s u ∧ Change u v ∧ LinkOnly v t := by
  cases h : commandLink c with
  | none =>
    obtain ⟨t, ht, hchange⟩ := event_change s h hpower
    exact ⟨t, ht, s, t, .refl s, hchange, .refl t⟩
  | some l =>
    obtain ⟨t, ht, honly | ⟨r, u, hu, hserved⟩⟩ := linkCommand_fate h s
    · exact ⟨t, ht, s, s, .refl s, .refl, honly⟩
    · exact ⟨t, ht, u, _, hu, serveRequest_change u l r, hserved⟩

end

/-- A property that the links, the kept reports and the queue do not enter, and that every change keeps, is kept by
every step. -/
theorem step_keeps {P : State → Prop} (hlinks : ∀ {s t}, LinkOnly s t → P s → P t)
    (hqueue : ∀ {s} q, P s → P { s with pending := q }) (hpower : ∀ s : State, P s.poweredOn)
    (hchange : ∀ {s t}, Change s t → P s → P t) {s t : State} (hstep : step s = .next t) (hs : P s) : P t := by
  have hexec : ∀ {c s}, exec c s = .next t → P s → P t := by
    intro c s hc hs
    by_cases hc' : c = .powerOn
    · subst hc'
      obtain rfl : s.poweredOn = t := Host.Outcome.next.inj hc
      exact hpower s
    · obtain ⟨t', ht', u, v, hu, huv, hv⟩ := command_change s hc'
      obtain rfl : t' = t := by simpa [ht'] using hc
      exact hlinks hv (hchange huv (hlinks hu hs))
  unfold step at hstep
  split at hstep
  · exact hexec hstep hs
  · exact hexec hstep (hqueue _ hs)

end Sys2Proof.Machine
end

section
/-! PROOFS. The frames of the changes that the laws do not give yet, and the audio paths' part of the invariant: what
an operation of one path makes of a sound path (R128 to R143). -/

namespace Sys2Proof.Machine

/-! ## Frames of the timers' events and of the services of Chapter 6 -/

@[simp] theorem expectedPoint_frame (s : State) :
    s.expectedPoint.mode = s.mode ∧ s.expectedPoint.paths = s.paths ∧ s.expectedPoint.pending = s.pending := by
  simp only [State.expectedPoint]
  split <;> simp

@[simp] theorem windowEnd_frame (s : State) :
    s.windowEnd.mode = s.mode ∧ s.windowEnd.paths = s.paths ∧ s.windowEnd.pending = s.pending := by
  simp only [State.windowEnd]
  split <;> simp

@[simp] theorem lockLost_frame (s : State) :
    s.lockLost.mode = s.mode ∧ s.lockLost.tables = s.tables ∧ s.lockLost.zones = s.zones ∧
    s.lockLost.stages = s.stages ∧ s.lockLost.pool = s.pool ∧ s.lockLost.curfew = s.curfew ∧
    s.lockLost.paths = s.paths ∧ s.lockLost.exceedances = s.exceedances ∧ s.lockLost.loop = s.loop ∧
    s.lockLost.orders = s.orders ∧ s.lockLost.reports = s.reports ∧ s.lockLost.pending = s.pending := by
  simp only [State.lockLost]
  split <;> simp

@[simp] theorem reseekExpires_frame (s : State) (a : SlotId) :
    (s.reseekExpires a).mode = s.mode ∧ (s.reseekExpires a).timeBase = s.timeBase ∧
    (s.reseekExpires a).tables = s.tables ∧ (s.reseekExpires a).zones = s.zones ∧
    (s.reseekExpires a).stages = s.stages ∧ (s.reseekExpires a).pool = s.pool ∧
    (s.reseekExpires a).curfew = s.curfew ∧ (s.reseekExpires a).paths = s.paths ∧
    (s.reseekExpires a).exceedances = s.exceedances ∧ (s.reseekExpires a).links = s.links ∧
    (s.reseekExpires a).orders = s.orders ∧ (s.reseekExpires a).reports = s.reports ∧
    (s.reseekExpires a).pending = s.pending := by
  unfold State.reseekExpires
  split <;> simp

@[simp] theorem settleExpires_frame (s : State) (z : ZoneId) :
    (s.settleExpires z).mode = s.mode ∧ (s.settleExpires z).timeBase = s.timeBase ∧
    (s.settleExpires z).tables = s.tables ∧ (s.settleExpires z).stages = s.stages ∧
    (s.settleExpires z).pool = s.pool ∧ (s.settleExpires z).curfew = s.curfew ∧
    (s.settleExpires z).paths = s.paths ∧ (s.settleExpires z).exceedances = s.exceedances ∧
    (s.settleExpires z).loop = s.loop ∧ (s.settleExpires z).links = s.links ∧
    (s.settleExpires z).orders = s.orders ∧ (s.settleExpires z).reports = s.reports ∧
    (s.settleExpires z).pending = s.pending := by
  unfold State.settleExpires
  split <;> simp

@[simp] theorem rampExpires_frame (s : State) (st : StageId) :
    (s.rampExpires st).mode = s.mode ∧ (s.rampExpires st).timeBase = s.timeBase ∧
    (s.rampExpires st).tables = s.tables ∧ (s.rampExpires st).zones = s.zones ∧
    (s.rampExpires st).pool = s.pool ∧ (s.rampExpires st).curfew = s.curfew ∧
    (s.rampExpires st).paths = s.paths ∧ (s.rampExpires st).exceedances = s.exceedances ∧
    (s.rampExpires st).loop = s.loop ∧ (s.rampExpires st).orders = s.orders ∧
    (s.rampExpires st).reports = s.reports ∧ (s.rampExpires st).pending = s.pending := by
  simp only [State.rampExpires]
  split <;> simp

@[simp] theorem noSignalExpires_frame (s : State) (st : StageId) :
    (s.noSignalExpires st).mode = s.mode ∧ (s.noSignalExpires st).timeBase = s.timeBase ∧
    (s.noSignalExpires st).tables = s.tables ∧ (s.noSignalExpires st).zones = s.zones ∧
    (s.noSignalExpires st).stages = s.stages ∧ (s.noSignalExpires st).pool = s.pool ∧
    (s.noSignalExpires st).curfew = s.curfew ∧ (s.noSignalExpires st).exceedances = s.exceedances ∧
    (s.noSignalExpires st).loop = s.loop ∧ (s.noSignalExpires st).orders = s.orders ∧
    (s.noSignalExpires st).reports = s.reports ∧ (s.noSignalExpires st).pending = s.pending := by
  unfold State.noSignalExpires
  split <;> simp

@[simp] theorem outputEvent_keeps (s : State) :
    (s.eachStage State.outputAt).mode = s.mode ∧ (s.eachStage State.outputAt).timeBase = s.timeBase ∧
    (s.eachStage State.outputAt).tables = s.tables ∧ (s.eachStage State.outputAt).zones = s.zones ∧
    (s.eachStage State.outputAt).stages = s.stages ∧ (s.eachStage State.outputAt).pool = s.pool ∧
    (s.eachStage State.outputAt).curfew = s.curfew ∧ (s.eachStage State.outputAt).exceedances = s.exceedances ∧
    (s.eachStage State.outputAt).loop = s.loop ∧ (s.eachStage State.outputAt).orders = s.orders ∧
    (s.eachStage State.outputAt).reports = s.reports ∧ (s.eachStage State.outputAt).pending = s.pending := by
  rw [outputEvent_frame]
  simp

@[simp] theorem serveEncoreAsk_frame (s : State) (st : StageId) (m : Nat) :
    (s.serveEncoreAsk st m).2.2.now = s.now ∧ (s.serveEncoreAsk st m).2.2.mode = s.mode ∧
    (s.serveEncoreAsk st m).2.2.timeBase = s.timeBase ∧ (s.serveEncoreAsk st m).2.2.tables = s.tables ∧
    (s.serveEncoreAsk st m).2.2.zones = s.zones ∧ (s.serveEncoreAsk st m).2.2.paths = s.paths ∧
    (s.serveEncoreAsk st m).2.2.exceedances = s.exceedances ∧ (s.serveEncoreAsk st m).2.2.loop = s.loop ∧
    (s.serveEncoreAsk st m).2.2.orders = s.orders ∧ (s.serveEncoreAsk st m).2.2.reports = s.reports ∧
    (s.serveEncoreAsk st m).2.2.pending = s.pending := by
  unfold State.serveEncoreAsk
  split <;> simp

@[simp] theorem serveEncoreEnd_frame (s : State) (st : StageId) :
    (s.serveEncoreEnd st).2.2.now = s.now ∧ (s.serveEncoreEnd st).2.2.mode = s.mode ∧
    (s.serveEncoreEnd st).2.2.timeBase = s.timeBase ∧ (s.serveEncoreEnd st).2.2.tables = s.tables ∧
    (s.serveEncoreEnd st).2.2.zones = s.zones ∧ (s.serveEncoreEnd st).2.2.paths = s.paths ∧
    (s.serveEncoreEnd st).2.2.exceedances = s.exceedances ∧ (s.serveEncoreEnd st).2.2.loop = s.loop ∧
    (s.serveEncoreEnd st).2.2.orders = s.orders ∧ (s.serveEncoreEnd st).2.2.reports = s.reports ∧
    (s.serveEncoreEnd st).2.2.pending = s.pending := by
  unfold State.serveEncoreEnd
  split <;> simp

@[simp] theorem endShowGrants_frame (s : State) :
    (s.eachStage State.endShowGrant).now = s.now ∧ (s.eachStage State.endShowGrant).mode = s.mode ∧
    (s.eachStage State.endShowGrant).timeBase = s.timeBase ∧ (s.eachStage State.endShowGrant).tables = s.tables ∧
    (s.eachStage State.endShowGrant).zones = s.zones ∧ (s.eachStage State.endShowGrant).pool = s.pool ∧
    (s.eachStage State.endShowGrant).paths = s.paths ∧
    (s.eachStage State.endShowGrant).exceedances = s.exceedances ∧
    (s.eachStage State.endShowGrant).loop = s.loop ∧ (s.eachStage State.endShowGrant).orders = s.orders ∧
    (s.eachStage State.endShowGrant).reports = s.reports ∧
    (s.eachStage State.endShowGrant).pending = s.pending := by
  refine ⟨?_, ?_, ?_, ?_, ?_, ?_, ?_, ?_, ?_, ?_, ?_, ?_⟩ <;> exact eachStage_keeps _ _ (fun _ _ => by simp) _

/-- Everything else stands in a change of the links alone. -/
theorem LinkOnly.frame {s t : State} (h : LinkOnly s t) :
    t.now = s.now ∧ t.mode = s.mode ∧ t.timeBase = s.timeBase ∧ t.tables = s.tables ∧ t.zones = s.zones ∧
    t.stages = s.stages ∧ t.pool = s.pool ∧ t.curfew = s.curfew ∧ t.paths = s.paths ∧
    t.exceedances = s.exceedances ∧ t.loop = s.loop ∧ t.orders = s.orders ∧ t.pending = s.pending := by
  obtain ⟨k, r, -, rfl⟩ := h
  simp

/-! ## One path (R128 to R143) -/

theorem pathOk_idle {p : Path} (hbuffer : p.buffer = []) (hindex : p.writeIndex = none)
    (hwatch : p.watch = .notWatched) (hstate : p.state = .idle) (hdelay : within 2 30 p.delay) : pathOk p := by
  refine ⟨by simp [hbuffer], hdelay, ?_⟩
  simp [pathStateOk, hstate, hindex, hbuffer, hwatch]

/-- A path that is sound as it discards frames before the first strobe. -/
theorem pathOk_discarding {p : Path} (hbuffer : p.buffer = []) (hindex : p.writeIndex = none)
    (hwatch : p.watch ≠ .notWatched) (hstate : p.state = .aligning) (hdelay : within 2 30 p.delay) : pathOk p := by
  refine ⟨by simp [hbuffer], hdelay, ?_⟩
  simp [pathStateOk, hstate, hindex, hbuffer, hwatch]

theorem pathOk_running {p : Path} {n : Nat} (hindex : p.writeIndex = some n) (hn : n < 16)
    (hwatch : p.watch ≠ .notWatched) (hstate : p.state = .running) (hlength : p.buffer.length ≤ 32)
    (hdelay : within 2 30 p.delay) : pathOk p := by
  refine ⟨hlength, hdelay, ?_⟩
  simp [pathStateOk, hstate, hindex, hwatch, hn]

/-- A path that is filling is sound, whether or not the last frame completes its fill (R130). -/
theorem pathOk_filled {p : Path} {n : Nat} (hindex : p.writeIndex = some n) (hn : n < 16)
    (hwatch : p.watch ≠ .notWatched) (hsome : 1 ≤ p.buffer.length) (hlength : p.buffer.length ≤ p.delay)
    (hdelay : within 2 30 p.delay)
    (hstate : p.state = if p.delay ≤ p.buffer.length then .running else .aligning) : pathOk p := by
  have hle := hdelay.2
  split at hstate
  · exact pathOk_running hindex hn hwatch hstate (by omega) hdelay
  · next hpart =>
    refine ⟨by omega, hdelay, ?_⟩
    simp [pathStateOk, hstate, hindex, hwatch, hn, hsome, Nat.not_le.mp hpart]

/-- What a sound path holds in each of its states. -/
theorem pathOk_cases {p : Path} (h : pathOk p) :
    p.buffer.length ≤ 32 ∧ within 2 30 p.delay ∧
    (p.state = .idle → p.buffer = [] ∧ p.writeIndex = none ∧ p.watch = .notWatched) ∧
    (p.state ≠ .idle → p.watch ≠ .notWatched) ∧
    (p.state = .aligning → p.writeIndex = none → p.buffer = []) ∧
    (p.state = .aligning → ∀ n, p.writeIndex = some n → n < 16 ∧ 1 ≤ p.buffer.length ∧ p.buffer.length < p.delay) ∧
    (p.state = .running → ∃ n, p.writeIndex = some n ∧ n < 16) := by
  obtain ⟨hlength, hdelay, hstate⟩ := h
  refine ⟨hlength, hdelay, ?_⟩
  cases hp : p.state <;> cases hi : p.writeIndex <;> simp_all [pathStateOk]

/-- Alarms and settings other than D do not enter a path's soundness. -/
theorem pathOk_congr {p q : Path} (h : pathOk p) (hstate : q.state = p.state) (hbuffer : q.buffer = p.buffer)
    (hindex : q.writeIndex = p.writeIndex) (hwatch : q.watch = p.watch) (hdelay : q.delay = p.delay) : pathOk q := by
  simpa [pathOk, pathStateOk, hstate, hbuffer, hindex, hwatch, hdelay] using h

theorem advanceIndex_lt (n : Nat) : advanceIndex n < 16 := Nat.mod_lt _ (by decide)

theorem hear_takeFrame_ok {p : Path} (h : pathOk p) (now : Nat) (f : Frame) (strobe : Bool) :
    pathOk ((p.hear now).takeFrame f strobe) := by
  obtain ⟨hlength, hdelay, -, -, hnone, hsome, hrunning⟩ := pathOk_cases h
  by_cases hidle : p.state = .idle
  · rwa [hear_of_idle hidle, takeFrame_of_quiet (arrive_of_idle hidle) (slips_of_idle hidle _)]
  rw [hear_of_enabled hidle]
  obtain hstate | hstate : p.state = .aligning ∨ p.state = .running := by
    cases hstate : p.state <;> simp_all
  case inl =>
    rw [takeFrame_of_aligning (p := { p with watch := .present (now + 1000) }) hstate]
    split
    case isTrue hdiscard =>
      obtain ⟨hindex, -⟩ := hdiscard
      exact pathOk_discarding (hnone hstate hindex) hindex (by simp) hstate hdelay
    case isFalse hheard =>
      split
      case isTrue => exact pathOk_filled rfl (by decide) (by simp) (by simp) (by dsimp; omega) hdelay rfl
      case isFalse hfill =>
        obtain ⟨hindex, -⟩ := not_or.mp hfill
        obtain ⟨n, hn⟩ := Option.ne_none_iff_exists'.mp hindex
        obtain ⟨-, -, hpart⟩ := hsome hstate n hn
        exact pathOk_filled rfl (advanceIndex_lt _) (by simp) (by simp) (by simpa using hpart) hdelay (by simp)
  case inr =>
    rw [takeFrame_of_running (p := { p with watch := .present (now + 1000) }) hstate]
    split
    case isTrue => exact pathOk_filled rfl (by decide) (by simp) (by simp) (by dsimp; omega) hdelay rfl
    case isFalse =>
      refine pathOk_running rfl ?_ (by simp) hstate ?_ hdelay
      · split
        · decide
        · exact advanceIndex_lt _
      · dsimp only
        split
        · simpa using ‹p.buffer.length < 32›
        · exact hlength

theorem output_ok {p : Path} (h : pathOk p) (g : Stage) : pathOk (p.output g) := by
  obtain ⟨hlength, hdelay, -, hwatch, -, -, hindex⟩ := pathOk_cases h
  unfold Path.output
  split
  · exact pathOk_congr h rfl rfl rfl rfl rfl
  · next f rest hrunning hbuffer =>
    obtain ⟨n, hn, hlt⟩ := hindex hrunning
    rw [hbuffer, List.length_cons] at hlength
    exact pathOk_running hn hlt (hwatch (by simp [hrunning])) hrunning (Nat.le_of_succ_le hlength) hdelay
  · exact pathOk_congr h rfl rfl rfl rfl rfl

theorem align_ok {p : Path} (h : pathOk p) (hidle : p.state ≠ .idle) : pathOk p.align := by
  obtain ⟨-, hdelay, -, hwatch, -⟩ := pathOk_cases h
  exact pathOk_discarding rfl rfl (hwatch hidle) rfl hdelay

theorem align_startWatch_ok {p : Path} (hdelay : within 2 30 p.delay) (now : Nat) :
    pathOk (p.align.startWatch now) :=
  pathOk_discarding rfl rfl (by simp [Path.startWatch]) rfl hdelay

theorem enable_ok {p : Path} (h : pathOk p) (now : Nat) : pathOk (p.enable now) := by
  obtain ⟨-, hdelay, -⟩ := pathOk_cases h
  unfold Path.enable
  split
  · exact align_startWatch_ok hdelay now
  · exact h
  · exact h

theorem disable_ok {p : Path} (h : pathOk p) : pathOk p.disable := by
  obtain ⟨-, hdelay, -⟩ := pathOk_cases h
  exact pathOk_idle rfl rfl rfl rfl hdelay

theorem restart_path_ok {p : Path} (h : pathOk p) (now : Nat) : pathOk (p.restart now) := by
  obtain ⟨-, hdelay, -⟩ := pathOk_cases h
  simp only [Path.restart]
  split
  · exact pathOk_congr h rfl rfl rfl rfl rfl
  · exact align_startWatch_ok hdelay now

/-- The signal of a watched path may be lost in any of its states (R135). -/
theorem absent_ok {p : Path} (h : pathOk p) (hwatch : p.watch ≠ .notWatched) : pathOk { p with watch := .absent } := by
  obtain ⟨hlength, hdelay, hidle, -, hnone, hsome, hrunning⟩ := pathOk_cases h
  cases hstate : p.state with
  | idle =>
    obtain ⟨-, -, hunwatched⟩ := hidle hstate
    exact absurd hunwatched hwatch
  | running =>
    obtain ⟨n, hindex, hn⟩ := hrunning hstate
    exact pathOk_running hindex hn (by simp) rfl hlength hdelay
  | aligning =>
    cases hindex : p.writeIndex with
    | none => exact pathOk_discarding (hnone hstate hindex) rfl (by simp) rfl hdelay
    | some n =>
      obtain ⟨hn, hpos, hpart⟩ := hsome hstate n hindex
      exact pathOk_filled rfl hn (by simp) hpos hpart.le hdelay (if_neg (Nat.not_le.mpr hpart)).symm

/-- The settings a SET PATH stores, before a new D may complete the fill (R141). -/
def Path.settings (f : SetPathFields) (p : Path) : Path :=
  { p with
    delay := (f.delay.map (clampTo 2 30)).getD p.delay
    muteMask := (f.muteMask.map AlarmSet.ofMask).getD p.muteMask
    followStrobe := (f.followStrobe.map fun b => decide (b ≠ 0)).getD p.followStrobe }

theorem write_eq (f : SetPathFields) (p : Path) :
    p.write f = if p.state = .aligning ∧ f.delay.isSome = true then (p.settings f).completeFill else p.settings f := by
  unfold Path.write Path.settings
  cases f.delay <;> cases f.muteMask <;> cases f.followStrobe <;> cases p.state <;> simp

theorem settings_delay_within {p : Path} (f : SetPathFields) (h : within 2 30 p.delay) :
    within 2 30 (p.settings f).delay := by
  cases hd : f.delay with
  | none => simpa [Path.settings, hd] using h
  | some d => simpa [Path.settings, hd] using clampTo_within (by decide) d

theorem write_ok {p : Path} (h : pathOk p) (f : SetPathFields) : pathOk (p.write f) := by
  obtain ⟨hlength, hdelay, hidle, hwatch, hnone, hsome, hrunning⟩ := pathOk_cases h
  have hnew := settings_delay_within f hdelay
  rw [write_eq]
  cases hstate : p.state with
  | idle =>
    obtain ⟨hbuffer, hindex, hunwatched⟩ := hidle hstate
    exact pathOk_idle hbuffer hindex hunwatched hstate hnew
  | running =>
    obtain ⟨n, hindex, hn⟩ := hrunning hstate
    exact pathOk_running hindex hn (hwatch (by simp [hstate])) hstate hlength hnew
  | aligning =>
    have hwatched := hwatch (by simp [hstate])
    split
    case isTrue hgiven =>
      unfold Path.completeFill
      cases hindex : p.writeIndex with
      | none =>
        have hpart : (p.settings f).writeIndex = none := hindex
        simpa [hpart] using pathOk_discarding (p := p.settings f) (hnone hstate hindex) hindex hwatched hstate hnew
      | some n =>
        obtain ⟨hn, hpos, -⟩ := hsome hstate n hindex
        have hbegun : (p.settings f).writeIndex = some n := hindex
        split
        · exact pathOk_running hbegun hn hwatched rfl hlength hnew
        · next hpart =>
          have hpart : ¬(p.settings f).delay ≤ (p.settings f).buffer.length := by simpa [hbegun] using hpart
          exact pathOk_filled hbegun hn hwatched hpos (Nat.not_le.mp hpart).le hnew (by
            rw [if_neg hpart]; exact hstate)
    case isFalse hkept =>
      have hd : f.delay = none := by simpa [hstate] using hkept
      exact pathOk_congr h rfl rfl rfl rfl (by simp [Path.settings, hd])

/-! ## The part at power-on -/

theorem stageOk_reset : stageOk Stage.reset := by
  refine ⟨?_, ?_, ?_, ?_, ?_, ?_, ?_, ?_, ?_, ?_⟩ <;> decide

theorem stagesOk_reset : stagesOk State.reset := fun st => (Bank4.get_fill Stage.reset st).symm ▸ stageOk_reset

theorem loopOk_reset : loopOk State.reset := by
  refine ⟨?_, ?_, ?_, ?_, ?_, ?_⟩ <;> decide

theorem pathsOk_reset : pathsOk State.reset := by decide

/-- Settles O54, block by block. -/
theorem powerOnStateIsSound : Obligations.PowerOnStateIsSound := by
  unfold Obligations.PowerOnStateIsSound
  exact ⟨by decide, stagesOk_reset, by decide, by decide, by decide, by decide, by decide, pathsOk_reset, by decide,
    by decide, by decide, loopOk_reset⟩

/-! ## The four paths -/

theorem pathsOk_set {s t : State} {st : StageId} {q : Path} (ht : t.paths = s.paths.set st q) (hq : pathOk q)
    (hs : pathsOk s) : pathsOk t := by
  intro i
  rw [ht, Bank4.get_set]
  split
  · exact hq
  · exact hs i

theorem pathsOk_onPath {s : State} {st : StageId} {f : Path → Path} (hf : pathOk (f (s.paths.get st)))
    (hs : pathsOk s) : pathsOk (s.onPath st f) :=
  pathsOk_set (s := s) rfl hf hs

theorem pathsOk_congr {s t : State} (ht : t.paths = s.paths) (hs : pathsOk s) : pathsOk t := fun st => by
  rw [ht]
  exact hs st

/-- Alarms do not enter a path's soundness. -/
theorem pathsOk_setAlarm {s : State} (st : StageId) (a : Alarm) (hs : pathsOk s) : pathsOk (s.setAlarm st a) := by
  refine pathsOk_set (s := s) (st := st) (q := { s.paths.get st with alarms := (s.paths.get st).alarms.add a }) ?_
    (pathOk_congr (hs st) rfl rfl rfl rfl rfl) hs
  simp [State.setAlarm, Bank4.modify]

theorem pathsOk_noSignalExpires {s : State} (st : StageId) (hs : pathsOk s) : pathsOk (s.noSignalExpires st) := by
  unfold State.noSignalExpires
  split
  · next due hdue =>
    exact pathsOk_setAlarm _ _ (pathsOk_onPath (s := s.advanceTo due) (absent_ok (hs st) (by simp [hdue])) hs)
  · exact hs
  · exact hs

theorem pathsOk_clearPathAlarms {s : State} (st : StageId) (a : AlarmSet) (hs : pathsOk s) :
    pathsOk (s.clearPathAlarms st a) := by
  have hcleared : pathsOk (s.onPath st fun p => { p with alarms := p.alarms.without a }) :=
    pathsOk_onPath (pathOk_congr (hs st) rfl rfl rfl rfl rfl) hs
  simp only [State.clearPathAlarms]
  split
  · exact pathsOk_setAlarm _ _ hcleared
  · exact hcleared

theorem pathsOk_restartAll {s : State} (hs : pathsOk s) : pathsOk s.restartAll := by
  have hpaths : s.restartAll.paths = s.paths.map (Path.restart s.now) := by
    simp only [State.restartAll, arbitrate_paths, recomputeTargets_frame]
    rw [eachStage_keeps State.paths _ (fun _ _ => by simp)]
    simp [State.resetBlocks]
  intro st
  rw [hpaths, Bank4.get_map]
  exact restart_path_ok (hs st) _

/-- Every change keeps the paths sound: those of Chapter 7 by what they do to one path, the others by their frame. -/
theorem Change.keeps_pathsOk {s t : State} (h : Change s t) (hs : pathsOk s) : pathsOk t := by
  cases h
  case arrival st f strobe =>
    rw [arrival_eq_putPath]
    exact pathsOk_set (putPath_paths _ _ _) (hear_takeFrame_ok (hs st) _ _ _) hs
  case outputEvent =>
    refine List.foldlRecOn allStages _ hs fun t ht st _ => ?_
    rw [outputAt_eq_putPath]
    exact pathsOk_set (putPath_paths _ _ _) (output_ok (ht st) _) ht
  case noSignalExpires st => exact pathsOk_noSignalExpires st hs
  case enablePath st => exact pathsOk_onPath (enable_ok (hs st) _) hs
  case disablePath st => exact pathsOk_onPath (disable_ok (hs st)) hs
  case alignPath st h => exact pathsOk_onPath (align_ok (hs st) h) hs
  case setPath st f => exact pathsOk_onPath (write_ok (hs st) f) hs
  case clearAlarms st a => exact pathsOk_clearPathAlarms st a hs
  case restart => exact pathsOk_restartAll hs
  all_goals exact pathsOk_congr (by simp) hs

end Sys2Proof.Machine
end

section
/-! PROOFS. The notices that the blocks raise (R163, R164): all that any block's operation does to the links is to raise
kinds of theirs (`Raises`), one lemma for each shared operation in the order they build on one another. -/

namespace Sys2Proof.Machine

/-! ## One interface -/

/-- An interface after some raisings of its first `n` kinds, with ALERT as the last of them left it. -/
def RaisedIn (n : Nat) (k k' : LinkInterface) : Prop :=
  k' = k ∨ ∃ m : BitVec 16, m.toNat < 2 ^ n ∧
    k' = { k with noticeSet := k.noticeSet ||| m, alert := ((k.noticeSet ||| m) &&& k.enables) != 0#16 }

theorem RaisedIn.trans {n : Nat} {k k' k'' : LinkInterface} : RaisedIn n k k' → RaisedIn n k' k'' → RaisedIn n k k'' := by
  rintro h (rfl | ⟨m', hm', rfl⟩)
  · exact h
  · rcases h with rfl | ⟨m, hm, rfl⟩
    · exact .inr ⟨m', hm', rfl⟩
    · refine .inr ⟨m ||| m', ?_, by simp [BitVec.or_assoc]⟩
      rw [BitVec.toNat_or]
      exact Nat.or_lt_two_pow hm hm'

theorem noticeBit_toNat_lt {n kinds : Nat} (h : n < kinds) (hkinds : kinds ≤ 16) :
    (noticeBit n).toNat < 2 ^ kinds := by
  have hpow : 2 ^ n < 2 ^ 16 := Nat.pow_lt_pow_right (by decide) (by omega)
  have hbit : (noticeBit n).toNat = 2 ^ n := by
    simpa [noticeBit, BitVec.toNat_shiftLeft, Nat.one_shiftLeft] using hpow
  rw [hbit]
  exact Nat.pow_lt_pow_right (by decide) h

theorem raisedIn_raise {n kinds : Nat} (h : n < kinds) (hkinds : kinds ≤ 16) (k : LinkInterface) :
    RaisedIn kinds k (k.raise n) :=
  .inr ⟨noticeBit n, noticeBit_toNat_lt h hkinds, rfl⟩

/-! ## The five links -/

/-- Each link is as some raisings of its own kinds have left it. -/
structure Raises (k k' : Links) : Prop where
  link : ∀ l, RaisedIn (linkKinds l) (k.get l) (k'.get l)

@[simp] theorem Raises.refl (k : Links) : Raises k k := ⟨fun _ => .inl rfl⟩

theorem Raises.trans {k k' k'' : Links} (h : Raises k k') (h' : Raises k' k'') : Raises k k'' :=
  ⟨fun l => (h.link l).trans (h'.link l)⟩

/-- No notice is lost by a raising. -/
theorem Raises.noticeAt {s t : State} (h : Raises s.links t.links) {l : LinkId} {n : Nat}
    (hn : noticeAt l n s = true) : noticeAt l n t = true := by
  rcases h.link l with heq | ⟨m, -, heq⟩
  · rwa [Machine.noticeAt, heq]
  · rw [Machine.noticeAt, heq, BitVec.getLsbD_or]
    exact Bool.or_eq_true_iff.mpr (.inl hn)

/-- All that a raising leaves of a link but its notices. -/
theorem Raises.keeps {k k' : Links} (h : Raises k k') (l : LinkId) :
    (k'.get l).receiver = (k.get l).receiver ∧ (k'.get l).transmitter = (k.get l).transmitter ∧
    (k'.get l).held = (k.get l).held ∧ (k'.get l).owed = (k.get l).owed ∧
    (k'.get l).enables = (k.get l).enables ∧ (k'.get l).priorities = (k.get l).priorities := by
  rcases h.link l with heq | ⟨m, -, heq⟩ <;> simp [heq]

section
variable {k : Links} {s : State}

@[simp] theorem raises_desk {k' : Links} (st : StageId) (n : DeskNotice) (h : Raises k k') :
    Raises k (k'.set (.desk st) ((k'.get (.desk st)).raise n.position)) := by
  refine h.trans ⟨fun l => ?_⟩
  rw [links_get_set]
  split
  · next hl =>
    subst hl
    exact raisedIn_raise (by cases n <;> simp [DeskNotice.position, linkKinds]) (by simp [linkKinds]) _
  · exact .inl rfl

@[simp] theorem raises_officer {k' : Links} (n : OfficerNotice) (h : Raises k k') :
    Raises k (k'.set .officer ((k'.get .officer).raise n.position)) := by
  refine h.trans ⟨fun l => ?_⟩
  rw [links_get_set]
  split
  · next hl =>
    subst hl
    exact raisedIn_raise (by cases n <;> decide) (by decide) _
  · exact .inl rfl

/-- A fold over operations that each raise kinds only raises kinds only. -/
theorem raises_foldl {α : Type} {f : State → α → State} (hf : ∀ s a, Raises k s.links → Raises k (f s a).links)
    (l : List α) (h : Raises k s.links) : Raises k (l.foldl f s).links :=
  List.foldlRecOn (motive := fun t => Raises k t.links) l _ h fun s hs a _ => hf s a hs

theorem raises_eachStage {f : StageId → State → State} (hf : ∀ st s, Raises k s.links → Raises k (f st s).links)
    (h : Raises k s.links) : Raises k (s.eachStage f).links :=
  raises_foldl (fun s st => hf st s) _ h

/-! ## Notices, alarms and stages -/

theorem raises_raiseDesk (st : StageId) (n : DeskNotice) (h : Raises k s.links) :
    Raises k (s.raiseDesk st n).links :=
  raises_desk st n h

theorem raises_raiseOfficer (n : OfficerNotice) (h : Raises k s.links) : Raises k (s.raiseOfficer n).links :=
  raises_officer n h

theorem raises_raiseDeskIf (c : Bool) (st : StageId) (n : DeskNotice) (h : Raises k s.links) :
    Raises k (s.raiseDeskIf c st n).links := by
  unfold State.raiseDeskIf
  split
  · exact raises_raiseDesk st n h
  · exact h

theorem raises_raiseOfficerIf (c : Bool) (n : OfficerNotice) (h : Raises k s.links) :
    Raises k (s.raiseOfficerIf c n).links := by
  unfold State.raiseOfficerIf
  split
  · exact raises_raiseOfficer n h
  · exact h

theorem raises_setAlarm (st : StageId) (a : Alarm) (h : Raises k s.links) : Raises k (s.setAlarm st a).links :=
  raises_raiseOfficerIf _ _ (raises_raiseDeskIf _ _ _ h)

theorem raises_changeStage (st : StageId) (f : Stage → Stage) (h : Raises k s.links) :
    Raises k (s.changeStage st f).links :=
  raises_raiseDeskIf _ _ _ h

theorem raises_recomputeTarget (st : StageId) (h : Raises k s.links) : Raises k (s.recomputeTarget st).links := by
  simp only [State.recomputeTarget]
  split
  · exact h
  · exact raises_changeStage _ _ h

theorem raises_recomputeTargets (h : Raises k s.links) : Raises k s.recomputeTargets.links :=
  raises_eachStage (fun _ _ => raises_recomputeTarget _) h

theorem raises_recomputeCoupled (z : ZoneId) (w : Bank4 Bool) (h : Raises k s.links) :
    Raises k (s.recomputeCoupled z w).links := by
  refine raises_eachStage (fun st s h => ?_) h
  split
  · exact raises_recomputeTarget st h
  · exact h

/-! ## Schedules and the curfew unit -/

theorem raises_endSoonTest (st : StageId) (h : Raises k s.links) : Raises k (s.endSoonTest st).links := by
  simp only [State.endSoonTest]
  split
  · exact raises_raiseDesk _ _ h
  · exact h

theorem raises_curfewFalls (st : StageId) (h : Raises k s.links) : Raises k (s.curfewFalls st).links :=
  raises_raiseDesk _ _ (raises_changeStage _ _ h)

theorem raises_endGrantInCurfew (st : StageId) (h : Raises k s.links) :
    Raises k (s.endGrantInCurfew st).links :=
  raises_raiseOfficer _ (raises_curfewFalls st h)

theorem raises_stageOnset (st : StageId) (h : Raises k s.links) : Raises k (s.stageOnset st).links := by
  simp only [State.stageOnset]
  split
  · exact raises_curfewFalls st h
  · exact raises_raiseOfficer _ (raises_endSoonTest st h)
  · exact h

theorem raises_stageCurfewEnd (st : StageId) (h : Raises k s.links) : Raises k (s.stageCurfewEnd st).links :=
  raises_raiseOfficerIf _ _ (raises_changeStage _ _ h)

theorem raises_zoneJoins (z : ZoneId) (st : StageId) (h : Raises k s.links) :
    Raises k (s.zoneJoins z st).links := by
  simp only [State.zoneJoins]
  split
  · exact raises_stageOnset st h
  · exact h

theorem raises_zoneLeaves (z : ZoneId) (st : StageId) (h : Raises k s.links) :
    Raises k (s.zoneLeaves z st).links := by
  simp only [State.zoneLeaves]
  split
  · exact raises_stageCurfewEnd st h
  · exact h

theorem raises_zoneOnset (z : ZoneId) (h : Raises k s.links) : Raises k (s.zoneOnset z).links := by
  refine raises_eachStage (fun st s h => ?_) h
  split
  · exact raises_zoneJoins z st h
  · exact h

theorem raises_zoneEnd (z : ZoneId) (h : Raises k s.links) : Raises k (s.zoneEnd z).links :=
  raises_eachStage (fun _ _ => raises_zoneLeaves z _) h

theorem raises_soonTest (st : StageId) (h : Raises k s.links) : Raises k (s.soonTest st).links := by
  unfold State.soonTest
  split
  · split
    · exact raises_raiseDesk _ _ h
    · exact h
  · exact h

theorem raises_bookingTest (st : StageId) (h : Raises k s.links) : Raises k (s.bookingTest st).links := by
  unfold State.bookingTest
  split
  · split
    · exact raises_raiseOfficer _ h
    · exact h
  · exact h

theorem raises_recomputeOnsets (h : Raises k s.links) : Raises k s.recomputeOnsets.links :=
  raises_eachStage (fun st _ h => raises_soonTest st (raises_bookingTest st h)) h

theorem raises_reevaluate (z : ZoneId) (h : Raises k s.links) : Raises k (s.reevaluate z).links := by
  simp only [State.reevaluate]
  split
  · exact raises_recomputeOnsets (raises_zoneOnset z h)
  · exact raises_recomputeOnsets (raises_zoneEnd z h)
  · exact raises_recomputeOnsets (s := s.onTable z _) h

theorem raises_grantMarks (h : Raises k s.links) : Raises k s.grantMarks.links := by
  refine raises_eachStage (fun st s h => ?_) h
  unfold State.grantMark
  split
  · split
    · exact raises_endGrantInCurfew st h
    · exact raises_endSoonTest st h
  · exact h

theorem raises_startGrant (st : StageId) (w : EncoreCase) (g : Nat) (h : Raises k s.links) :
    Raises k (s.startGrant st w g).links := by
  cases w with
  | before => exact raises_raiseOfficer _ h
  | late => exact raises_raiseOfficer _ (raises_endSoonTest st (raises_changeStage st _ h))
  | extension => exact raises_raiseOfficer _ (raises_endSoonTest st h)

theorem raises_serveEncoreAsk (st : StageId) (m : Nat) (h : Raises k s.links) :
    Raises k (s.serveEncoreAsk st m).2.2.links := by
  unfold State.serveEncoreAsk
  split
  · exact h
  · exact raises_startGrant st _ _ h

theorem raises_serveEncoreEnd (st : StageId) (h : Raises k s.links) :
    Raises k (s.serveEncoreEnd st).2.2.links := by
  unfold State.serveEncoreEnd
  split
  · exact h
  · exact raises_raiseOfficer _ h
  · exact raises_endGrantInCurfew st h

theorem raises_endShowGrants (h : Raises k s.links) : Raises k (s.eachStage State.endShowGrant).links := by
  refine raises_eachStage (fun st s h => ?_) h
  unfold State.endShowGrant
  split
  · exact h
  · exact raises_raiseOfficer _ h
  · exact raises_endGrantInCurfew st h

/-! ## Records and zones -/

theorem raises_servePair (c : CloseReport) (b : Bank4 Bool) (p : Metric × RecordKind) (h : Raises k s.links) :
    Raises k (s.servePair c b p).links :=
  raises_raiseOfficerIf _ _ h

theorem raises_openPair (c : CloseReport) (b : Bank4 Bool) (p : Metric × RecordKind) (h : Raises k s.links) :
    Raises k (s.openPair c b p).links := by
  simp only [State.openPair]
  split
  · exact raises_raiseOfficer _ (raises_raiseOfficerIf _ _ h)
  · exact h

theorem raises_takeReportSeeing (b : Bank4 Bool) (c : CloseReport) (h : Raises k s.links) :
    Raises k (s.takeReportSeeing b c).links :=
  raises_foldl (fun _ p => raises_openPair c b p) _ (raises_foldl (fun _ p => raises_servePair c b p) _ h)

theorem raises_takeSent (c : CloseReport) (h : Raises k s.links) : Raises k (s.takeSent c).links :=
  raises_takeReportSeeing _ c h

theorem raises_restartList (o : Interleaving) (h : Raises k s.links) : Raises k (s.restartList o).links :=
  raises_foldl (fun _ _ => raises_takeReportSeeing _ _) _ h

theorem raises_disableReport (z : ZoneId) (h : Raises k s.links) : Raises k (s.disableReport z).links :=
  raises_raiseOfficerIf _ _ h

theorem raises_closeNotices (z : ZoneId) (old new : Zone) (h : Raises k s.links) :
    Raises k (s.closeNotices z old new).links :=
  raises_eachStage (fun _ _ => raises_raiseDeskIf _ _ _) (raises_raiseOfficerIf _ _ (raises_raiseOfficerIf _ _ h))

theorem raises_closeToStages (z : ZoneId) (w : Bank4 Bool) (old new : Zone) (h : Raises k s.links) :
    Raises k (s.closeToStages z w old new).links := by
  unfold State.closeToStages
  split
  · exact raises_recomputeCoupled z w h
  · exact h

theorem raises_closeZone (z : ZoneId) (b : Bank4 Bool) (aw : Awaiting) (r : Option MeasurementRecord)
    (h : Raises k s.links) : Raises k (s.closeZone z b aw r).links :=
  raises_closeNotices _ _ _ (raises_closeToStages _ _ _ _ (raises_takeSent _ (raises_closeToStages _ _ _ _ h)))

theorem raises_closingDeadline (z : ZoneId) (b : Bank4 Bool) (e : Nat) (m : Option Nat)
    (h : Raises k s.links) : Raises k (s.closingDeadline z b e m).links := by
  simp only [State.closingDeadline]
  split
  · split
    · split
      · exact raises_closeZone z b _ none h
      · exact h
    · exact h
  · exact h

theorem raises_enableZoneNow (z : ZoneId) (h : Raises k s.links) : Raises k (s.enableZoneNow z).links := by
  have henabled := raises_recomputeTargets (raises_raiseOfficer (s := s.onZone z Zone.enable) .feedChange h)
  simp only [State.enableZoneNow]
  split
  · exact raises_recomputeOnsets (raises_zoneOnset z henabled)
  · exact raises_recomputeOnsets henabled

theorem raises_stageLosesZone (z : ZoneId) (b : Bool) (st : StageId) (h : Raises k s.links) :
    Raises k (s.stageLosesZone z b st).links := by
  unfold State.stageLosesZone
  split
  · exact raises_recomputeTarget st (raises_zoneLeaves z st h)
  · exact raises_zoneLeaves z st (raises_recomputeTarget st h)

theorem raises_takeOrder (h : Raises k s.links) : Raises k s.takeOrder.2.links := by simpa using h

theorem raises_disableZoneNow (z : ZoneId) (h : Raises k s.links) : Raises k (s.disableZoneNow z).links := by
  refine raises_recomputeOnsets (raises_eachStage (fun _ _ => raises_stageLosesZone z _ _) ?_)
  exact raises_disableReport z (raises_raiseOfficerIf _ _ (raises_raiseOfficer _ (raises_takeOrder h)))

/-! ## The monitor loop -/

theorem raises_arbitrate (h : Raises k s.links) : Raises k s.arbitrate.links := h

theorem raises_loopMove (f : Loop → Loop × Bool) (h : Raises k s.links) : Raises k (s.loopMove f).links :=
  raises_raiseOfficerIf _ _ h

theorem raises_handRecord (a : SlotId) (r : MeasurementRecord) (h : Raises k s.links) :
    Raises k (s.handRecord a r).links := by
  simp only [State.handRecord]
  split
  · exact h
  · split
    · exact raises_closeZone _ _ _ _ (raises_takeOrder (s := s.onLoop _) h)
    · exact h

theorem raises_failAttempt (h : Raises k s.links) : Raises k s.failAttempt.links := by
  unfold State.failAttempt
  split
  · exact h
  · split
    · exact h
    · dsimp only
      split
      · exact h
      · exact raises_loopMove (s := s.onLoop Loop.free) _ h

theorem raises_acceptReply (t : Transaction) (r : Reply) (h : Raises k s.links) :
    Raises k (s.acceptReply t r).links := by
  unfold State.acceptReply
  split
  · exact raises_loopMove _ h
  · exact raises_loopMove _ h
  · exact raises_loopMove _ h
  · exact h
  · exact raises_handRecord (s := s.onLoop _) _ _ h
  · exact h

theorem raises_completeReply (r : Option Reply) (h : Raises k s.links) :
    Raises k (s.completeReply r).links := by
  unfold State.completeReply
  split
  · split
    · dsimp only
      split
      · exact h
      · exact raises_acceptReply (s := s.onLoop Loop.free) _ _ h
    · exact raises_failAttempt h
  · exact raises_failAttempt h

/-! ## The time base -/

theorem raises_markTask (o : Interleaving) (e : Nat) (b : Option Nat) (t : Task) (h : Raises k s.links) :
    Raises k (s.markTask o e b t).links := by
  cases t with
  | zone z => exact raises_closingDeadline z _ _ _ h
  | table z =>
    simp only [State.markTask]
    split
    · exact h
    · exact raises_reevaluate z h
  | grants => exact raises_grantMarks h
  | floor st => exact h

theorem raises_issueMark (h : Raises k s.links) : Raises k s.issueMark.links :=
  raises_foldl (fun _ t => raises_markTask _ _ _ t) _ (raises_takeOrder h)

theorem raises_timeEvent (e : TimeEvent) (h : Raises k s.links) : Raises k (s.timeEvent e).links :=
  raises_raiseOfficer _ h

theorem raises_pulse (h : Raises k s.links) : Raises k s.pulse.links := by
  simp only [State.pulse, State.pulseInWindow, State.realigned]
  split
  · split
    · split
      · exact raises_issueMark (raises_timeEvent _ h)
      · exact raises_issueMark (s := State.onTimeBase _ _) h
    · split
      · exact raises_issueMark (raises_timeEvent _ h)
      · exact raises_timeEvent _ h
  · exact h

theorem raises_setTimeTask (b : Bool) (t : Task) (h : Raises k s.links) :
    Raises k (s.setTimeTask b t).links := by
  cases t with
  | zone z => exact h
  | table z => exact raises_reevaluate z h
  | grants => exact h
  | floor st =>
    simp only [State.setTimeTask]
    split
    · exact raises_recomputeTarget st h
    · exact h

theorem raises_takeTime (m : Nat) (h : Raises k s.links) : Raises k (s.takeTime m).links :=
  raises_foldl (fun _ t => raises_setTimeTask _ t) _ (raises_timeEvent _ (raises_takeOrder h))

theorem raises_toInternal (h : Raises k s.links) : Raises k s.toInternal.links := by
  simp only [State.toInternal]
  split
  · exact raises_issueMark (raises_timeEvent _ h)
  · exact raises_timeEvent _ h

theorem raises_toPps (h : Raises k s.links) : Raises k s.toPps.links := raises_timeEvent _ h

theorem raises_expectedPoint (h : Raises k s.links) : Raises k s.expectedPoint.links := by
  simp only [State.expectedPoint]
  split
  · exact h
  · exact raises_issueMark (s := State.onTimeBase _ _) h

theorem raises_windowEnd (h : Raises k s.links) : Raises k s.windowEnd.links := by
  unfold State.windowEnd
  split
  · exact raises_issueMark (s := State.onTimeBase _ _) h
  · exact h

theorem raises_lockLost (h : Raises k s.links) : Raises k s.lockLost.links := by
  unfold State.lockLost
  split
  · exact h
  · exact raises_timeEvent _ h

theorem raises_rampExpires (st : StageId) (h : Raises k s.links) : Raises k (s.rampExpires st).links := by
  unfold State.rampExpires
  split
  · exact h
  · exact raises_changeStage (s := s.advanceTo _) st _ h

/-! ## Paths -/

theorem raises_arrival (st : StageId) (f : Frame) (b : Bool) (h : Raises k s.links) :
    Raises k (s.arrival st f b).links := by
  simp only [State.arrival]
  split
  · split
    · exact raises_setAlarm st _ (raises_setAlarm (s := s.onPath _ _) st _ h)
    · exact raises_setAlarm (s := s.onPath _ _) st _ h
  · split
    · exact raises_setAlarm (s := s.onPath _ _) st _ h
    · exact h

theorem raises_outputEvent (h : Raises k s.links) : Raises k (s.eachStage State.outputAt).links := by
  refine raises_eachStage (fun st s h => ?_) h
  simp only [State.outputAt]
  split
  · exact h
  · exact h
  · split
    · exact raises_setAlarm (s := s.onPath _ _) st _ h
    · exact h

theorem raises_noSignalExpires (st : StageId) (h : Raises k s.links) : Raises k (s.noSignalExpires st).links := by
  unfold State.noSignalExpires
  split
  · exact raises_setAlarm (s := State.onPath _ _ _) st _ h
  · exact h
  · exact h

theorem raises_clearPathAlarms (st : StageId) (a : AlarmSet) (h : Raises k s.links) :
    Raises k (s.clearPathAlarms st a).links := by
  simp only [State.clearPathAlarms]
  split
  · exact raises_setAlarm (s := s.onPath _ _) st _ h
  · exact h

/-! ## Requests that are taken -/

theorem raises_couplingMove (st : StageId) (z : ZoneId) (h : Raises k s.links) :
    Raises k (s.couplingMove st z).links := by
  unfold State.couplingMove
  split
  · split
    · exact raises_zoneJoins z st h
    · exact h
  · exact raises_zoneLeaves z st h

theorem raises_takeCoupling (st : StageId) (z : ZoneId) (v : Nat) (h : Raises k s.links) :
    Raises k (s.takeCoupling st z v).links := by
  have hstored := raises_recomputeTarget (s := s.onStage st fun g =>
    { g with record := { g.record with coupling := g.record.coupling.set z v } }) st h
  simp only [State.takeCoupling]
  split
  · exact hstored
  · exact raises_recomputeOnsets (raises_couplingMove st z hstored)

theorem raises_takeChangeMode (st : StageId) (m : Option Nat) (h : Raises k s.links) :
    Raises k (s.takeChangeMode st m).links := by
  cases m with
  | none => exact h
  | some n => exact raises_changeStage st _ h

theorem raises_takeFloor (st : StageId) (f : SetStageFields) (h : Raises k s.links) :
    Raises k (s.takeFloor st f).links := by
  unfold State.takeFloor
  split
  · exact raises_recomputeTarget st h
  · exact h

theorem raises_soonTestIf (c : Bool) (st : StageId) (h : Raises k s.links) :
    Raises k (if c then s.soonTest st else s).links := by
  split
  · exact raises_soonTest st h
  · exact h

theorem raises_takeStageRecord (st : StageId) (f : SetStageFields) (h : Raises k s.links) :
    Raises k (s.takeStageRecord st f).links := by
  have htaken := raises_takeOrder h
  unfold State.takeStageRecord
  generalize s.takeOrder = r at htaken ⊢
  obtain ⟨o, t⟩ := r
  have hstored : Raises k (t.onStage st fun g => { g with record := g.record.write f }).links := htaken
  refine raises_soonTestIf _ st ?_
  split
  · exact raises_takeFloor st f (raises_takeChangeMode st _ hstored)
  · exact raises_takeChangeMode st _ (raises_takeFloor st f hstored)

theorem raises_takeAssignment (a : SlotId) (z : ZoneId) (h : Raises k s.links) :
    Raises k (s.takeAssignment a z).links :=
  raises_raiseOfficer _ h

theorem raises_takeUnassignment (a : SlotId) (h : Raises k s.links) :
    Raises k (s.takeUnassignment a).links :=
  raises_raiseOfficer _ h

theorem raises_curfewAgain (st : StageId) (h : Raises k s.links) : Raises k (s.curfewAgain st).links := by
  unfold State.curfewAgain
  split
  · exact h
  · exact raises_changeStage st _ h

/-- A RESTART empties the notice sets first, and then raises kinds only (R168, R155). -/
theorem raises_restartAll (s : State) : Raises s.links.emptyNotices s.restartAll.links := by
  have hlinks : s.takeOrder.2.links = s.links := by simp
  unfold State.restartAll
  generalize s.takeOrder = r at hlinks ⊢
  obtain ⟨o, t⟩ := r
  have hemptied : Raises s.links.emptyNotices (t.resetBlocks.restartList o).links :=
    raises_restartList o (hlinks ▸ .refl _)
  exact raises_arbitrate (raises_recomputeTargets (raises_eachStage (fun st _ => raises_curfewAgain st) hemptied))

end

end Sys2Proof.Machine
end

section
/-! PROOFS. The link interfaces' part of the invariant (R156 to R161, R165 to R168), and O55. While a message comes
to its end a transmitter may be IDLE with something owed or waiting: `linkCore` is what holds even then. -/

namespace Sys2Proof.Machine

/-! ## One interface -/

/-- All of an interface's soundness but that nothing waits behind an IDLE transmitter. -/
def linkCore (l : LinkId) (k : LinkInterface) : Prop :=
  k.alert = ((k.noticeSet &&& k.enables) != 0#16) ∧
  k.noticeSet.toNat < 2 ^ linkKinds l ∧ k.enables.toNat < 2 ^ linkKinds l ∧
  k.priorities.length = linkKinds l ∧ (∀ p ∈ k.priorities, p ≤ 3) ∧
  k.owed.Nodup ∧ receiverOk k.receiver = true

theorem linkOk_iff {l : LinkId} {k : LinkInterface} :
    linkOk l k ↔ linkCore l k ∧ (k.transmitter = none → k.held = none ∧ k.owed = []) := by
  simp only [linkOk, linkCore, and_assoc]

theorem linkOk_of_sending {l : LinkId} {k : LinkInterface} (h : linkCore l k) (hsending : k.transmitter ≠ none) :
    linkOk l k :=
  linkOk_iff.mpr ⟨h, fun hnone => absurd hnone hsending⟩

section
variable {l : LinkId} {k k' : LinkInterface}

theorem and_toNat_lt {a b : BitVec 16} {n : Nat} (h : a.toNat < n) : (a &&& b).toNat < n := by
  rw [BitVec.toNat_and]
  exact lt_of_le_of_lt Nat.and_le_left h

theorem RaisedIn.linkOk (h : RaisedIn (linkKinds l) k k') (hk : linkOk l k) : linkOk l k' := by
  rcases h with rfl | ⟨m, hm, rfl⟩
  · exact hk
  · obtain ⟨-, hnotices, hrest⟩ := hk
    refine ⟨rfl, ?_, hrest⟩
    rw [BitVec.toNat_or]
    exact Nat.or_lt_two_pow hnotices hm

theorem acknowledge_linkOk (m : BitVec 16) (hk : linkOk l k) : linkOk l (k.acknowledge m) := by
  obtain ⟨-, hnotices, hrest⟩ := hk
  exact ⟨rfl, and_toNat_lt hnotices, hrest⟩

theorem emptyNotices_linkOk (hk : linkOk l k) : linkOk l k.emptyNotices := by
  obtain ⟨-, -, hrest⟩ := hk
  exact ⟨rfl, Nat.two_pow_pos _, hrest⟩

theorem enable_linkOk {m : BitVec 16} (hm : maskBeyond l m = false) (hk : linkOk l k) : linkOk l (k.enable m) := by
  obtain ⟨-, hnotices, -, hrest⟩ := hk
  have hmask : m.toNat < 2 ^ linkKinds l := by simpa [maskBeyond] using hm
  exact ⟨rfl, hnotices, hmask, hrest⟩

theorem writePriorities_length (olds news : List Nat) : (writePriorities olds news).length = olds.length := by
  induction olds, news using writePriorities.induct with
  | case1 old olds new news ih => simp [writePriorities, ih]
  | case2 olds news h => rw [writePriorities.eq_2 _ _ h]

theorem writePriorities_le {olds news : List Nat} (h : ∀ p ∈ olds, p ≤ 3) : ∀ p ∈ writePriorities olds news, p ≤ 3 := by
  induction olds, news using writePriorities.induct with
  | case1 old olds new news ih =>
    obtain ⟨hold, holds⟩ := List.forall_mem_cons.mp h
    rw [writePriorities, List.forall_mem_cons]
    refine ⟨?_, ih holds⟩
    split
    · exact hold
    · exact min_le_left 3 new
  | case2 olds news hstop => rwa [writePriorities.eq_2 _ _ hstop]

theorem prioritise_linkOk (p : List Nat) (hk : linkOk l k) : linkOk l (k.prioritise p) := by
  obtain ⟨halert, hnotices, henables, hlength, hle, hrest⟩ := hk
  exact ⟨halert, hnotices, henables, (writePriorities_length _ _).trans hlength, writePriorities_le hle, hrest⟩

theorem write_linkOk {m : Option (BitVec 16)} (p : Option (List Nat)) (hm : (m.map (maskBeyond l)).getD false = false)
    (hk : linkOk l k) : linkOk l (k.write m p) := by
  have henabled : linkOk l (k.write m none) := by
    cases m with
    | none => exact hk
    | some m => exact enable_linkOk hm hk
  cases p with
  | none => exact henabled
  | some p => exact prioritise_linkOk p henabled

theorem owe_linkCore (c : Reject) (hk : linkCore l k) : linkCore l (k.owe c) := by
  obtain ⟨halert, hnotices, henables, hlength, hle, hnodup, hreceiver⟩ := hk
  unfold LinkInterface.owe
  split
  · exact ⟨halert, hnotices, henables, hlength, hle, hnodup, hreceiver⟩
  · next hnew => exact ⟨halert, hnotices, henables, hlength, hle, List.nodup_append_comm.mp (List.nodup_cons.mpr ⟨hnew, hnodup⟩), hreceiver⟩

theorem take_receiverOk {r : Receiver} (h : receiverOk r = true) (b : LineByte) : receiverOk (r.take b).1 = true := by
  cases r with
  | hunting => unfold Receiver.take; dsimp only; split <;> rfl
  | inMessage n bytes lineError =>
    cases n with
    | awaited =>
      unfold Receiver.take
      dsimp only
      split
      · rfl
      · split
        · next hlength => simpa [receiverOk] using hlength
        · rfl
    | unknown => exact h
    | known n =>
      obtain ⟨⟨hpos, hle⟩, -⟩ : (1 ≤ n ∧ n ≤ 240) ∧ bytes.length ≤ n := by simpa [receiverOk] using h
      unfold Receiver.take
      dsimp only
      split
      · rfl
      · next hshort => simpa [receiverOk, hpos, hle] using hshort

end

/-! ## The five links -/

theorem linksOk_iff {s : State} : linksOk s ↔ ∀ l, linkOk l (s.links.get l) := by
  constructor
  · rintro ⟨hdesk, hofficer⟩ (st | _)
    · exact hdesk st
    · exact hofficer
  · intro h
    exact ⟨fun st => h (.desk st), h .officer⟩

theorem linksOk_congr {s t : State} (h : t.links = s.links) (hs : linksOk s) : linksOk t := by
  simpa only [linksOk, h] using hs

theorem linksOk_onLink {s : State} {l : LinkId} {f : LinkInterface → LinkInterface}
    (hf : linkOk l (f (s.links.get l))) (hs : linksOk s) : linksOk (s.onLink l f) := by
  rw [linksOk_iff] at hs ⊢
  intro i
  rw [onLink_links, links_get_set]
  split
  · next hi => exact hi ▸ hf
  · exact hs i

theorem Raises.keeps_linksOk {k : Links} {s t : State} (h : Raises k t.links) (hk : k = s.links) (hs : linksOk s) :
    linksOk t := by
  subst hk
  rw [linksOk_iff] at hs ⊢
  exact fun l => (h.link l).linkOk (hs l)

/-- SET DESK writes its own link's sets, and then raises kinds only (R181). -/
theorem raises_takeDesk (s : State) (st : StageId) (f : SetDeskFields) :
    Raises (s.onLink (.desk st) (LinkInterface.write (f.enables.map widenMask) f.priorities)).links
      (s.takeDesk st f).links := by
  refine raises_soonTestIf _ st ?_
  split
  · exact raises_recomputeTarget st (.refl _)
  · exact .refl _

theorem setDesk_mask {st : StageId} {f : SetDeskFields} (h : setDeskRefused st f = false) :
    ((f.enables.map widenMask).map (maskBeyond (.desk st))).getD false = false := by
  obtain ⟨-, henables⟩ := Bool.or_eq_false_iff.mp h
  rwa [Option.map_map]

theorem setNotices_mask {l : LinkId} {f : SetNoticesFields} (h : setNoticesRefused l f = false) :
    (f.enables.map (maskBeyond l)).getD false = false := by
  obtain ⟨hflags, -⟩ := Bool.or_eq_false_iff.mp h
  exact (Bool.or_eq_false_iff.mp hflags).2

theorem emptyNotices_get (k : Links) (l : LinkId) : k.emptyNotices.get l = (k.get l).emptyNotices := by
  cases l <;> simp [Links.emptyNotices, Links.get]

theorem linksOk_reset : linksOk State.reset := by decide

/-- The changes of the blocks keep the interfaces sound: they raise kinds, or write the sets within the link's kinds. -/
theorem Change.keeps_linksOk {s t : State} (h : Change s t) (hs : linksOk s) : linksOk t := by
  have hraised : Raises s.links t.links → linksOk t := fun h => h.keeps_linksOk rfl hs
  cases h
  case ackNotices l m h => exact linksOk_onLink (acknowledge_linkOk m (linksOk_iff.mp hs l)) hs
  case setNotices l f h =>
    exact linksOk_onLink (write_linkOk f.priorities (setNotices_mask h) (linksOk_iff.mp hs l)) hs
  case setDesk st f h =>
    exact (raises_takeDesk s st f).keeps_linksOk rfl
      (linksOk_onLink (write_linkOk f.priorities (setDesk_mask h) (linksOk_iff.mp hs (.desk st))) hs)
  case restart =>
    refine (raises_restartAll s).keeps_linksOk (s := { s with links := s.links.emptyNotices }) rfl (linksOk_iff.mpr fun l => ?_)
    exact emptyNotices_get _ _ ▸ emptyNotices_linkOk (linksOk_iff.mp hs l)
  case expectedPoint => exact hraised (raises_expectedPoint (.refl _))
  case pulse m => exact hraised (raises_pulse (s := s.advanceTo m) (.refl _))
  case windowEnd => exact hraised (raises_windowEnd (.refl _))
  case lockLost => exact hraised (raises_lockLost (.refl _))
  case completeReply r => exact hraised (raises_completeReply r (.refl _))
  case failAttempt => exact hraised (raises_failAttempt (.refl _))
  case stall => exact hraised (raises_arbitrate (raises_loopMove _ (.refl _)))
  case rampExpires st => exact hraised (raises_rampExpires st (.refl _))
  case arrival st f strobe => exact hraised (raises_arrival st f strobe (.refl _))
  case outputEvent => exact hraised (raises_outputEvent (.refl _))
  case noSignalExpires st => exact hraised (raises_noSignalExpires st (.refl _))
  case encore st m => exact hraised (raises_serveEncoreAsk st _ (.refl _))
  case encoreEnd st => exact hraised (raises_serveEncoreEnd st (.refl _))
  case enableZone z h => exact hraised (raises_enableZoneNow z (.refl _))
  case disableZone z hmode h => exact hraised (raises_disableZoneNow z (.refl _))
  case insertSegment z f h => exact hraised (raises_reevaluate (s := s.onTable z _) z (.refl _))
  case editSegment z f g hg h => exact hraised (raises_reevaluate (s := s.onTable z _) z (.refl _))
  case deleteSegment z start hstart hmode => exact hraised (raises_reevaluate (s := s.onTable z _) z (.refl _))
  case setCoupling st z v hv h => exact hraised (raises_takeCoupling st z v (.refl _))
  case setStage st f h => exact hraised (raises_takeStageRecord st f (.refl _))
  case muteNow st => exact hraised (raises_changeStage st _ (.refl _))
  case fade st => exact hraised (raises_changeStage st _ (.refl _))
  case release st => exact hraised (raises_changeStage st _ (.refl _))
  case assignMonitor a z h => exact hraised (raises_takeAssignment a z (.refl _))
  case unassignMonitor a h hmode => exact hraised (raises_takeUnassignment a (.refl _))
  case setTime time h => exact hraised (raises_takeTime time (.refl _))
  case toInternal h => exact hraised (raises_toInternal (.refl _))
  case toPps h => exact hraised (raises_toPps (.refl _))
  case endShow => exact hraised (raises_endShowGrants (s := { s with mode := .setup }) (.refl _))
  case clearAlarms st a => exact hraised (raises_clearPathAlarms st a (.refl _))
  all_goals exact linksOk_congr (by simp) hs

/-! ## The interface's own doings -/

section
variable {s : State} {l : LinkId}

/-- Sending a message puts an interface right that its transmitter's end had left halfway. -/
theorem linksOk_onLink_send {f : LinkInterface → LinkInterface} (m : List Byte)
    (hf : linkCore l (f (s.links.get l))) (hs : linksOk s) : linksOk ((s.onLink l f).send l m) := by
  rw [linksOk_iff] at hs ⊢
  intro i
  rw [send_links, onLink_links, links_get_set]
  split
  · next hi =>
    subst hi
    rw [links_get_set_self]
    exact linkOk_of_sending hf (by simp)
  · next hi =>
    rw [links_get_set_ne _ hi]
    exact hs i

theorem linksOk_send (m : List Byte) (hs : linksOk s) : linksOk (s.send l m) := by
  obtain ⟨hcore, -⟩ := linkOk_iff.mp (linksOk_iff.mp hs l)
  exact linksOk_congr (by simp) (linksOk_onLink_send (f := id) m hcore hs)

theorem linksOk_takeRequest (r : Request) (hs : linksOk s) : linksOk (s.takeRequest l r) :=
  linksOk_send _ ((serveRequest_change s l r).keeps_linksOk hs)

theorem linksOk_oweReject (c : Reject) (hs : linksOk s) : linksOk (s.oweReject l c) := by
  obtain ⟨hcore, -⟩ := linkOk_iff.mp (linksOk_iff.mp hs l)
  have howed := owe_linkCore c hcore
  simp only [State.oweReject]
  split
  · unfold State.nextMessage
    split
    · next c' rest hrest =>
      have hrest : (LinkInterface.owe c (s.links.get l)).owed = c' :: rest := by simpa using hrest
      have hsent := linksOk_onLink_send (l := l) (f := fun k => { k.owe c with owed := rest }) (rejectFrame c') ?_ hs
      · exact linksOk_congr (by simp) hsent
      · obtain ⟨halert, hnotices, henables, hlength, hle, hnodup, hreceiver⟩ := howed
        exact ⟨halert, hnotices, henables, hlength, hle, (List.nodup_cons.mp (hrest ▸ hnodup)).2, hreceiver⟩
    · next hnil _ => exact absurd (by simpa using hnil) (owe_owed_ne_nil c (s.links.get l))
    · next hnil _ => exact absurd (by simpa using hnil) (owe_owed_ne_nil c (s.links.get l))
  · next m hm =>
    have hsending : (s.links.get l).transmitter = some m := by simpa using hm
    exact linksOk_onLink (linkOk_of_sending howed (by simp [hsending])) hs

theorem linksOk_requestReaches (r : Request) (hs : linksOk s) : linksOk (s.requestReaches l r) := by
  unfold State.requestReaches
  split
  · exact linksOk_takeRequest r hs
  · next m hm _ =>
    obtain ⟨hcore, -⟩ := linkOk_iff.mp (linksOk_iff.mp hs l)
    exact linksOk_onLink (linkOk_of_sending hcore (by simp [hm])) hs
  · exact linksOk_oweReject .busy hs

/-- The end of a message: an owed reject leaves the queue, or the held request its place, or the transmitter rests. -/
theorem linksOk_messageSent (hs : linksOk s) : linksOk (s.messageSent l) := by
  obtain ⟨hcore, -⟩ := linkOk_iff.mp (linksOk_iff.mp hs l)
  unfold State.messageSent
  split
  · exact hs
  · unfold State.nextMessage
    split
    · next c rest hrest =>
      refine linksOk_onLink_send _ ?_ hs
      obtain ⟨halert, hnotices, henables, hlength, hle, hnodup, hreceiver⟩ := hcore
      exact ⟨halert, hnotices, henables, hlength, hle, (List.nodup_cons.mp (hrest ▸ hnodup)).2, hreceiver⟩
    · next r hnone _ =>
      exact linksOk_takeRequest r (linksOk_onLink (linkOk_iff.mpr ⟨hcore, fun _ => ⟨rfl, hnone⟩⟩) hs)
    · next howed hheld =>
      exact linksOk_onLink (linkOk_iff.mpr ⟨hcore, fun _ => ⟨hheld, howed⟩⟩) hs

theorem linksOk_setReceiver {r : Receiver} (hr : receiverOk r = true) (hs : linksOk s) :
    linksOk (s.onLink l fun k => { k with receiver := r }) := by
  obtain ⟨halert, hnotices, henables, hlength, hle, hnodup, -, hidle⟩ := linksOk_iff.mp hs l
  exact linksOk_onLink ⟨halert, hnotices, henables, hlength, hle, hnodup, hr, hidle⟩ hs

theorem linksOk_receiveByte (b : LineByte) (hs : linksOk s) : linksOk (s.receiveByte l b) := by
  obtain ⟨-, -, -, -, -, -, hreceiver, -⟩ := linksOk_iff.mp hs l
  have htaken := linksOk_setReceiver (l := l) (take_receiverOk hreceiver b) hs
  simp only [State.receiveByte]
  split
  · exact htaken
  · next e _ =>
    cases e with
    | badLength => exact linksOk_oweReject .format htaken
    | frameEnd n bytes lineError =>
      simp only [State.rxEvent]
      split
      · exact linksOk_oweReject .line htaken
      · split
        · exact linksOk_oweReject .format htaken
        · exact linksOk_requestReaches _ htaken

theorem linksOk_receive (bytes : List LineByte) (hs : linksOk s) : linksOk (s.receive l bytes) :=
  List.foldlRecOn bytes _ hs fun _ ht b _ => linksOk_receiveByte b ht

theorem linksOk_dropMessage (hs : linksOk s) : linksOk (s.dropMessage l) :=
  linksOk_oweReject .line (linksOk_setReceiver rfl hs)

theorem linksOk_gap (hs : linksOk s) : linksOk (s.gap l) := by
  unfold State.gap
  split
  · exact hs
  · exact linksOk_dropMessage hs

theorem linksOk_idleAfterLengthError (hs : linksOk s) : linksOk (s.idleAfterLengthError l) := by
  unfold State.idleAfterLengthError
  split
  · exact linksOk_dropMessage hs
  · exact hs
  · exact hs
  · exact hs

theorem linksOk_breakFound (hs : linksOk s) : linksOk (s.breakFound l) := by
  obtain ⟨halert, hnotices, henables, hlength, hle, -⟩ := linksOk_iff.mp hs l
  exact linksOk_onLink ⟨halert, hnotices, henables, hlength, hle, .nil, rfl, fun _ => ⟨rfl, rfl⟩⟩ hs

end

/-! ## Commands and steps -/

theorem exec_keeps_linksOk {c : Instr} {s t : State} (hc : exec c s = .next t) (hs : linksOk s) : linksOk t := by
  cases h : commandLink c with
  | none =>
    by_cases hpower : c = .powerOn
    · subst hpower
      cases hc
      exact linksOk_congr (s := State.reset) rfl linksOk_reset
    · obtain ⟨u, hu, hchange⟩ := event_change s h hpower
      cases hu.symm.trans hc
      exact hchange.keeps_linksOk hs
  | some l =>
    have hrequest : ∀ {c}, (requestOf c).map Prod.fst = some l → exec c s = .next t → linksOk t := by
      intro c hl hc
      obtain ⟨⟨_, r⟩, hr, rfl⟩ := Option.map_eq_some_iff.mp hl
      cases (exec_of_requestOf hr s).symm.trans hc
      exact linksOk_requestReaches r hs
    unfold commandLink at h
    split at h
    · cases h; cases hc; exact linksOk_receive _ hs
    · cases h; cases hc; exact linksOk_receive _ hs
    · cases h; cases hc; exact linksOk_gap (linksOk_receive _ hs)
    · cases h; cases hc; exact linksOk_idleAfterLengthError (linksOk_receive _ hs)
    · cases h; cases hc; exact linksOk_breakFound (linksOk_receive _ hs)
    · cases h; cases hc; exact linksOk_messageSent hs
    · exact hrequest h hc

theorem step_keeps_linksOk {s t : State} (hstep : step s = .next t) (hs : linksOk s) : linksOk t := by
  unfold step at hstep
  split at hstep
  · exact exec_keeps_linksOk hstep hs
  · exact exec_keeps_linksOk hstep (linksOk_congr (s := s) rfl hs)

theorem step_keeps_pathsOk {s t : State} (hstep : step s = .next t) (hs : pathsOk s) : pathsOk t := by
  refine step_keeps (P := pathsOk) (fun honly h => ?_) (fun _ h => h)
    (fun _ => pathsOk_congr (s := State.reset) rfl pathsOk_reset) (fun hchange h => hchange.keeps_pathsOk h) hstep hs
  obtain ⟨-, -, -, -, -, -, -, -, hpaths, -⟩ := honly.frame
  exact pathsOk_congr hpaths h

/-- Settles O55: a link's interface is kept sound by its own doings and by the kinds the blocks raise, a path by its
own operations. -/
theorem linksAndPathsStaySound : Obligations.LinksAndPathsStaySound := by
  unfold Obligations.LinksAndPathsStaySound
  exact fun _ _ hstep => ⟨step_keeps_linksOk hstep, step_keeps_pathsOk hstep⟩

end Sys2Proof.Machine
end

section
/-! PROOFS. The time base under its own events (R14 to R24): what they change before a mark (`ClockSet`), and that a
mark itself is all they may add (`ClockMoved`). -/

namespace Sys2Proof.Machine

/-! ## The time base alone (R14) -/

/-- A sound time base. -/
def timeBaseOk (t : TimeBase) : Prop :=
  t.tag < 65536 ∧ t.timeOfDay < 86400 ∧ t.lockCount ≤ 2 ∧ (t.state = .unset → t.timeOfDay = 0) ∧
  (t.state = .locked → t.source = .pps) ∧ (t.source = .internal ∨ t.state = .unset → t.lockCount = 0)

theorem timeOk_iff {s : State} : timeOk s ↔ timeBaseOk s.timeBase := .rfl

theorem tagPlus_lt (tag n : Nat) : tagPlus tag n < 65536 := Nat.mod_lt _ (by decide)

theorem mark_timeBaseOk {t : TimeBase} (h : timeBaseOk t) (now : Nat) : timeBaseOk (t.mark now) := by
  obtain ⟨-, hday, hrest⟩ := h
  cases hstate : t.state <;>
    simp_all [timeBaseOk, TimeBase.mark, tagPlus_lt, Nat.mod_lt]

theorem steered_iff {t : TimeBase} : t.steered = true ↔ t.source = .pps ∧ t.state ≠ .unset := by
  simp [TimeBase.steered]

/-! ## Before a mark -/

/-- Only the moment, the time base and the links have changed; tag, time of day and UNSET stand, and a sound time base
has stayed sound. -/
structure ClockSet (s u : State) : Prop where
  parts : ∃ n tb k, u = { s with now := n, timeBase := tb, links := k }
  tag : u.timeBase.tag = s.timeBase.tag
  day : u.timeBase.timeOfDay = s.timeBase.timeOfDay
  unset : u.timeBase.state = .unset ↔ s.timeBase.state = .unset
  sound : timeBaseOk s.timeBase → timeBaseOk u.timeBase

section
variable {s u v : State}

theorem ClockSet.frame (h : ClockSet s u) :
    u.mode = s.mode ∧ u.tables = s.tables ∧ u.zones = s.zones ∧ u.stages = s.stages ∧ u.pool = s.pool ∧
    u.curfew = s.curfew ∧ u.paths = s.paths ∧ u.exceedances = s.exceedances ∧ u.reports = s.reports ∧
    u.loop = s.loop ∧ u.orders = s.orders ∧ u.pending = s.pending := by
  obtain ⟨n, tb, k, rfl⟩ := h.parts
  exact ⟨rfl, rfl, rfl, rfl, rfl, rfl, rfl, rfl, rfl, rfl, rfl, rfl⟩

theorem ClockSet.minute (h : ClockSet s u) : u.minute = s.minute := by
  have hunset := h.unset
  simp only [State.minute, TimeBase.minute, h.day]
  cases hu : u.timeBase.state <;> cases hs : s.timeBase.state <;> simp_all

theorem ClockSet.trans (h : ClockSet s u) (h' : ClockSet u v) : ClockSet s v := by
  obtain ⟨n, tb, k, hu⟩ := h.parts
  obtain ⟨n', tb', k', hv⟩ := h'.parts
  exact ⟨⟨n', tb', k', by rw [hv, hu]⟩, h'.tag.trans h.tag, h'.day.trans h.day, h'.unset.trans h.unset,
    fun hs => h'.sound (h.sound hs)⟩

theorem ClockSet.refl (s : State) : ClockSet s s := ⟨⟨s.now, s.timeBase, s.links, rfl⟩, rfl, rfl, .rfl, id⟩

theorem clockSet_advanceTo (s : State) (m : Nat) : ClockSet s (s.advanceTo m) :=
  ⟨⟨_, _, _, rfl⟩, rfl, rfl, .rfl, id⟩

theorem clockSet_timeEvent (s : State) (e : TimeEvent) : ClockSet s (s.timeEvent e) :=
  ⟨⟨_, _, _, rfl⟩, rfl, rfl, .rfl, id⟩

theorem clockSet_onTimeBase {f : TimeBase → TimeBase} (htag : (f s.timeBase).tag = s.timeBase.tag)
    (hday : (f s.timeBase).timeOfDay = s.timeBase.timeOfDay)
    (hunset : (f s.timeBase).state = .unset ↔ s.timeBase.state = .unset)
    (hsound : timeBaseOk s.timeBase → timeBaseOk (f s.timeBase)) : ClockSet s (s.onTimeBase f) :=
  ⟨⟨_, _, _, rfl⟩, htag, hday, hunset, hsound⟩

/-! ## Events of the time base -/

/-- The clock has been set, and a mark may have been issued. -/
def ClockMoved (s t : State) : Prop := ∃ u, ClockSet s u ∧ (t = u ∨ t = u.issueMark)

theorem ClockSet.moved (h : ClockSet s u) : ClockMoved s u := ⟨u, h, .inl rfl⟩

theorem ClockSet.marked (h : ClockSet s u) : ClockMoved s u.issueMark := ⟨u, h, .inr rfl⟩

theorem expectedPoint_clockMoved (s : State) : ClockMoved s s.expectedPoint := by
  have hreached := clockSet_advanceTo s s.timeBase.expected
  simp only [State.expectedPoint]
  split
  · exact hreached.moved
  · exact (hreached.trans (clockSet_onTimeBase rfl rfl .rfl id)).marked

theorem windowEnd_clockMoved (s : State) : ClockMoved s s.windowEnd := by
  unfold State.windowEnd
  split
  · refine ((clockSet_advanceTo s _).trans (clockSet_onTimeBase rfl rfl .rfl ?_)).marked
    rintro ⟨htag, hday, -, hunset, hlocked, -⟩
    exact ⟨htag, hday, Nat.zero_le 2, hunset, hlocked, fun _ => rfl⟩
  · exact (ClockSet.refl s).moved

theorem lossMoment_locked {t : TimeBase} {m : Nat} (h : t.lossMoment = some m) : t.state = .locked := by
  unfold TimeBase.lossMoment at h
  split at h
  · assumption
  · cases h

theorem lockLost_clockMoved (s : State) : ClockMoved s s.lockLost := by
  unfold State.lockLost
  split
  · exact (ClockSet.refl s).moved
  · next m hm =>
    have hlocked := lossMoment_locked hm
    have hfreed : ClockSet (s.advanceTo m) ((s.advanceTo m).onTimeBase fun t => { t with state := .free }) := by
      refine clockSet_onTimeBase rfl rfl (by simp [hlocked]) ?_
      rintro ⟨htag, hday, hcount, -, -, hnone⟩
      exact ⟨htag, hday, hcount, by simp, by simp, fun h => hnone (.inl (by simpa using h))⟩
    exact (((clockSet_advanceTo s m).trans hfreed).trans (clockSet_timeEvent _ _)).moved

theorem clockSet_seen (s : State) :
    ClockSet s (s.onTimeBase fun t => { t with lastPulse := some s.now, firstEmpty := none }) :=
  clockSet_onTimeBase rfl rfl .rfl id

theorem clockSet_realigned (hsteered : s.timeBase.steered = true) (e : TimeEvent) : ClockSet s (s.realigned e) := by
  obtain ⟨-, hset⟩ := steered_iff.mp hsteered
  refine (clockSet_onTimeBase rfl rfl (by simp [hset]) ?_).trans (clockSet_timeEvent _ e)
  rintro ⟨htag, hday, -, -, -, -⟩
  exact ⟨htag, hday, Nat.zero_le 2, by simp, by simp, fun _ => rfl⟩

theorem clockSet_counted (hsteered : s.timeBase.steered = true) (n e : Nat) :
    ClockSet s (s.onTimeBase fun t => { t with lockCount := min 2 n, expected := e }) := by
  obtain ⟨hsource, hset⟩ := steered_iff.mp hsteered
  refine clockSet_onTimeBase rfl rfl .rfl ?_
  rintro ⟨htag, hday, -, hunset, hlocked, -⟩
  exact ⟨htag, hday, min_le_left _ _, hunset, hlocked, by simp [hsource, hset]⟩

theorem clockSet_locked (hsteered : s.timeBase.steered = true) :
    ClockSet s (s.onTimeBase fun t => { t with state := .locked }) := by
  obtain ⟨hsource, hset⟩ := steered_iff.mp hsteered
  refine clockSet_onTimeBase rfl rfl (by simp [hset]) ?_
  rintro ⟨htag, hday, hcount, -, -, -⟩
  exact ⟨htag, hday, hcount, by simp, by simp [hsource], by simp [hsource]⟩

theorem pulseInWindow_clockMoved (hsteered : s.timeBase.steered = true) : ClockMoved s s.pulseInWindow := by
  have hcounted := clockSet_counted hsteered (s.timeBase.lockCount + 1) (s.now + Config.second)
  simp only [State.pulseInWindow]
  split
  · exact ((hcounted.trans (clockSet_locked hsteered)).trans (clockSet_timeEvent _ .locked)).marked
  · exact hcounted.marked

/-- A pulse that steers counts and issues a mark, or realigns the phase with a mark or without one (R19 to R22). -/
theorem pulse_clockMoved (s : State) : ClockMoved s s.pulse := by
  have hseen := clockSet_seen s
  unfold State.pulse
  generalize hu : (s.onTimeBase fun t => { t with lastPulse := some s.now, firstEmpty := none }) = u at hseen ⊢
  dsimp only
  split
  · next hsteered =>
    have hsteered : u.timeBase.steered = true := by simpa [← hu, TimeBase.steered] using hsteered
    split
    · obtain ⟨v, hv, ht⟩ := pulseInWindow_clockMoved hsteered
      exact ⟨v, hseen.trans hv, ht⟩
    · split
      · exact (hseen.trans (clockSet_realigned hsteered .short)).marked
      · exact (hseen.trans (clockSet_realigned hsteered .long)).moved
  · exact hseen.moved

theorem toInternal_clockMoved (s : State) : ClockMoved s s.toInternal := by
  have hstate : (if s.timeBase.state = .locked then .free else s.timeBase.state) = .unset ↔
      s.timeBase.state = .unset := by
    cases s.timeBase.state <;> simp
  have hset : ∀ e : TimeBase → Nat, ClockSet s ((s.onTimeBase fun t =>
      { t with source := .internal, lockCount := 0, state := if t.state = .locked then .free else t.state,
               expected := e t }).timeEvent .source) := by
    refine fun e => (clockSet_onTimeBase rfl rfl hstate ?_).trans (clockSet_timeEvent _ .source)
    rintro ⟨htag, hday, -, hunset, -, -⟩
    refine ⟨htag, hday, Nat.zero_le 2, fun h => hunset (hstate.mp h), fun h => ?_, fun _ => rfl⟩
    dsimp only at h
    split at h
    · cases h
    · contradiction
  unfold State.toInternal
  dsimp only
  split
  · exact (hset fun t => t.expected + Config.second).marked
  · exact (hset TimeBase.expected).moved

theorem toPps_clockMoved (s : State) : ClockMoved s s.toPps := by
  refine ((clockSet_onTimeBase rfl rfl .rfl ?_).trans (clockSet_timeEvent _ .source)).moved
  rintro ⟨htag, hday, -, hunset, -, -⟩
  exact ⟨htag, hday, Nat.zero_le 2, hunset, fun _ => rfl, fun _ => rfl⟩

/-- The pulse of a command carries its moment (log entry 3). -/
theorem pulseAt_clockMoved (s : State) (m : Nat) : ClockMoved s (s.advanceTo m).pulse := by
  obtain ⟨u, hu, ht⟩ := pulse_clockMoved (s.advanceTo m)
  exact ⟨u, (clockSet_advanceTo s m).trans hu, ht⟩

end

end Sys2Proof.Machine
end

section
/-! PROOFS. The stage attenuation units' part of the invariant (R85, R86, R93 to R107): what each operation of one unit
makes of a sound one. -/

namespace Sys2Proof.Machine

/-! ## The five shapes of a sound unit -/

/-- The items of a unit in their ranges. -/
def stageBase (g : Stage) : Prop := stageRecordOk g.record ∧ g.target ≤ 96 ∧ g.applied ≤ 96

section
variable {g : Stage}

theorem stageOk_muted (hbase : stageBase g) (hreasons : g.reasons.isEmpty = false) (hgain : g.gain = .muted)
    (happlied : g.applied = 96) (hramp : g.ramp = none) : stageOk g := by
  obtain ⟨hrecord, htarget, hle⟩ := hbase
  refine ⟨hrecord, htarget, hle, ?_⟩
  simp [hreasons, hgain, happlied, hramp]

theorem stageOk_fading (hbase : stageBase g) (hreasons : g.reasons.isEmpty = false) (hgain : g.gain = .fading)
    (htarget : g.target ≤ g.applied) (happlied : g.applied < 96) (hramp : rampPurpose g = some .fade) : stageOk g := by
  obtain ⟨hrecord, htop, hle⟩ := hbase
  refine ⟨hrecord, htop, hle, ?_⟩
  simp only [hreasons, hgain, hramp, htarget, happlied]
  simp

theorem stageOk_resuming (hbase : stageBase g) (hreasons : g.reasons.isEmpty = true) (hgain : g.gain = .resuming)
    (htarget : g.target < g.applied) (hramp : rampPurpose g = some .resume) : stageOk g := by
  obtain ⟨hrecord, htop, hle⟩ := hbase
  refine ⟨hrecord, htop, hle, ?_⟩
  simp only [hreasons, hgain, hramp, htarget]
  simp

/-- OPEN at its target, in either change mode. -/
theorem stageOk_settled (hbase : stageBase g) (hreasons : g.reasons.isEmpty = true) (hgain : g.gain = .opened)
    (happlied : g.applied = g.target) (hramp : g.ramp = none) : stageOk g := by
  obtain ⟨hrecord, htop, hle⟩ := hbase
  refine ⟨hrecord, htop, hle, ?_⟩
  simp only [hreasons, hgain, hramp, happlied]
  simp

/-- OPEN in SOFT mode on its way to its target. -/
theorem stageOk_following (hbase : stageBase g) (hreasons : g.reasons.isEmpty = true) (hgain : g.gain = .opened)
    (hmode : g.record.mode = .soft) (hup : g.applied < g.target → rampPurpose g = some .attack)
    (hdown : g.target < g.applied → rampPurpose g = some .release) (hat : g.applied = g.target → g.ramp = none) :
    stageOk g := by
  obtain ⟨hrecord, htop, hle⟩ := hbase
  exact ⟨hrecord, htop, hle, by simp [hreasons], by simp [hgain], by simp [hgain], by simp [hgain], by simp [hgain],
    by simp [hmode], fun _ _ => ⟨hup, hdown, hat⟩⟩

theorem stageOk_base (h : stageOk g) : stageBase g := by
  obtain ⟨hrecord, htarget, happlied, -⟩ := h
  exact ⟨hrecord, htarget, happlied⟩

/-- The reasons are empty exactly in OPEN and RESUMING (R95). -/
theorem stageOk_reasons (h : stageOk g) :
    g.reasons.isEmpty = true ↔ g.gain = .opened ∨ g.gain = .resuming := by
  obtain ⟨-, -, -, hfull, hempty, -⟩ := h
  refine ⟨hempty, fun hgain => ?_⟩
  by_contra hne
  rcases hfull (by simpa using hne) with h | h <;> simp [h] at hgain

theorem stageOk_of_muted (h : stageOk g) (hgain : g.gain = .muted) : g.applied = 96 ∧ g.ramp = none := by
  obtain ⟨-, -, -, -, -, hmuted, -⟩ := h
  exact hmuted hgain

theorem stageOk_of_fading (h : stageOk g) (hgain : g.gain = .fading) :
    g.target ≤ g.applied ∧ g.applied < 96 ∧ rampPurpose g = some .fade := by
  obtain ⟨-, -, -, -, -, -, hfading, -⟩ := h
  exact hfading hgain

theorem stageOk_of_resuming (h : stageOk g) (hgain : g.gain = .resuming) :
    g.target < g.applied ∧ rampPurpose g = some .resume := by
  obtain ⟨-, -, -, -, -, -, -, hresuming, -⟩ := h
  exact hresuming hgain

theorem stageOk_of_hard (h : stageOk g) (hgain : g.gain = .opened) (hmode : g.record.mode = .hard) :
    g.applied = g.target ∧ g.ramp = none := by
  obtain ⟨-, -, -, -, -, -, -, -, hhard, -⟩ := h
  exact hhard hgain hmode

theorem stageOk_of_soft (h : stageOk g) (hgain : g.gain = .opened) (hmode : g.record.mode = .soft) :
    (g.applied < g.target → rampPurpose g = some .attack) ∧
    (g.target < g.applied → rampPurpose g = some .release) ∧ (g.applied = g.target → g.ramp = none) := by
  obtain ⟨-, -, -, -, -, -, -, -, -, hsoft⟩ := h
  exact hsoft hgain hmode

/-! ## The operations of one unit -/

theorem mute_ok (hbase : stageBase g) (hreasons : g.reasons.isEmpty = false) : stageOk g.mute := by
  obtain ⟨hrecord, htarget, -⟩ := hbase
  exact stageOk_muted ⟨hrecord, htarget, le_refl 96⟩ hreasons rfl rfl rfl

theorem enterFading_ok (hbase : stageBase g) (hreasons : g.reasons.isEmpty = false) (now : Nat) :
    stageOk (g.enterFading now) := by
  obtain ⟨hrecord, htarget, happlied⟩ := hbase
  simp only [Stage.enterFading]
  split
  · exact mute_ok ⟨hrecord, htarget, happlied⟩ hreasons
  · next hlt =>
    exact stageOk_fading ⟨hrecord, htarget, max_le happlied htarget⟩ hreasons rfl (le_max_right _ _)
      (Nat.not_le.mp hlt) rfl

theorem enterResuming_ok (hbase : stageBase g) (hreasons : g.reasons.isEmpty = true) (now : Nat) :
    stageOk (g.enterResuming now) := by
  obtain ⟨hrecord, htarget, happlied⟩ := hbase
  unfold Stage.enterResuming
  split
  · exact stageOk_settled ⟨hrecord, htarget, htarget⟩ hreasons rfl rfl rfl
  · next hlt => exact stageOk_resuming ⟨hrecord, htarget, happlied⟩ hreasons rfl (Nat.not_le.mp hlt) rfl

theorem keepOrStart_purpose (g : Stage) (now : Nat) (p : RampPurpose) :
    rampPurpose (g.keepOrStart now p) = some p := by
  unfold Stage.keepOrStart
  split
  · next r hr =>
    split
    · next hp => simp [rampPurpose, hr, hp]
    · rfl
  · rfl

/-- A target change leaves an OPEN unit in SOFT mode with the timer its distance needs (R106). -/
theorem follow_ok (hbase : stageBase g) (hreasons : g.reasons.isEmpty = true) (hgain : g.gain = .opened)
    (hmode : g.record.mode = .soft) (now : Nat) : stageOk (g.follow now) := by
  unfold Stage.follow
  split
  · next hat => exact stageOk_settled hbase hreasons hgain hat.symm rfl
  · next hne =>
    split
    · next hlt =>
      refine stageOk_following (by simpa [stageBase] using hbase) (by simpa using hreasons) (by simpa using hgain)
        (by simpa using hmode) (fun _ => keepOrStart_purpose _ _ _) ?_ ?_ <;>
      · simp only [keepOrStart_keeps]
        omega
    · next hle =>
      refine stageOk_following (by simpa [stageBase] using hbase) (by simpa using hreasons) (by simpa using hgain)
        (by simpa using hmode) ?_ (fun _ => keepOrStart_purpose _ _ _) ?_ <;>
      · simp only [keepOrStart_keeps]
        omega

theorem retarget_ok (h : stageOk g) {new : Nat} (hnew : new ≤ 96) (now : Nat) : stageOk (g.retarget now new) := by
  obtain ⟨hrecord, -, happlied⟩ := stageOk_base h
  have hreasons := stageOk_reasons h
  cases hgain : g.gain with
  | muted =>
    obtain ⟨htop, hramp⟩ := stageOk_of_muted h hgain
    simp only [Stage.retarget, hgain]
    exact stageOk_muted ⟨hrecord, hnew, happlied⟩ (by simpa [hgain] using hreasons) rfl htop hramp
  | fading =>
    obtain ⟨-, htop, hramp⟩ := stageOk_of_fading h hgain
    have hfull : g.reasons.isEmpty = false := by simpa [hgain] using hreasons
    simp only [Stage.retarget, hgain]
    split
    · split
      · exact mute_ok ⟨hrecord, hnew, happlied⟩ hfull
      · next hlt => exact stageOk_fading ⟨hrecord, hnew, hnew⟩ hfull rfl (le_refl _) (Nat.not_le.mp hlt) hramp
    · next hle => exact stageOk_fading ⟨hrecord, hnew, happlied⟩ hfull rfl (Nat.not_lt.mp hle) htop hramp
  | resuming =>
    obtain ⟨-, hramp⟩ := stageOk_of_resuming h hgain
    have hempty : g.reasons.isEmpty = true := by simp [hreasons, hgain]
    simp only [Stage.retarget, hgain]
    split
    · exact stageOk_settled ⟨hrecord, hnew, hnew⟩ hempty rfl rfl rfl
    · next hlt => exact stageOk_resuming ⟨hrecord, hnew, happlied⟩ hempty rfl (Nat.not_le.mp hlt) hramp
  | opened =>
    have hempty : g.reasons.isEmpty = true := by simp [hreasons, hgain]
    cases hmode : g.record.mode with
    | hard =>
      simp only [Stage.retarget, hgain, hmode]
      exact stageOk_settled ⟨hrecord, hnew, hnew⟩ hempty rfl rfl rfl
    | soft =>
      simp only [Stage.retarget, hgain, hmode]
      have hbase : stageBase { g with gain := .opened, target := new } := ⟨hrecord, hnew, happlied⟩
      exact follow_ok hbase hempty rfl hmode now

/-- A ramp timer's expiry, for the purpose it runs for (R102.2, R103.2, R106). -/
theorem rampStep_ok (h : stageOk g) {p : RampPurpose} (hp : rampPurpose g = some p) (now : Nat) :
    stageOk (g.rampStep now p) := by
  obtain ⟨hrecord, htarget, happlied⟩ := stageOk_base h
  have hreasons := stageOk_reasons h
  cases hgain : g.gain with
  | muted =>
    obtain ⟨-, hramp⟩ := stageOk_of_muted h hgain
    simp [rampPurpose, hramp] at hp
  | fading =>
    obtain ⟨-, htop, hramp⟩ := stageOk_of_fading h hgain
    obtain rfl : p = .fade := by simpa [hramp] using hp.symm
    have hfull : g.reasons.isEmpty = false := by simpa [hgain] using hreasons
    simp only [Stage.rampStep, hgain]
    split
    · exact mute_ok ⟨hrecord, htarget, happlied⟩ hfull
    · next hlt =>
      have hlt := Nat.not_le.mp hlt
      exact stageOk_fading ⟨hrecord, htarget, hlt.le⟩ hfull rfl (le_max_right _ _) hlt rfl
  | resuming =>
    obtain ⟨habove, hramp⟩ := stageOk_of_resuming h hgain
    obtain rfl : p = .resume := by simpa [hramp] using hp.symm
    have hempty : g.reasons.isEmpty = true := by simp [hreasons, hgain]
    have hless : g.applied - 1 ≤ 96 := by omega
    simp only [Stage.rampStep, hgain]
    split
    · exact stageOk_settled ⟨hrecord, htarget, hless⟩ hempty rfl (by dsimp only; omega) rfl
    · next hlt => exact stageOk_resuming ⟨hrecord, htarget, hless⟩ hempty rfl (Nat.not_le.mp hlt) rfl
  | opened =>
    have hempty : g.reasons.isEmpty = true := by simp [hreasons, hgain]
    have hmode : g.record.mode = .soft := by
      cases hmode : g.record.mode with
      | soft => rfl
      | hard => simp [rampPurpose, (stageOk_of_hard h hgain hmode).2] at hp
    obtain ⟨hup, hdown, hat⟩ := stageOk_of_soft h hgain hmode
    rcases lt_trichotomy g.applied g.target with hlt | heq | hgt
    · obtain rfl : p = .attack := by simpa [hup hlt] using hp.symm
      have hless : min 96 (g.applied + 1) ≤ 96 := min_le_left _ _
      simp only [Stage.rampStep, hgain]
      split
      · exact stageOk_settled ⟨hrecord, htarget, hless⟩ hempty rfl (by dsimp only; omega) rfl
      · next hle =>
        exact stageOk_following ⟨hrecord, htarget, hless⟩ hempty rfl hmode (fun _ => rfl)
          (fun hgt => absurd hgt.le hle) (fun heq => absurd heq.ge hle)
    · simp [rampPurpose, hat heq] at hp
    · obtain rfl : p = .release := by simpa [hdown hgt] using hp.symm
      have hless : g.applied - 1 ≤ 96 := by omega
      simp only [Stage.rampStep, hgain]
      split
      · exact stageOk_settled ⟨hrecord, htarget, hless⟩ hempty rfl (by dsimp only; omega) rfl
      · next hle =>
        exact stageOk_following ⟨hrecord, htarget, hless⟩ hempty rfl hmode
          (fun hlt => absurd hlt.le hle) (fun _ => rfl) (fun heq => absurd heq.le hle)

theorem stageBase_withReasons (h : stageOk g) (r : Reasons) : stageBase { g with reasons := r } := by
  obtain ⟨hrecord, htarget, happlied⟩ := stageOk_base h
  exact ⟨hrecord, htarget, happlied⟩

/-- A reason added to any set leaves it not empty, and the unit FADING or MUTED (R96). -/
theorem takeDown_ok (h : stageOk g) {r : Reasons} (hr : r.isEmpty = false) (now : Nat) :
    stageOk (({ g with reasons := r } : Stage).takeDown now) := by
  have hbase := stageBase_withReasons h r
  cases hgain : g.gain with
  | opened => simpa only [Stage.takeDown, hgain] using enterFading_ok hbase hr now
  | resuming => simpa only [Stage.takeDown, hgain] using enterFading_ok hbase hr now
  | fading =>
    obtain ⟨hle, hlt, hramp⟩ := stageOk_of_fading h hgain
    simpa only [Stage.takeDown, hgain] using stageOk_fading hbase hr hgain hle hlt hramp
  | muted =>
    obtain ⟨happlied, hramp⟩ := stageOk_of_muted h hgain
    simpa only [Stage.takeDown, hgain] using stageOk_muted hbase hr hgain happlied hramp

theorem addCurfew_ok (h : stageOk g) (now : Nat) : stageOk (g.addCurfew now) :=
  takeDown_ok h (r := { g.reasons with curfew := true }) (by simp [Reasons.isEmpty]) now

theorem fadeOut_ok (h : stageOk g) (now : Nat) : stageOk (g.fadeOut now) :=
  takeDown_ok h (r := { g.reasons with officer := true }) (by simp [Reasons.isEmpty]) now

theorem muteNow_ok (h : stageOk g) : stageOk g.muteNow :=
  mute_ok (stageBase_withReasons h { g.reasons with officer := true }) (by simp [Reasons.isEmpty])

/-- Reasons that a sound unit's gain state agrees with may stand in place of its own. -/
theorem stageOk_withReasons (h : stageOk g) {r : Reasons} (hr : r.isEmpty = g.reasons.isEmpty) :
    stageOk { g with reasons := r } := by
  simpa only [stageOk, rampPurpose, hr] using h

/-- Removing reasons brings the stage back in where none is left, and leaves its gain state alone otherwise (R97). -/
theorem setReasons_ok (h : stageOk g) {r : Reasons} (hfewer : g.reasons.isEmpty = true → r.isEmpty = true)
    (now : Nat) : stageOk (g.setReasons now r) := by
  unfold Stage.setReasons
  dsimp only
  split
  · next hemptied =>
    obtain ⟨hfull, hempty⟩ : g.reasons.isEmpty = false ∧ r.isEmpty = true := by simpa using hemptied
    have hreasons := stageOk_reasons h
    split
    · exact enterResuming_ok (stageBase_withReasons h r) hempty now
    · exact enterResuming_ok (stageBase_withReasons h r) hempty now
    · simp_all
    · simp_all
  · next hkept =>
    refine stageOk_withReasons h ?_
    cases hg : g.reasons.isEmpty <;> simp_all

theorem isEmpty_iff {r : Reasons} : r.isEmpty = true ↔ r.start = false ∧ r.officer = false ∧ r.curfew = false := by
  simp [Reasons.isEmpty, and_assoc]

theorem dropCurfew_ok (h : stageOk g) (now : Nat) : stageOk (g.dropCurfew now) :=
  setReasons_ok h (fun hempty => by
    obtain ⟨hstart, hofficer, -⟩ := isEmpty_iff.mp hempty
    exact isEmpty_iff.mpr ⟨hstart, hofficer, rfl⟩) now

theorem releaseReasons_ok (h : stageOk g) (now : Nat) : stageOk (g.releaseReasons now) :=
  setReasons_ok h (fun hempty => by
    obtain ⟨-, -, hcurfew⟩ := isEmpty_iff.mp hempty
    exact isEmpty_iff.mpr ⟨rfl, rfl, hcurfew⟩) now

theorem stage_restart_ok (h : stageOk g) : stageOk g.restart := by
  obtain ⟨hrecord, htarget, -⟩ := stageOk_base h
  exact stageOk_muted ⟨hrecord, htarget, le_refl 96⟩ rfl rfl rfl rfl

/-- Another record in its ranges may stand in place of a sound unit's, where it has the same change mode. -/
theorem stageOk_withRecord (h : stageOk g) {r : StageRecord} (hr : stageRecordOk r) (hmode : r.mode = g.record.mode) :
    stageOk { g with record := r } := by
  obtain ⟨-, hrest⟩ := h
  refine ⟨hr, ?_⟩
  simpa only [hmode] using hrest

/-- A change mode stored in a sound unit leaves it sound, HARD having settled it (R107). -/
theorem settleMode_ok (h : stageOk g) (m : ChangeMode) :
    stageOk (({ g with record := { g.record with mode := m } } : Stage).settleMode) := by
  obtain ⟨hrecord, htarget, happlied⟩ := stageOk_base h
  have hreasons := stageOk_reasons h
  cases hgain : g.gain with
  | muted =>
    obtain ⟨htop, hramp⟩ := stageOk_of_muted h hgain
    simp only [Stage.settleMode]
    exact stageOk_muted ⟨hrecord, htarget, happlied⟩ (by simpa [hgain] using hreasons) rfl htop hramp
  | fading =>
    obtain ⟨hle, hlt, hramp⟩ := stageOk_of_fading h hgain
    simp only [Stage.settleMode]
    exact stageOk_fading ⟨hrecord, htarget, happlied⟩ (by simpa [hgain] using hreasons) rfl hle hlt hramp
  | resuming =>
    obtain ⟨hlt, hramp⟩ := stageOk_of_resuming h hgain
    simp only [Stage.settleMode]
    exact stageOk_resuming ⟨hrecord, htarget, happlied⟩ (by simp [hreasons, hgain]) rfl hlt hramp
  | opened =>
    have hempty : g.reasons.isEmpty = true := by simp [hreasons, hgain]
    cases m with
    | hard =>
      simp only [Stage.settleMode]
      exact stageOk_settled ⟨hrecord, htarget, htarget⟩ hempty rfl rfl rfl
    | soft =>
      simp only [Stage.settleMode]
      cases hmode : g.record.mode with
      | hard =>
        obtain ⟨hat, hramp⟩ := stageOk_of_hard h hgain hmode
        exact stageOk_settled ⟨hrecord, htarget, happlied⟩ hempty rfl hat hramp
      | soft =>
        obtain ⟨hup, hdown, hat⟩ := stageOk_of_soft h hgain hmode
        exact stageOk_following ⟨hrecord, htarget, happlied⟩ hempty rfl rfl hup hdown hat

end

end Sys2Proof.Machine
end

section
/-! PROOFS. The stages and their targets under every change (O56). The curfew unit moves a stage only by adding and
removing the reason CURFEW (`CurfewMoves`); a target is recomputed where one of its inputs has changed. -/

namespace Sys2Proof.Machine

/-! ## What the curfew unit makes of the stages -/

/-- A unit after some additions and removals of the reason CURFEW. -/
inductive CurfewMoves (g : Stage) : Stage → Prop
  | refl : CurfewMoves g g
  | add {g' : Stage} (now : Nat) (h : CurfewMoves g g') : CurfewMoves g (g'.addCurfew now)
  | drop {g' : Stage} (now : Nat) (h : CurfewMoves g g') : CurfewMoves g (g'.dropCurfew now)

theorem CurfewMoves.keeps {g g' : Stage} (h : CurfewMoves g g') : g'.record = g.record ∧ g'.target = g.target := by
  induction h with
  | refl => exact ⟨rfl, rfl⟩
  | add now _ ih => simpa using ih
  | drop now _ ih => simpa using ih

theorem CurfewMoves.keeps_stageOk {g g' : Stage} (h : CurfewMoves g g') (hg : stageOk g) : stageOk g' := by
  induction h with
  | refl => exact hg
  | add now _ ih => exact addCurfew_ok ih now
  | drop now _ ih => exact dropCurfew_ok ih now

/-- Each stage is as some additions and removals of CURFEW have left it. -/
def CurfewMoved (b b' : Bank4 Stage) : Prop := ∀ i, CurfewMoves (b.get i) (b'.get i)

section
variable {b : Bank4 Stage} {s : State}

theorem CurfewMoved.refl (b : Bank4 Stage) : CurfewMoved b b := fun _ => .refl

theorem curfewMoved_changeStage {st : StageId} {f : Stage → Stage} (hf : ∀ g g', CurfewMoves g g' → CurfewMoves g (f g'))
    (h : CurfewMoved b s.stages) : CurfewMoved b (s.changeStage st f).stages := by
  intro i
  rw [changeStage_stages, Bank4.modify, Bank4.get_set]
  split
  · next hi => exact hf _ _ (hi ▸ h i)
  · exact h i

theorem curfewMoved_add (st : StageId) (now : Nat) (h : CurfewMoved b s.stages) :
    CurfewMoved b (s.changeStage st (Stage.addCurfew now)).stages :=
  curfewMoved_changeStage (fun _ _ => .add now) h

theorem curfewMoved_drop (st : StageId) (now : Nat) (h : CurfewMoved b s.stages) :
    CurfewMoved b (s.changeStage st (Stage.dropCurfew now)).stages :=
  curfewMoved_changeStage (fun _ _ => .drop now) h

theorem curfewMoved_eachStage {f : StageId → State → State}
    (hf : ∀ st s, CurfewMoved b s.stages → CurfewMoved b (f st s).stages) (h : CurfewMoved b s.stages) :
    CurfewMoved b (s.eachStage f).stages :=
  List.foldlRecOn (motive := fun t => CurfewMoved b t.stages) allStages _ h fun s hs st _ => hf st s hs

theorem curfewMoved_curfewFalls (st : StageId) (h : CurfewMoved b s.stages) :
    CurfewMoved b (s.curfewFalls st).stages :=
  curfewMoved_add st s.now h

theorem curfewMoved_endGrantInCurfew (st : StageId) (h : CurfewMoved b s.stages) :
    CurfewMoved b (s.endGrantInCurfew st).stages :=
  curfewMoved_curfewFalls (s := s.onCurfew st Curfew.endGrant) st h

theorem curfewMoved_stageOnset (st : StageId) (h : CurfewMoved b s.stages) :
    CurfewMoved b (s.stageOnset st).stages := by
  simp only [State.stageOnset]
  split
  · exact curfewMoved_curfewFalls (s := s.onCurfew st _) st h
  · simpa using h
  · exact h

theorem curfewMoved_stageCurfewEnd (st : StageId) (h : CurfewMoved b s.stages) :
    CurfewMoved b (s.stageCurfewEnd st).stages := by
  rw [State.stageCurfewEnd, (raiseOfficerIf_frame _ _ _).2.2.2.2.2.1]
  exact curfewMoved_drop (s := s.onCurfew st _) st s.now h

theorem curfewMoved_zoneJoins (z : ZoneId) (st : StageId) (h : CurfewMoved b s.stages) :
    CurfewMoved b (s.zoneJoins z st).stages := by
  simp only [State.zoneJoins]
  split
  · exact curfewMoved_stageOnset (s := s.onCurfew st _) st h
  · exact h

theorem curfewMoved_zoneLeaves (z : ZoneId) (st : StageId) (h : CurfewMoved b s.stages) :
    CurfewMoved b (s.zoneLeaves z st).stages := by
  simp only [State.zoneLeaves]
  split
  · exact curfewMoved_stageCurfewEnd (s := s.onCurfew st _) st h
  · exact h

theorem curfewMoved_zoneOnset (z : ZoneId) (h : CurfewMoved b s.stages) : CurfewMoved b (s.zoneOnset z).stages := by
  refine curfewMoved_eachStage (fun st s h => ?_) h
  split
  · exact curfewMoved_zoneJoins z st h
  · exact h

theorem curfewMoved_zoneEnd (z : ZoneId) (h : CurfewMoved b s.stages) : CurfewMoved b (s.zoneEnd z).stages :=
  curfewMoved_eachStage (fun st _ => curfewMoved_zoneLeaves z st) h

theorem curfewMoved_recomputeOnsets (h : CurfewMoved b s.stages) : CurfewMoved b s.recomputeOnsets.stages := by
  simpa using h

theorem curfewMoved_reevaluate (z : ZoneId) (h : CurfewMoved b s.stages) : CurfewMoved b (s.reevaluate z).stages := by
  simp only [State.reevaluate]
  split
  · exact curfewMoved_recomputeOnsets (curfewMoved_zoneOnset (s := s.onTable z _) z h)
  · exact curfewMoved_recomputeOnsets (curfewMoved_zoneEnd (s := s.onTable z _) z h)
  · exact curfewMoved_recomputeOnsets (s := s.onTable z _) h

theorem curfewMoved_grantMarks (h : CurfewMoved b s.stages) : CurfewMoved b s.grantMarks.stages := by
  refine curfewMoved_eachStage (fun st s h => ?_) h
  unfold State.grantMark
  split
  · split
    · exact curfewMoved_endGrantInCurfew st h
    · simpa using h
  · exact h

theorem curfewMoved_startGrant (st : StageId) (w : EncoreCase) (g : Nat) (h : CurfewMoved b s.stages) :
    CurfewMoved b (s.startGrant st w g).stages := by
  cases w with
  | before => exact h
  | late =>
    have hdropped := curfewMoved_drop (s := s.onCurfew st fun c =>
      { c with grant := .running g (tagPlus s.timeBase.tag (60 * g)) }) st s.now h
    simpa [State.startGrant] using hdropped
  | extension => simpa [State.startGrant] using h

theorem curfewMoved_serveEncoreAsk (st : StageId) (m : Nat) (h : CurfewMoved b s.stages) :
    CurfewMoved b (s.serveEncoreAsk st m).2.2.stages := by
  unfold State.serveEncoreAsk
  split
  · exact h
  · exact curfewMoved_startGrant (s := s.drawMinutes st _) st _ _ h

theorem curfewMoved_serveEncoreEnd (st : StageId) (h : CurfewMoved b s.stages) :
    CurfewMoved b (s.serveEncoreEnd st).2.2.stages := by
  unfold State.serveEncoreEnd
  split
  · exact h
  · exact h
  · exact curfewMoved_endGrantInCurfew (s := s.returnMinutes st _) st h

theorem curfewMoved_endShowGrants (h : CurfewMoved b s.stages) :
    CurfewMoved b (s.eachStage State.endShowGrant).stages := by
  refine curfewMoved_eachStage (fun st s h => ?_) h
  unfold State.endShowGrant
  split
  · exact h
  · exact h
  · exact curfewMoved_endGrantInCurfew st h

theorem curfewMoved_couplingMove (st : StageId) (z : ZoneId) (h : CurfewMoved b s.stages) :
    CurfewMoved b (s.couplingMove st z).stages := by
  unfold State.couplingMove
  split
  · split
    · exact curfewMoved_zoneJoins z st h
    · exact h
  · exact curfewMoved_zoneLeaves z st h

theorem curfewMoved_curfewAgain (st : StageId) (h : CurfewMoved b s.stages) :
    CurfewMoved b (s.curfewAgain st).stages := by
  unfold State.curfewAgain
  split
  · exact h
  · exact curfewMoved_add st s.now h

end

end Sys2Proof.Machine
end

section
/-! PROOFS. Every change keeps the stages sound and every target the one its inputs give (R91 to R93, R102 to R107),
which settles O56. -/

namespace Sys2Proof.Machine

/-! ## What enters a target (R91 to R93) -/

/-- Two records that agree on all that enters a target. -/
def SameFloor (r r' : StageRecord) : Prop :=
  r'.coupling = r.coupling ∧ r'.failsafe = r.failsafe ∧ r'.trim = r.trim

/-- Two accounts that count alike towards the targets. -/
def SameDemand (zn zn' : Zone) : Prop :=
  zn'.enabled = zn.enabled ∧ zn'.demand = zn.demand ∧ (zn'.feed = .fallback ↔ zn.feed = .fallback)

theorem targetOf_eq_of_inputs {s t : State} {st : StageId}
    (hrecord : SameFloor (s.stages.get st).record (t.stages.get st).record)
    (hunset : t.timeBase.state = .unset ↔ s.timeBase.state = .unset)
    (hzones : ∀ z, coupled s st z = true → SameDemand (s.zones.get z) (t.zones.get z)) :
    targetOf t st = targetOf s st := by
  obtain ⟨hcoupling, hfailsafe, htrim⟩ := hrecord
  have hreaches : ∀ z, reaches t st z = reaches s st z := by
    intro z
    cases hz : coupled s st z with
    | false =>
      have hnone : ¬0 < (s.stages.get st).record.coupling.get z := by simpa [coupled] using hz
      simp [reaches, hcoupling, hnone]
    | true =>
      obtain ⟨henabled, -, -⟩ := hzones z hz
      simp [reaches, hcoupling, henabled]
  have hreached : ∀ z, reaches s st z = true → coupled s st z = true := by
    intro z hz
    obtain ⟨-, hz⟩ := (Bool.and_eq_true _ _).mp hz
    exact hz
  have hterm : zoneTerm t st = zoneTerm s st := by
    funext z
    simp only [zoneTerm, hreaches]
    split
    · next hz =>
      obtain ⟨-, hdemand, -⟩ := hzones z (hreached z hz)
      rw [hdemand, hcoupling]
    · rfl
  have hforces : forcesFallback t st = forcesFallback s st := by
    funext z
    simp only [forcesFallback, hreaches]
    cases hz : reaches s st z with
    | false => rfl
    | true =>
      obtain ⟨-, -, hfeed⟩ := hzones z (hreached z hz)
      simp [hfeed]
  simp only [targetOf, contribution, forceFloor, hterm, hforces, hfailsafe, htrim, hunset]

theorem SameFloor.refl (r : StageRecord) : SameFloor r r := ⟨rfl, rfl, rfl⟩

theorem SameDemand.refl (zn : Zone) : SameDemand zn zn := ⟨rfl, rfl, .rfl⟩

theorem targetOf_le (s : State) (st : StageId) : targetOf s st ≤ 96 := min_le_left _ _

/-! ## The stages alone -/

section
variable {s t : State}

theorem stagesOk_congr (h : t.stages = s.stages) (hs : stagesOk s) : stagesOk t := fun i => h ▸ hs i

theorem stagesOk_moved (h : CurfewMoved s.stages t.stages) (hs : stagesOk s) : stagesOk t := fun i =>
  (h i).keeps_stageOk (hs i)

theorem stagesOk_changeStage {st : StageId} {f : Stage → Stage} (hf : stageOk (f (s.stages.get st)))
    (hs : stagesOk s) : stagesOk (s.changeStage st f) := by
  intro i
  rw [changeStage_stages, Bank4.modify, Bank4.get_set]
  split
  · exact hf
  · exact hs i

theorem stagesOk_onStage {st : StageId} {f : Stage → Stage} (hf : stageOk (f (s.stages.get st)))
    (hs : stagesOk s) : stagesOk (s.onStage st f) :=
  stagesOk_congr (changeStage_stages s st f).symm (stagesOk_changeStage hf hs)

theorem stagesOk_recomputeTarget (st : StageId) (hs : stagesOk s) : stagesOk (s.recomputeTarget st) := by
  simp only [State.recomputeTarget]
  split
  · exact hs
  · exact stagesOk_changeStage (retarget_ok (hs st) (targetOf_le s st) s.now) hs

theorem stagesOk_eachStage {f : StageId → State → State} (hf : ∀ st s, stagesOk s → stagesOk (f st s))
    (hs : stagesOk s) : stagesOk (s.eachStage f) :=
  List.foldlRecOn allStages _ hs fun _ ht st _ => hf st _ ht

theorem stagesOk_recomputeTargets (hs : stagesOk s) : stagesOk s.recomputeTargets :=
  stagesOk_eachStage (fun st _ => stagesOk_recomputeTarget st) hs

theorem stagesOk_recomputeCoupled (z : ZoneId) (w : Bank4 Bool) (hs : stagesOk s) :
    stagesOk (s.recomputeCoupled z w) := by
  refine stagesOk_eachStage (fun st s hs => ?_) hs
  split
  · exact stagesOk_recomputeTarget st hs
  · exact hs

theorem stagesOk_closeToStages (z : ZoneId) (w : Bank4 Bool) (old new : Zone) (hs : stagesOk s) :
    stagesOk (s.closeToStages z w old new) := by
  unfold State.closeToStages
  split
  · exact stagesOk_recomputeCoupled z w hs
  · exact hs

theorem stagesOk_takeSent (c : CloseReport) (hs : stagesOk s) : stagesOk (s.takeSent c) :=
  stagesOk_congr (by simp) hs

theorem stagesOk_closeNotices (z : ZoneId) (old new : Zone) (hs : stagesOk s) : stagesOk (s.closeNotices z old new) :=
  stagesOk_congr (by simp) hs

theorem stagesOk_closeZone (z : ZoneId) (b : Bank4 Bool) (aw : Awaiting) (r : Option MeasurementRecord)
    (hs : stagesOk s) : stagesOk (s.closeZone z b aw r) :=
  stagesOk_closeNotices _ _ _ (stagesOk_closeToStages _ _ _ _ (stagesOk_takeSent _
    (stagesOk_closeToStages (s := s.onZone z _) _ _ _ _ hs)))

/-! ## The targets -/

/-- The stages are sound, and every target is the one its inputs give. -/
def StagesSound (s : State) : Prop := stagesOk s ∧ targetsOk s

/-- What leaves the inputs of every target alone, and moves stages by the reason CURFEW only, keeps all sound. -/
theorem StagesSound.moved (hs : StagesSound s) (h : CurfewMoved s.stages t.stages)
    (hunset : t.timeBase.state = .unset ↔ s.timeBase.state = .unset)
    (hzones : ∀ z, SameDemand (s.zones.get z) (t.zones.get z)) : StagesSound t := by
  obtain ⟨hok, htarget⟩ := hs
  refine ⟨stagesOk_moved h hok, fun i => ?_⟩
  obtain ⟨hrecord, hkept⟩ := (h i).keeps
  rw [hkept, htarget i]
  exact (targetOf_eq_of_inputs (hrecord ▸ .refl _) hunset fun z _ => hzones z).symm

theorem StagesSound.framed (hs : StagesSound s) (hstages : t.stages = s.stages) (hzones : t.zones = s.zones)
    (hunset : t.timeBase.state = .unset ↔ s.timeBase.state = .unset) : StagesSound t :=
  hs.moved (hstages ▸ .refl _) hunset fun _ => hzones ▸ .refl _

/-- As `moved`, for an operation that leaves zones and time base as they were. -/
theorem StagesSound.curfew (hs : StagesSound s) (h : CurfewMoved s.stages t.stages)
    (hframe : t.zones = s.zones ∧ t.timeBase = s.timeBase) : StagesSound t :=
  hs.moved h (by rw [hframe.2]) fun _ => hframe.1 ▸ .refl _

theorem StagesSound.onZone (hs : StagesSound s) {z : ZoneId} {f : Zone → Zone}
    (hf : SameDemand (s.zones.get z) (f (s.zones.get z))) : StagesSound (s.onZone z f) := by
  refine hs.moved (.refl _) .rfl fun i => ?_
  simp only [onZone_zones, Bank8.modify, Bank8.get_set]
  split
  · next hi => exact hi ▸ hf
  · exact .refl _

/-- An operation of one unit that leaves its record's inputs and its target keeps every target. -/
theorem StagesSound.changeStage (hs : StagesSound s) {st : StageId} {f : Stage → Stage}
    (hf : stageOk (f (s.stages.get st)))
    (hrecord : SameFloor (s.stages.get st).record (f (s.stages.get st)).record)
    (htarget : (f (s.stages.get st)).target = (s.stages.get st).target) : StagesSound (s.changeStage st f) := by
  obtain ⟨hok, htargets⟩ := hs
  refine ⟨stagesOk_changeStage hf hok, fun i => ?_⟩
  have hkept : ((s.changeStage st f).stages.get i).target = (s.stages.get i).target ∧
      SameFloor (s.stages.get i).record ((s.changeStage st f).stages.get i).record := by
    rw [changeStage_stages, Bank4.modify, Bank4.get_set]
    split
    · next hi =>
      subst hi
      exact ⟨htarget, hrecord⟩
    · exact ⟨rfl, .refl _⟩
  obtain ⟨hsame, hinputs⟩ := hkept
  rw [hsame, htargets i]
  exact (targetOf_eq_of_inputs hinputs (by simp) fun z _ => by simpa using .refl _).symm

/-- Every target but one stage's is the one its inputs give. -/
def targetsBut (st : StageId) (s : State) : Prop := ∀ i, i ≠ st → (s.stages.get i).target = targetOf s i

theorem StagesSound.of_recomputed {st : StageId} (hok : stagesOk s) (hbut : targetsBut st s) :
    StagesSound (s.recomputeTarget st) := by
  refine ⟨stagesOk_recomputeTarget st hok, fun i => ?_⟩
  rw [targetOf_recomputeTarget]
  by_cases hi : i = st
  · subst hi
    exact recomputeTarget_target s i
  · rw [recomputeTarget_get_ne s hi]
    exact hbut i hi

theorem StagesSound.recomputeTarget (hs : StagesSound s) (st : StageId) : StagesSound (s.recomputeTarget st) :=
  .of_recomputed hs.1 fun i _ => hs.2 i

theorem StagesSound.of_recomputeTargets (hok : stagesOk s) : StagesSound s.recomputeTargets :=
  ⟨stagesOk_recomputeTargets hok, fun i => by simp⟩

/-! ## A close at the targets (R69, R78) -/

/-- Those of the named stages that are coupled to the zone hold the target their inputs give, the others the old one. -/
theorem recomputeCoupled_target (s : State) (z : ZoneId) (w : Bank4 Bool) (i : StageId) :
    ((s.recomputeCoupled z w).stages.get i).target =
      if w.get i && coupled s i z then targetOf s i else (s.stages.get i).target := by
  have hcoupled : ∀ t j, coupled (t.recomputeTarget j) i z = coupled t i z := fun t j => by simp [coupled]
  refine eachStage_establishes i (s := s)
    (P := fun t => targetOf t i = targetOf s i ∧ coupled t i z = coupled s i z ∧
      (t.stages.get i).target = (s.stages.get i).target)
    (Q := fun t => (t.stages.get i).target =
      if w.get i && coupled s i z then targetOf s i else (s.stages.get i).target) ⟨rfl, rfl, rfl⟩ ?_ ?_ ?_
  · rintro j t hj ⟨htarget, hc, hold⟩
    split
    · exact ⟨by rw [targetOf_recomputeTarget, htarget], by rw [hcoupled, hc],
        by rw [recomputeTarget_get_ne t hj.symm, hold]⟩
    · exact ⟨htarget, hc, hold⟩
  · rintro t ⟨htarget, hc, hold⟩
    rw [← hc, coupled, ← htarget, ← hold]
    split
    · exact recomputeTarget_target t i
    · rfl
  · intro j t hj ht
    rw [← ht]
    split
    · rw [recomputeTarget_get_ne t hj.symm]
    · rfl

/-- Whether a close hands its zone's demand or feed to the stages (R69, R78). -/
def handsOn (old new : Zone) : Bool :=
  decide (old.demand ≠ new.demand) || decide (decide (old.feed = .fallback) ≠ decide (new.feed = .fallback))

theorem sameDemand_of_handsOn_false {old new : Zone} (h : handsOn old new = false)
    (henabled : new.enabled = old.enabled) : SameDemand old new := by
  obtain ⟨hdemand, hfeed⟩ : old.demand = new.demand ∧ (old.feed = .fallback ↔ new.feed = .fallback) := by
    simpa [handsOn] using h
  exact ⟨henabled, hdemand.symm, hfeed.symm⟩

theorem closeToStages_target (s : State) (z : ZoneId) (w : Bank4 Bool) (old new : Zone) (i : StageId) :
    ((s.closeToStages z w old new).stages.get i).target =
      if handsOn old new && (w.get i && coupled s i z) then targetOf s i else (s.stages.get i).target := by
  have hdef : s.closeToStages z w old new = if handsOn old new then s.recomputeCoupled z w else s := rfl
  rw [hdef]
  cases handsOn old new with
  | true => simpa using recomputeCoupled_target s z w i
  | false => rfl

@[simp] theorem targetOf_closeToStages (s : State) (z : ZoneId) (w : Bank4 Bool) (old new : Zone) (i : StageId) :
    targetOf (s.closeToStages z w old new) i = targetOf s i :=
  targetOf_congr (by simp) (by simp) (by simp)

theorem coupled_congr {s t : State} {i : StageId} (h : (t.stages.get i).record = (s.stages.get i).record)
    (z : ZoneId) : coupled t i z = coupled s i z := by
  simp only [coupled, h]

/-- After a close in either order each stage that is coupled to the zone holds its target of after the close, where the
close hands anything on, and every other stage the target it had. -/
theorem closeZone_target (s : State) (z : ZoneId) (b : Bank4 Bool) (aw : Awaiting) (r : Option MeasurementRecord)
    (i : StageId) :
    ((s.closeZone z b aw r).stages.get i).target =
      if handsOn (s.zones.get z) ((s.zones.get z).close s.now (limitsInForce s z) aw r) && coupled s i z then
        targetOf (s.onZone z fun _ => (s.zones.get z).close s.now (limitsInForce s z) aw r) i
      else (s.stages.get i).target := by
  have hsent : ∀ (t : State) c, (t.takeSent c).stages = t.stages := fun t c => by simp
  have hnotices : ∀ (t : State) old new, (t.closeNotices z old new).stages = t.stages := fun t old new => by simp
  have hcoupled : ∀ (t : State) w old new c,
      coupled ((t.closeToStages z w old new).takeSent c) i z = coupled t i z :=
    fun t w old new c => coupled_congr (by simp) z
  have htarget : ∀ (t : State) w old new c,
      targetOf ((t.closeToStages z w old new).takeSent c) i = targetOf t i :=
    fun t w old new c => targetOf_congr (by simp) (by simp) (by simp)
  simp only [State.closeZone]
  rw [hnotices, closeToStages_target, hsent, closeToStages_target, hcoupled, htarget, Bank4.get_map]
  generalize handsOn _ _ = hands
  rw [show coupled (s.onZone z _) i z = coupled s i z from rfl]
  cases hands <;> cases b.get i <;> cases coupled s i z <;> simp

theorem targetOf_closeZone (s : State) (z : ZoneId) (b : Bank4 Bool) (aw : Awaiting) (r : Option MeasurementRecord)
    (i : StageId) :
    targetOf (s.closeZone z b aw r) i =
      targetOf (s.onZone z fun _ => (s.zones.get z).close s.now (limitsInForce s z) aw r) i :=
  targetOf_congr (by simp) (by simp [closeZone_zones, Bank8.modify]) (by simp)

/-- Storing an account that hands nothing on to a stage leaves that stage's target. -/
theorem targetOf_onZone {s : State} {z : ZoneId} {new : Zone} {i : StageId}
    (h : coupled s i z = true → SameDemand (s.zones.get z) new) :
    targetOf (s.onZone z fun _ => new) i = targetOf s i := by
  refine targetOf_eq_of_inputs (.refl _) .rfl fun j hj => ?_
  rw [onZone_zones, Bank8.modify, Bank8.get_set]
  split
  · next hz =>
    subst hz
    exact h hj
  · exact .refl _

theorem StagesSound.closeZone {s : State} (hs : StagesSound s) (z : ZoneId) (b : Bank4 Bool) (aw : Awaiting)
    (r : Option MeasurementRecord) : StagesSound (s.closeZone z b aw r) := by
  obtain ⟨hok, htarget⟩ := hs
  refine ⟨stagesOk_closeZone z b aw r hok, fun i => ?_⟩
  rw [closeZone_target, targetOf_closeZone]
  split
  · rfl
  · next hnot =>
    rw [htarget i, targetOf_onZone]
    exact fun hi => sameDemand_of_handsOn_false (by simpa [hi] using hnot) (by simp)

end

end Sys2Proof.Machine
end

section
/-! PROOFS. Every change keeps the stages and their targets sound; O56. -/

namespace Sys2Proof.Machine

section
variable {s : State}

/-! ## Zones and the monitor loop -/

theorem StagesSound.closingDeadline (hs : StagesSound s) (z : ZoneId) (b : Bank4 Bool) (e : Nat) (m : Option Nat) :
    StagesSound (s.closingDeadline z b e m) := by
  have hawaits : ∀ {t : State}, StagesSound t →
      StagesSound (t.onZone z fun zn => { zn with awaiting := some ⟨e, true, m⟩ }) :=
    fun ht => ht.onZone ⟨rfl, rfl, .rfl⟩
  simp only [State.closingDeadline]
  split
  · refine hawaits ?_
    split
    · split
      · exact hs.closeZone z b _ none
      · exact hs
    · exact hs
  · exact hs

theorem StagesSound.handRecord (hs : StagesSound s) (a : SlotId) (r : MeasurementRecord) :
    StagesSound (s.handRecord a r) := by
  simp only [State.handRecord]
  split
  · exact hs
  · split
    · exact StagesSound.closeZone (hs.framed (by simp) (by simp) (by simp)) _ _ _ _
    · exact hs.framed (by simp) (by simp) (by simp)

theorem StagesSound.acceptReply (hs : StagesSound s) (t : Transaction) (r : Reply) :
    StagesSound (s.acceptReply t r) := by
  unfold State.acceptReply
  split
  case h_5 => exact (StagesSound.handRecord (hs.framed (by simp) (by simp) (by simp)) _ _)
  all_goals exact hs.framed (by simp) (by simp) (by simp)

theorem StagesSound.failAttempt (hs : StagesSound s) : StagesSound s.failAttempt :=
  hs.framed (by simp) (by simp) (by simp)

theorem StagesSound.completeReply (hs : StagesSound s) (r : Option Reply) : StagesSound (s.completeReply r) := by
  have hfree : StagesSound (s.onLoop Loop.free) := hs.framed rfl rfl .rfl
  unfold State.completeReply
  split
  · split
    · dsimp only
      split
      · exact hfree.framed rfl rfl .rfl
      · exact (hfree.acceptReply _ _).framed rfl rfl .rfl
    · exact hs.failAttempt
  · exact hs.failAttempt

/-! ## The curfew unit and the time base -/

theorem StagesSound.reevaluate (hs : StagesSound s) (z : ZoneId) : StagesSound (s.reevaluate z) :=
  hs.curfew (curfewMoved_reevaluate z (.refl _)) (by simp)

theorem StagesSound.markTask (hs : StagesSound s) (o : Interleaving) (e : Nat) (m : Option Nat) (t : Task) :
    StagesSound (s.markTask o e m t) := by
  cases t with
  | zone z => exact hs.closingDeadline z _ _ _
  | table z =>
    simp only [State.markTask]
    split
    · exact hs
    · exact hs.reevaluate z
  | grants => exact hs.curfew (t := s.grantMarks) (curfewMoved_grantMarks (.refl _)) (by simp)
  | floor st => exact hs

theorem StagesSound.issueMark (hs : StagesSound s) : StagesSound s.issueMark := by
  unfold State.issueMark
  have hmarked : StagesSound (s.takeOrder.2.onTimeBase (TimeBase.mark s.takeOrder.2.now)) :=
    hs.framed (by simp) (by simp) (by simp [TimeBase.mark])
  generalize s.takeOrder = r at hmarked ⊢
  obtain ⟨o, u⟩ := r
  exact List.foldlRecOn o.sequence _ (hmarked.framed rfl rfl .rfl) fun t ht task _ => ht.markTask o _ _ task

theorem StagesSound.onTimeBase (hs : StagesSound s) {f : TimeBase → TimeBase}
    (hf : (f s.timeBase).state = .unset ↔ s.timeBase.state = .unset) : StagesSound (s.onTimeBase f) :=
  hs.framed rfl rfl hf

theorem StagesSound.timeEvent (hs : StagesSound s) (e : TimeEvent) : StagesSound (s.timeEvent e) :=
  hs.framed rfl rfl .rfl

theorem StagesSound.clockMoved (hs : StagesSound s) {t : State} (h : ClockMoved s t) : StagesSound t := by
  obtain ⟨u, hu, ht⟩ := h
  obtain ⟨-, -, hzones, hstages, -⟩ := hu.frame
  have hset : StagesSound u := hs.framed hstages hzones hu.unset
  rcases ht with rfl | rfl
  · exact hset
  · exact hset.issueMark

/-- What the turn of one element of a list establishes, and every element's turn keeps, holds after a fold over it. -/
theorem foldl_establishes {α : Type} {P Q : State → Prop} {f : State → α → State} {l : List α} {a : α} {s : State}
    (ha : a ∈ l) (hstart : P s) (hbefore : ∀ s x, P s → P (f s x)) (hturn : ∀ s, P s → Q (f s a))
    (hafter : ∀ s x, Q s → Q (f s x)) : Q (l.foldl f s) := by
  obtain ⟨before, after, rfl⟩ := List.append_of_mem ha
  rw [List.foldl_append, List.foldl_cons]
  refine List.foldlRecOn after _ (hturn _ ?_) fun t ht x _ => hafter t x ht
  exact List.foldlRecOn before _ hstart fun t ht x _ => hbefore t x ht

theorem stagesOk_setTimeTask (b : Bool) (task : Task) (hs : stagesOk s) : stagesOk (s.setTimeTask b task) := by
  cases task with
  | zone z => exact hs
  | table z => exact stagesOk_moved (curfewMoved_reevaluate z (.refl _)) hs
  | grants => exact hs
  | floor st =>
    simp only [State.setTimeTask]
    split
    · exact stagesOk_recomputeTarget st hs
    · exact hs

theorem reevaluate_target (s : State) (z : ZoneId) (i : StageId) :
    ((s.reevaluate z).stages.get i).target = (s.stages.get i).target ∧ targetOf (s.reevaluate z) i = targetOf s i := by
  obtain ⟨hrecord, htarget⟩ := (curfewMoved_reevaluate z (.refl s.stages) i).keeps
  exact ⟨htarget, targetOf_congr hrecord (by simp) (by simp)⟩

theorem setTimeTask_keeps_target {b : Bool} {i : StageId} (task : Task)
    (h : (s.stages.get i).target = targetOf s i) :
    ((s.setTimeTask b task).stages.get i).target = targetOf (s.setTimeTask b task) i := by
  cases task with
  | zone z => exact h
  | table z =>
    obtain ⟨htarget, hgiven⟩ := reevaluate_target s z i
    exact htarget.trans (h.trans hgiven.symm)
  | grants => exact h
  | floor st =>
    simp only [State.setTimeTask]
    split
    · rw [targetOf_recomputeTarget]
      by_cases hi : i = st
      · subst hi
        exact recomputeTarget_target s i
      · rwa [recomputeTarget_get_ne s hi]
    · exact h

/-- A SET TIME that leaves UNSET has each stage recompute its target; any other changes no input of a target. -/
theorem StagesSound.takeTime (hs : StagesSound s) (time : Nat) : StagesSound (s.takeTime time) := by
  unfold State.takeTime
  have htaken : StagesSound s.takeOrder.2 := hs.framed (by simp) (by simp) (by simp)
  generalize s.takeOrder = r at htaken ⊢
  obtain ⟨o, u⟩ := r
  dsimp only at htaken ⊢
  have hok : stagesOk ((u.onTimeBase fun t => { t with
      timeOfDay := time
      state := if decide (u.timeBase.state = .unset) then .free else t.state }).timeEvent .set) := htaken.1
  refine ⟨List.foldlRecOn o.sequence _ hok fun t ht task _ => stagesOk_setTimeTask _ task ht, fun i => ?_⟩
  cases hunset : decide (u.timeBase.state = .unset) with
  | true =>
    refine foldl_establishes (P := fun _ => True) (Q := fun t => (t.stages.get i).target = targetOf t i)
      (mem_sequence o (.floor i)) trivial (fun _ _ _ => trivial) (fun t _ => ?_)
      fun t task => setTimeTask_keeps_target task
    simp [State.setTimeTask]
  | false =>
    refine List.foldlRecOn (motive := fun t => (t.stages.get i).target = targetOf t i) o.sequence _ ?_
      fun t ht task _ => setTimeTask_keeps_target task ht
    exact ((htaken.onTimeBase (by simp)).timeEvent .set).2 i

/-! ## Enabling and disabling (R59, R60) -/

theorem StagesSound.enableZoneNow (hs : StagesSound s) (z : ZoneId) : StagesSound (s.enableZoneNow z) := by
  obtain ⟨hok, -⟩ := hs
  have hcounted : StagesSound ((s.onZone z Zone.enable).raiseOfficer .feedChange).recomputeTargets :=
    .of_recomputeTargets hok
  simp only [State.enableZoneNow]
  split
  · exact hcounted.curfew (curfewMoved_recomputeOnsets (curfewMoved_zoneOnset z (.refl _))) (by simp)
  · exact hcounted.curfew (curfewMoved_recomputeOnsets (.refl _)) (by simp)

theorem stagesOk_stageLosesZone (z : ZoneId) (b : Bool) (st : StageId) (hs : stagesOk s) :
    stagesOk (s.stageLosesZone z b st) := by
  unfold State.stageLosesZone
  split
  · exact stagesOk_recomputeTarget st (stagesOk_moved (curfewMoved_zoneLeaves z st (.refl _)) hs)
  · exact stagesOk_moved (curfewMoved_zoneLeaves z st (.refl _)) (stagesOk_recomputeTarget st hs)

theorem zoneLeaves_target (s : State) (z : ZoneId) (st i : StageId) :
    ((s.zoneLeaves z st).stages.get i).target = (s.stages.get i).target ∧
    targetOf (s.zoneLeaves z st) i = targetOf s i := by
  obtain ⟨hrecord, htarget⟩ := (curfewMoved_zoneLeaves z st (.refl s.stages) i).keeps
  exact ⟨htarget, targetOf_congr hrecord (by simp) (by simp)⟩

theorem stageLosesZone_target (s : State) (z : ZoneId) (b : Bool) (st : StageId) :
    ((s.stageLosesZone z b st).stages.get st).target = targetOf (s.stageLosesZone z b st) st := by
  unfold State.stageLosesZone
  split
  · rw [recomputeTarget_target, targetOf_recomputeTarget]
  · obtain ⟨htarget, hgiven⟩ := zoneLeaves_target (s.recomputeTarget st) z st st
    rw [htarget, hgiven, recomputeTarget_target, targetOf_recomputeTarget]

theorem stageLosesZone_keeps_target {z : ZoneId} {b : Bool} {j i : StageId} (hj : j ≠ i)
    (h : (s.stages.get i).target = targetOf s i) :
    ((s.stageLosesZone z b j).stages.get i).target = targetOf (s.stageLosesZone z b j) i := by
  unfold State.stageLosesZone
  split
  · obtain ⟨htarget, hgiven⟩ := zoneLeaves_target s z j i
    rw [recomputeTarget_get_ne _ hj.symm, targetOf_recomputeTarget, htarget, hgiven, h]
  · obtain ⟨htarget, hgiven⟩ := zoneLeaves_target (s.recomputeTarget j) z j i
    rw [htarget, hgiven, recomputeTarget_get_ne _ hj.symm, targetOf_recomputeTarget, h]

theorem StagesSound.disableZoneNow (hs : StagesSound s) (z : ZoneId) : StagesSound (s.disableZoneNow z) := by
  unfold State.disableZoneNow
  have hok : stagesOk s.takeOrder.2 := stagesOk_congr (by simp) hs.1
  generalize s.takeOrder = r at hok ⊢
  obtain ⟨o, u⟩ := r
  dsimp only at hok ⊢
  generalize hcleared : State.forgetReports z _ = v
  have hv : stagesOk v := stagesOk_congr (by simp [← hcleared]) hok
  refine StagesSound.curfew (s := v.eachStage fun st s => s.stageLosesZone z (o.curfewFirst.get st) st) ⟨?_, fun i => ?_⟩
    (curfewMoved_recomputeOnsets (.refl _)) (by simp)
  · exact stagesOk_eachStage (fun st _ => stagesOk_stageLosesZone z _ st) hv
  · exact eachStage_establishes (P := fun _ => True) (Q := fun t => (t.stages.get i).target = targetOf t i) i trivial
      (fun _ _ _ _ => trivial) (fun t _ => stageLosesZone_target t z _ i) fun j t hj ht => stageLosesZone_keeps_target hj ht

/-! ## Stage records (R85 to R90, R107, R181) -/

theorem targetsBut_onStage (hs : targetsOk s) (st : StageId) (f : Stage → Stage) : targetsBut st (s.onStage st f) := by
  intro i hi
  have hkept : (s.onStage st f).stages.get i = s.stages.get i := by simp [Bank4.modify, hi]
  have hgiven : targetOf (s.onStage st f) i = targetOf s i :=
    targetOf_congr (by rw [hkept]) (onStage_zones _ _ _) (onStage_timeBase _ _ _)
  rw [hkept, hgiven, hs i]

/-- A record stored in one stage leaves its unit sound, and disturbs no other stage's target. -/
theorem stagesOk_storeRecord (hs : stagesOk s) {st : StageId} {f : StageRecord → StageRecord}
    (hf : stageRecordOk (f (s.stages.get st).record))
    (hmode : (f (s.stages.get st).record).mode = (s.stages.get st).record.mode) :
    stagesOk (s.onStage st fun g => { g with record := f g.record }) :=
  stagesOk_onStage (f := fun g => { g with record := f g.record }) (stageOk_withRecord (hs st) hf hmode) hs

end

end Sys2Proof.Machine
end

section
/-! PROOFS. The requests and events of the stages, the RESTART, and O56. -/

namespace Sys2Proof.Machine

/-! ## Records in their ranges (R85, R87 to R89) -/

theorem writeField_within {lo hi old : Nat} (h : lo ≤ hi) (hold : within lo hi old) (new : Option Nat) :
    within lo hi (writeField lo hi new old) := by
  cases new with
  | none => exact hold
  | some n => exact clampTo_within h n

theorem writeField_le {hi old : Nat} (hold : old ≤ hi) (new : Option Nat) : writeField 0 hi new old ≤ hi :=
  (writeField_within (Nat.zero_le hi) ⟨Nat.zero_le old, hold⟩ new).2

theorem stageRecordOk_write {r : StageRecord} (h : stageRecordOk r) (f : SetStageFields) :
    stageRecordOk (r.write f) := by
  obtain ⟨hcoupling, hfailsafe, hattack, hrelease, hfade, hresume, hlead, htrim⟩ := h
  exact ⟨hcoupling, writeField_le hfailsafe _, writeField_within (by decide) hattack _,
    writeField_within (by decide) hrelease _, writeField_within (by decide) hfade _,
    writeField_within (by decide) hresume _, writeField_within (by decide) hlead _, writeField_le htrim _⟩

theorem stageRecordOk_writeDesk {r : StageRecord} (h : stageRecordOk r) (f : SetDeskFields) :
    stageRecordOk (r.writeDesk f) := by
  obtain ⟨hcoupling, hfailsafe, hattack, hrelease, hfade, hresume, hlead, htrim⟩ := h
  exact ⟨hcoupling, hfailsafe, hattack, hrelease, hfade, hresume, writeField_within (by decide) hlead _,
    writeField_le htrim _⟩

theorem stageRecordOk_couple {r : StageRecord} (h : stageRecordOk r) (z : ZoneId) {v : Nat} (hv : v ≤ 100) :
    stageRecordOk { r with coupling := r.coupling.set z v } := by
  obtain ⟨hcoupling, hrest⟩ := h
  refine ⟨fun i => ?_, hrest⟩
  rw [Bank8.get_set]
  split
  · exact hv
  · exact hcoupling i

section
variable {s : State}

/-! ## Requests that write a record -/

theorem StagesSound.onStage (hs : StagesSound s) {st : StageId} {f : Stage → Stage}
    (hf : stageOk (f (s.stages.get st)))
    (hrecord : SameFloor (s.stages.get st).record (f (s.stages.get st)).record)
    (htarget : (f (s.stages.get st)).target = (s.stages.get st).target) : StagesSound (s.onStage st f) :=
  (hs.changeStage hf hrecord htarget).framed (changeStage_stages s st f).symm (by simp) (by simp)

theorem StagesSound.soonTestIf (hs : StagesSound s) (c : Bool) (st : StageId) :
    StagesSound (if c then s.soonTest st else s) := by
  split
  · exact hs.framed (by simp) (by simp) (by simp)
  · exact hs

theorem StagesSound.onLink (hs : StagesSound s) (l : LinkId) (f : LinkInterface → LinkInterface) :
    StagesSound (s.onLink l f) :=
  hs.framed rfl rfl .rfl

theorem stored_onLink {st : StageId} (hok : stagesOk s) (hbut : targetsBut st s) (l : LinkId)
    (f : LinkInterface → LinkInterface) : stagesOk (s.onLink l f) ∧ targetsBut st (s.onLink l f) :=
  ⟨stagesOk_congr (onLink_stages s l f) hok, fun i hi =>
    (hbut i hi).trans (targetOf_congr (by simp) (by simp) (by simp)).symm⟩

theorem StagesSound.takeDesk (hs : StagesSound s) (st : StageId) (f : SetDeskFields) :
    StagesSound (s.takeDesk st f) := by
  have hrecord := stageRecordOk_writeDesk (stageOk_base (hs.1 st)).1 f
  have hok := stagesOk_storeRecord (f := StageRecord.writeDesk f) hs.1 hrecord rfl
  have hbut := targetsBut_onStage hs.2 st fun g => { g with record := g.record.writeDesk f }
  obtain ⟨hok, hbut⟩ := stored_onLink hok hbut (.desk st)
    (LinkInterface.write (f.enables.map widenMask) f.priorities)
  refine StagesSound.soonTestIf ?_ _ st
  split
  · exact .of_recomputed hok hbut
  · next hnone =>
    have htrim : f.trim = none := by simpa using hnone
    refine StagesSound.onLink (hs.onStage (stageOk_withRecord (hs.1 st) hrecord rfl) ?_ rfl) _ _
    exact ⟨rfl, rfl, by simp [StageRecord.writeDesk, htrim]⟩

theorem StagesSound.takeCoupling (hs : StagesSound s) (st : StageId) (z : ZoneId) {v : Nat} (hv : v ≤ 100) :
    StagesSound (s.takeCoupling st z v) := by
  have hstored : StagesSound ((s.onStage st fun g =>
      { g with record := { g.record with coupling := g.record.coupling.set z v } }).recomputeTarget st) :=
    .of_recomputed (stagesOk_storeRecord (f := fun r => { r with coupling := r.coupling.set z v }) hs.1
      (stageRecordOk_couple (stageOk_base (hs.1 st)).1 z hv) rfl) (targetsBut_onStage hs.2 st _)
  simp only [State.takeCoupling]
  split
  · exact hstored
  · exact hstored.curfew (curfewMoved_recomputeOnsets (curfewMoved_couplingMove st z (.refl _))) (by simp)

theorem StagesSound.takeChangeMode (hs : StagesSound s) (st : StageId) (m : Option Nat) :
    StagesSound (s.takeChangeMode st m) := by
  cases m with
  | none => exact hs
  | some n => exact hs.changeStage (settleMode_ok (hs.1 st) _) (by simp [SameFloor]) (by simp)

theorem stagesOk_takeChangeMode (hs : stagesOk s) (st : StageId) (m : Option Nat) :
    stagesOk (s.takeChangeMode st m) := by
  cases m with
  | none => exact hs
  | some n => exact stagesOk_changeStage (settleMode_ok (hs st) _) hs

theorem targetsBut_takeChangeMode {st : StageId} (hs : targetsBut st s) (m : Option Nat) :
    targetsBut st (s.takeChangeMode st m) := by
  cases m with
  | none => exact hs
  | some n =>
    intro i hi
    have hkept : (s.takeChangeMode st (some n)).stages.get i = s.stages.get i := by
      simp [State.takeChangeMode, Bank4.modify, hi]
    have hgiven : targetOf (s.takeChangeMode st (some n)) i = targetOf s i :=
      targetOf_congr (by rw [hkept]) (by simp) (by simp)
    rw [hkept, hgiven, hs i hi]

/-- The target recomputed where the record's write may have moved it. -/
theorem StagesSound.takeFloor {st : StageId} {f : SetStageFields} (hok : stagesOk s) (hbut : targetsBut st s)
    (hsame : (f.failsafe.isSome || f.trim.isSome) = false → StagesSound s) : StagesSound (s.takeFloor st f) := by
  unfold State.takeFloor
  split
  · exact .of_recomputed hok hbut
  · next hnone => exact hsame (by simpa using hnone)

theorem StagesSound.takeStageRecord (hs : StagesSound s) (st : StageId) (f : SetStageFields) :
    StagesSound (s.takeStageRecord st f) := by
  unfold State.takeStageRecord
  have htaken : StagesSound s.takeOrder.2 := hs.framed (by simp) (by simp) (by simp)
  generalize s.takeOrder = r at htaken ⊢
  obtain ⟨o, u⟩ := r
  dsimp only at htaken ⊢
  have hrecord := stageRecordOk_write (stageOk_base (htaken.1 st)).1 f
  have hok := stagesOk_storeRecord (f := StageRecord.write f) htaken.1 hrecord rfl
  have hbut := targetsBut_onStage htaken.2 st fun g => { g with record := g.record.write f }
  have hsame : (f.failsafe.isSome || f.trim.isSome) = false →
      StagesSound (u.onStage st fun g => { g with record := g.record.write f }) := by
    intro hnone
    obtain ⟨hfailsafe, htrim⟩ : f.failsafe = none ∧ f.trim = none := by simpa using hnone
    exact htaken.onStage (stageOk_withRecord (htaken.1 st) hrecord rfl)
      ⟨rfl, by simp [StageRecord.write, writeField, hfailsafe], by simp [StageRecord.write, writeField, htrim]⟩ rfl
  refine StagesSound.soonTestIf ?_ _ st
  split
  · exact StagesSound.takeFloor (stagesOk_takeChangeMode hok st _) (targetsBut_takeChangeMode hbut _)
      fun hnone => (hsame hnone).takeChangeMode st _
  · exact (StagesSound.takeFloor hok hbut hsame).takeChangeMode st _

/-! ## RESTART, ramps and the officer's reasons -/

theorem StagesSound.arbitrate (hs : StagesSound s) : StagesSound s.arbitrate :=
  hs.framed (arbitrate_stages s) (arbitrate_zones s) (by simp)

theorem StagesSound.restartAll (hs : StagesSound s) : StagesSound s.restartAll := by
  unfold State.restartAll
  have hreset : stagesOk s.takeOrder.2.resetBlocks := fun i => by
    simpa [State.resetBlocks] using stage_restart_ok (hs.1 i)
  generalize s.takeOrder = r at hreset ⊢
  obtain ⟨o, u⟩ := r
  have hlist : stagesOk (u.resetBlocks.restartList o) := stagesOk_congr (by simp) hreset
  have hagain := stagesOk_moved (curfewMoved_eachStage (fun st _ => curfewMoved_curfewAgain st) (.refl _)) hlist
  exact (StagesSound.of_recomputeTargets hagain).arbitrate

theorem StagesSound.rampExpires (hs : StagesSound s) (st : StageId) : StagesSound (s.rampExpires st) := by
  unfold State.rampExpires
  split
  · exact hs
  · next r hr =>
    have hmoved : StagesSound (s.advanceTo r.due) := hs.framed rfl rfl .rfl
    refine hmoved.changeStage (rampStep_ok (hs.1 st) ?_ _) (by simp [SameFloor]) (by simp)
    simp [rampPurpose, hr]

theorem StagesSound.settleExpires (hs : StagesSound s) (z : ZoneId) : StagesSound (s.settleExpires z) := by
  unfold State.settleExpires
  split
  · exact hs
  · exact StagesSound.onZone (s := s.advanceTo _) (hs.framed rfl rfl .rfl) ⟨rfl, rfl, .rfl⟩

end

/-! ## Commands and steps -/

theorem stagesSound_reset : StagesSound State.reset := ⟨stagesOk_reset, by decide⟩

/-- Every change keeps the stages and their targets sound, each by what it does to one unit or to a target's inputs. -/
theorem Change.keeps_stagesSound {s t : State} (h : Change s t) (hs : StagesSound s) : StagesSound t := by
  cases h
  case expectedPoint => exact hs.clockMoved (expectedPoint_clockMoved s)
  case pulse m => exact hs.clockMoved (pulseAt_clockMoved s m)
  case windowEnd => exact hs.clockMoved (windowEnd_clockMoved s)
  case lockLost => exact hs.clockMoved (lockLost_clockMoved s)
  case completeReply r => exact hs.completeReply r
  case settleExpires z => exact hs.settleExpires z
  case rampExpires st => exact hs.rampExpires st
  case setDesk st f h => exact hs.takeDesk st f
  case encore st m => exact hs.curfew (curfewMoved_serveEncoreAsk st _ (.refl _)) (by simp)
  case encoreEnd st => exact hs.curfew (curfewMoved_serveEncoreEnd st (.refl _)) (by simp)
  case setZone z f h => exact hs.onZone ⟨rfl, rfl, .rfl⟩
  case enableZone z h => exact hs.enableZoneNow z
  case disableZone z hmode h => exact hs.disableZoneNow z
  case readZone z => exact hs.onZone ⟨rfl, rfl, .rfl⟩
  case insertSegment z f h => exact StagesSound.reevaluate (s := s.onTable z _) (hs.framed rfl rfl .rfl) z
  case editSegment z f g hg h => exact StagesSound.reevaluate (s := s.onTable z _) (hs.framed rfl rfl .rfl) z
  case deleteSegment z start hstart hmode => exact StagesSound.reevaluate (s := s.onTable z _) (hs.framed rfl rfl .rfl) z
  case setCoupling st z v hv h => exact hs.takeCoupling st z hv
  case setStage st f h => exact hs.takeStageRecord st f
  case muteNow st => exact hs.changeStage (muteNow_ok (hs.1 st)) (.refl _) rfl
  case fade st => exact hs.changeStage (fadeOut_ok (hs.1 st) _) (by simp [SameFloor]) (by simp)
  case release st => exact hs.changeStage (releaseReasons_ok (hs.1 st) _) (by simp [SameFloor]) (by simp)
  case setTime time h => exact hs.takeTime time
  case toInternal h => exact hs.clockMoved (toInternal_clockMoved s)
  case toPps h => exact hs.clockMoved (toPps_clockMoved s)
  case endShow =>
    exact StagesSound.curfew (s := { s with mode := .setup }) (hs.framed rfl rfl .rfl)
      (curfewMoved_endShowGrants (.refl _)) (by simp)
  case restart => exact hs.restartAll
  all_goals exact hs.framed (by simp) (by simp) (by simp)

/-- Settles O56: soundness of the stages and of their targets, kept together by every change. -/
theorem stagesAndTargetsStaySound : Obligations.StagesAndTargetsStaySound := by
  unfold Obligations.StagesAndTargetsStaySound
  intro s t hok htarget hstep
  refine step_keeps (P := StagesSound) (fun honly hs => ?_) (fun _ hs => hs.framed rfl rfl .rfl)
    (fun _ => stagesSound_reset.framed rfl rfl .rfl) (fun hchange => hchange.keeps_stagesSound) hstep ⟨hok, htarget⟩
  obtain ⟨k, r, -, rfl⟩ := honly
  exact hs.framed rfl rfl .rfl

end Sys2Proof.Machine
end

section
/-! PROOFS. The time base and the schedules under every change (R14, R25 to R28), which settles O57. -/

namespace Sys2Proof.Machine

/-! ## Segment lists (R25 to R27) -/

/-- All of a table's soundness but its segment in force. -/
def listOk (l : List Segment) : Prop :=
  l.length ≤ 8 ∧ (l.head?.map Segment.start) = some 0 ∧ (l.map Segment.start).Pairwise (· < ·) ∧ ∀ g ∈ l, segmentOk g

theorem tableOk_iff {m : Option Nat} {t : Table} :
    tableOk m t ↔ listOk t.segments ∧ t.inForce = segmentAt t.segments m := by
  simp only [tableOk, listOk, and_assoc]

/-- The first segment of a sound list starts the day. -/
theorem listOk_cons {l : List Segment} (h : listOk l) : ∃ g rest, l = g :: rest ∧ g.start = 0 := by
  obtain ⟨-, hhead, -⟩ := h
  cases l with
  | nil => simp at hhead
  | cons g rest => exact ⟨g, rest, rfl, by simpa using hhead⟩

theorem clampedLevel_ok {old : Nat} (hold : levelOk old) (n : Option Nat) : levelOk ((n.map clampLevel).getD old) := by
  cases n with
  | none => exact hold
  | some n => exact clampLevel_within n

theorem curfewKind_ok {eb el : Nat} (hbroad : levelOk eb) (hlow : levelOk el) :
    segmentKindOk (.curfew eb el) = true := by
  simp [segmentKindOk, hbroad, hlow]

theorem segmentOk_inserted (f : InsertFields) : segmentOk (insertedSegment f) := by
  have hbroad := clampLevel_within f.broad
  have hlow := clampLevel_within f.low
  refine ⟨(clampTo_within (by decide) f.start).2, hbroad, hlow, ?_⟩
  simp only [insertedSegment]
  split
  · rfl
  · exact curfewKind_ok (clampedLevel_ok hbroad _) (clampedLevel_ok hlow _)

theorem segmentOk_edited {g : Segment} (h : segmentOk g) (f : EditFields) : segmentOk (editedSegment f g) := by
  obtain ⟨hstart, hbroad, hlow, hkind⟩ := h
  have hbroad' := clampedLevel_ok hbroad f.broad
  have hlow' := clampedLevel_ok hlow f.low
  refine ⟨hstart, hbroad', hlow', ?_⟩
  have henter := curfewKind_ok (clampedLevel_ok hbroad' f.encoreBroad) (clampedLevel_ok hlow' f.encoreLow)
  have hstay : ∀ b l, g.kind = .curfew b l →
      segmentKindOk (.curfew ((f.encoreBroad.map clampLevel).getD b) ((f.encoreLow.map clampLevel).getD l)) = true := by
    intro b l hg
    obtain ⟨hb, hl⟩ : levelOk b ∧ levelOk l := by simpa [hg, segmentKindOk] using hkind
    exact curfewKind_ok (clampedLevel_ok hb _) (clampedLevel_ok hl _)
  simp only [editedSegment]
  split
  · rfl
  · next hg => exact hstay _ _ hg
  · rfl
  · exact henter
  · next hg => exact hstay _ _ hg

theorem segmentStarting_isNone {l : List Segment} {n : Nat} :
    segmentStarting l n = none ↔ ∀ g ∈ l, g.start ≠ n := by
  simp [segmentStarting]

/-- A minute at which no segment starts parts a list into what starts before it and what starts after it. -/
theorem lengths_beside {n : Nat} {l : List Segment} (h : ∀ x ∈ l, x.start ≠ n) :
    (l.filter fun x => decide (x.start < n)).length + (l.filter fun x => decide (n < x.start)).length = l.length := by
  induction l with
  | nil => rfl
  | cons x l ih =>
    obtain ⟨hx, hl⟩ := List.forall_mem_cons.mp h
    have := ih hl
    rcases Nat.lt_or_gt_of_ne hx with hlt | hgt
    · simp [hlt, Nat.lt_asymm hlt]
      omega
    · simp [hgt, Nat.lt_asymm hgt]
      omega

/-- A segment placed in a sound list that has room and no segment at its start (R26). -/
theorem listOk_place {l : List Segment} (h : listOk l) {g : Segment} (hg : segmentOk g) (hroom : l.length < 8)
    (hnew : ∀ x ∈ l, x.start ≠ g.start) : listOk (placeSegment g l) := by
  obtain ⟨first, rest, rfl, hfirst⟩ := listOk_cons h
  obtain ⟨-, -, hsorted, hsegments⟩ := h
  have hpositive : first.start < g.start := by
    have := hnew first (by simp)
    omega
  refine ⟨?_, ?_, ?_, ?_⟩
  · have := lengths_beside hnew
    rw [placeSegment, List.length_append, List.length_cons]
    omega
  · rw [placeSegment, List.filter_cons_of_pos (by simpa using hpositive)]
    simpa using hfirst
  · simp only [placeSegment, List.map_append, List.map_cons, List.pairwise_append, List.pairwise_cons]
    refine ⟨hsorted.sublist (List.filter_sublist.map _), ⟨?_, hsorted.sublist (List.filter_sublist.map _)⟩, ?_⟩
    · simp only [List.mem_map, List.mem_filter, decide_eq_true_eq]
      rintro _ ⟨x, ⟨-, hx⟩, rfl⟩
      exact hx
    · simp only [List.mem_map, List.mem_filter, decide_eq_true_eq, List.mem_cons]
      rintro _ ⟨x, ⟨-, hx⟩, rfl⟩ _ (rfl | ⟨y, ⟨-, hy⟩, rfl⟩)
      · exact hx
      · exact hx.trans hy
  · intro x hx
    simp only [placeSegment, List.mem_append, List.mem_filter, List.mem_cons (a := x) (b := g)] at hx
    rcases hx with ⟨hx, -⟩ | rfl | ⟨hx, -⟩
    · exact hsegments x hx
    · exact hg
    · exact hsegments x hx

theorem insertRefusal_none {s : State} {z : ZoneId} {f : InsertFields} (h : insertRefusal s z f = none) :
    (s.tables.get z).segments.length < 8 ∧
    ∀ x ∈ (s.tables.get z).segments, x.start ≠ (insertedSegment f).start := by
  simp only [insertRefusal] at h
  split at h
  · cases h
  · split at h
    · cases h
    · next hnew =>
      split at h
      · cases h
      · next hroom => exact ⟨Nat.not_le.mp hroom, segmentStarting_isNone.mp (by simpa using hnew)⟩

/-- A segment changed in place keeps its start, so the list keeps its order (R27). -/
theorem listOk_edit {l : List Segment} (h : listOk l) (f : EditFields) (n : Nat) :
    listOk (l.map fun x => if x.start = n then editedSegment f x else x) := by
  obtain ⟨hlength, hhead, hsorted, hsegments⟩ := h
  have hstarts : (l.map fun x => if x.start = n then editedSegment f x else x).map Segment.start =
      l.map Segment.start := by
    rw [List.map_map]
    refine List.map_congr_left fun x _ => ?_
    simp only [Function.comp]
    split <;> rfl
  refine ⟨by simpa using hlength, ?_, hstarts ▸ hsorted, ?_⟩
  · rw [← List.head?_map, hstarts, List.head?_map]
    exact hhead
  · intro y hy
    obtain ⟨x, hx, rfl⟩ := List.mem_map.mp hy
    split
    · exact segmentOk_edited (hsegments x hx) f
    · exact hsegments x hx

/-- A segment after the first removed (R27). -/
theorem listOk_delete {l : List Segment} (h : listOk l) {n : Nat} (hn : n ≠ 0) :
    listOk (l.filter fun x => decide (x.start ≠ n)) := by
  obtain ⟨first, rest, rfl, hfirst⟩ := listOk_cons h
  obtain ⟨hlength, -, hsorted, hsegments⟩ := h
  refine ⟨(List.length_filter_le _ _).trans hlength, ?_, hsorted.sublist (List.filter_sublist.map _),
    fun x hx => hsegments x (List.mem_of_mem_filter hx)⟩
  have hstays : first.start ≠ n := by omega
  rw [List.filter_cons_of_pos (by simpa using hstays)]
  simpa using hfirst

/-! ## The tables under the operations that reach them -/

section
variable {s t : State}

theorem tablesOk_congr (htables : t.tables = s.tables) (hminute : t.minute = s.minute) (hs : tablesOk s) :
    tablesOk t := by
  simpa only [tablesOk, htables, hminute] using hs

/-- A re-evaluated table is in force as the minute gives, the others as they were (R28). -/
theorem reevaluate_tableOk (s : State) (z i : ZoneId) (hlist : listOk (s.tables.get i).segments)
    (hi : i ≠ z → tableOk s.minute (s.tables.get i)) : tableOk (s.reevaluate z).minute ((s.reevaluate z).tables.get i) := by
  rw [reevaluate_minute, reevaluate_tables, Bank8.get_set]
  split
  · next h => exact tableOk_iff.mpr ⟨h ▸ hlist, rfl⟩
  · next h => exact hi h

theorem tablesOk_reevaluate (z : ZoneId) (hs : tablesOk s) : tablesOk (s.reevaluate z) := fun i =>
  reevaluate_tableOk s z i (tableOk_iff.mp (hs i)).1 fun _ => hs i

/-- A list stored in one table and re-evaluated (R26 to R28). -/
theorem tablesOk_store (z : ZoneId) {f : List Segment → List Segment}
    (hf : listOk (f (s.tables.get z).segments)) (hs : tablesOk s) :
    tablesOk ((s.onTable z fun t => { t with segments := f t.segments }).reevaluate z) := by
  intro i
  refine reevaluate_tableOk _ z i ?_ fun hi => ?_
  · rw [onTable_tables, Bank8.modify, Bank8.get_set]
    split
    · exact hf
    · exact (tableOk_iff.mp (hs i)).1
  · rw [onTable_tables, Bank8.modify, Bank8.get_set, if_neg hi]
    exact hs i

/-! ## Marks and SET TIME (R15, R17, R28) -/

theorem markTask_tableOk {o : Interleaving} {e : Nat} {before : Option Nat} (task : Task) {i : ZoneId}
    (h : tableOk s.minute (s.tables.get i)) :
    tableOk (s.markTask o e before task).minute ((s.markTask o e before task).tables.get i) := by
  have hframe : ∀ {t : State}, t.timeBase = s.timeBase → t.tables = s.tables → tableOk t.minute (t.tables.get i) := by
    intro t htime htables
    simpa only [State.minute, htime, htables] using h
  cases task with
  | zone z => exact hframe (by simp [State.markTask]) (by simp [State.markTask])
  | table z =>
    simp only [State.markTask]
    split
    · exact h
    · exact reevaluate_tableOk s z i (tableOk_iff.mp h).1 fun _ => h
  | grants => exact hframe (by simp [State.markTask]) (by simp [State.markTask])
  | floor st => exact h

theorem markTask_segments {o : Interleaving} {e : Nat} {before : Option Nat} (task : Task) (i : ZoneId) :
    ((s.markTask o e before task).tables.get i).segments = (s.tables.get i).segments := by
  cases task with
  | zone z => simp [State.markTask]
  | table z =>
    simp only [State.markTask]
    split
    · rfl
    · rw [reevaluate_tables, Bank8.get_set]
      split
      · next h => rw [h]
      · rfl
  | grants => simp [State.markTask]
  | floor st => rfl

/-- A mark that moves the programme minute has every table re-evaluate; any other leaves the minute (R28). -/
theorem tablesOk_issueMark (hs : tablesOk s) : tablesOk s.issueMark := by
  unfold State.issueMark
  have htaken : tablesOk s.takeOrder.2 := tablesOk_congr (by simp) (by simp [State.minute]) hs
  generalize s.takeOrder = r at htaken ⊢
  obtain ⟨o, u⟩ := r
  dsimp only at htaken ⊢
  generalize hmarked : State.arbitrate _ = v
  have htables : v.tables = u.tables := by simp [← hmarked]
  intro i
  by_cases hminute : v.minute = u.minute
  · refine List.foldlRecOn (motive := fun t : State => tableOk t.minute (t.tables.get i)) o.sequence _ ?_
      fun t ht task _ => markTask_tableOk task ht
    rw [htables, hminute]
    exact htaken i
  · refine foldl_establishes (P := fun t => t.minute = v.minute ∧ listOk (t.tables.get i).segments)
      (Q := fun t => tableOk t.minute (t.tables.get i)) (mem_sequence o (.table i)) ⟨rfl, ?_⟩ ?_ ?_
      fun t task ht => markTask_tableOk task ht
    · rw [htables]
      exact (tableOk_iff.mp (htaken i)).1
    · rintro t task ⟨hsame, hlist⟩
      exact ⟨by simpa [State.minute] using hsame, by rwa [markTask_segments]⟩
    · rintro t ⟨hsame, hlist⟩
      simp only [State.markTask, hsame, hminute, if_false]
      exact reevaluate_tableOk t i i hlist fun h => absurd rfl h

theorem issueMark_timeBase (s : State) : s.issueMark.timeBase = s.timeBase.mark s.now := by
  unfold State.issueMark
  have htaken : s.takeOrder.2.timeBase = s.timeBase ∧ s.takeOrder.2.now = s.now := by simp
  generalize s.takeOrder = r at htaken ⊢
  obtain ⟨o, u⟩ := r
  obtain ⟨htime, hnow⟩ := htaken
  refine (foldl_keeps State.timeBase _ (fun _ _ => by simp) _ _).trans ?_
  simp only at htime hnow
  simp [htime, hnow]

theorem setTimeTask_tableOk {b : Bool} (task : Task) {i : ZoneId} (h : tableOk s.minute (s.tables.get i)) :
    tableOk (s.setTimeTask b task).minute ((s.setTimeTask b task).tables.get i) := by
  cases task with
  | zone z => exact h
  | table z => exact reevaluate_tableOk s z i (tableOk_iff.mp h).1 fun _ => h
  | grants => exact h
  | floor st =>
    simp only [State.setTimeTask]
    split
    · simpa [State.minute] using h
    · exact h

theorem setTimeTask_segments {b : Bool} (task : Task) (i : ZoneId) :
    ((s.setTimeTask b task).tables.get i).segments = (s.tables.get i).segments := by
  cases task with
  | zone z => rfl
  | table z =>
    simp only [State.setTimeTask, reevaluate_tables, Bank8.get_set]
    split
    · next h => rw [h]
    · rfl
  | grants => rfl
  | floor st =>
    simp only [State.setTimeTask]
    split <;> simp

/-- Every SET TIME that is taken has every table re-evaluate (log entry 16). -/
theorem tablesOk_takeTime (time : Nat) (hs : tablesOk s) : tablesOk (s.takeTime time) := by
  unfold State.takeTime
  have htables : s.takeOrder.2.tables = s.tables := by simp
  generalize s.takeOrder = r at htables ⊢
  obtain ⟨o, u⟩ := r
  dsimp only at htables ⊢
  intro i
  refine foldl_establishes (P := fun t => listOk (t.tables.get i).segments)
    (Q := fun t => tableOk t.minute (t.tables.get i)) (mem_sequence o (.table i)) ?_ ?_ ?_
    fun t task ht => setTimeTask_tableOk task ht
  · have hkept : ((u.onTimeBase fun t => { t with
        timeOfDay := time, state := if decide (u.timeBase.state = .unset) then .free else t.state }).timeEvent
          .set).tables = s.tables := htables
    rw [hkept]
    exact (tableOk_iff.mp (hs i)).1
  · intro t task hlist
    rwa [setTimeTask_segments]
  · exact fun t hlist => reevaluate_tableOk t i i hlist fun h => absurd rfl h

theorem takeTime_timeBase (s : State) (time : Nat) :
    (s.takeTime time).timeBase = { s.timeBase with
      timeOfDay := time
      state := if decide (s.timeBase.state = .unset) then .free else s.timeBase.state
      lastEvent := some .set } := by
  unfold State.takeTime
  have htaken : s.takeOrder.2.timeBase = s.timeBase := by simp
  generalize s.takeOrder = r at htaken ⊢
  obtain ⟨o, u⟩ := r
  refine (foldl_keeps State.timeBase _ (fun _ _ => by simp) _ _).trans ?_
  simp only at htaken
  simp [State.timeEvent, htaken]

theorem timeRefusal_none {time : Nat} (h : timeRefusal s time = none) : time < 86400 := by
  unfold timeRefusal at h
  split at h
  · cases h
  · next hlt => exact Nat.not_le.mp hlt

theorem timeBaseOk_takeTime {time : Nat} (htime : time < 86400) (hs : timeBaseOk s.timeBase) :
    timeBaseOk (s.takeTime time).timeBase := by
  obtain ⟨htag, -, hcount, -, hlocked, hnone⟩ := hs
  rw [takeTime_timeBase]
  cases hstate : s.timeBase.state <;> simp_all [timeBaseOk]

end

/-! ## Commands and steps -/

/-- The time base and the tables are sound. -/
def TimeSound (s : State) : Prop := timeBaseOk s.timeBase ∧ tablesOk s

section
variable {s t : State}

theorem TimeSound.framed (hs : TimeSound s) (htime : t.timeBase = s.timeBase) (htables : t.tables = s.tables) :
    TimeSound t := by
  obtain ⟨hok, htablesOk⟩ := hs
  exact ⟨htime ▸ hok, tablesOk_congr htables (by simp only [State.minute, htime]) htablesOk⟩

theorem TimeSound.clockMoved (hs : TimeSound s) (h : ClockMoved s t) : TimeSound t := by
  obtain ⟨u, hu, ht⟩ := h
  obtain ⟨hok, htablesOk⟩ := hs
  obtain ⟨-, htables, -⟩ := hu.frame
  have hset : TimeSound u := ⟨hu.sound hok, tablesOk_congr htables hu.minute htablesOk⟩
  rcases ht with rfl | rfl
  · exact hset
  · exact ⟨issueMark_timeBase u ▸ mark_timeBaseOk hset.1 _, tablesOk_issueMark hset.2⟩

theorem TimeSound.store (hs : TimeSound s) (z : ZoneId) {f : List Segment → List Segment}
    (hf : listOk (f (s.tables.get z).segments)) :
    TimeSound ((s.onTable z fun t => { t with segments := f t.segments }).reevaluate z) := by
  obtain ⟨hok, htables⟩ := hs
  exact ⟨by simpa using hok, tablesOk_store z hf htables⟩

theorem timeSound_reset : TimeSound State.reset := ⟨(by decide : timeOk State.reset), by decide⟩

/-- Every change keeps the time base and the schedules sound. -/
theorem Change.keeps_timeSound (h : Change s t) (hs : TimeSound s) : TimeSound t := by
  have hlist : ∀ z, listOk (s.tables.get z).segments := fun z => (tableOk_iff.mp (hs.2 z)).1
  cases h
  case expectedPoint => exact hs.clockMoved (expectedPoint_clockMoved s)
  case pulse m => exact hs.clockMoved (pulseAt_clockMoved s m)
  case windowEnd => exact hs.clockMoved (windowEnd_clockMoved s)
  case lockLost => exact hs.clockMoved (lockLost_clockMoved s)
  case toInternal h => exact hs.clockMoved (toInternal_clockMoved s)
  case toPps h => exact hs.clockMoved (toPps_clockMoved s)
  case setTime time h =>
    exact ⟨timeBaseOk_takeTime (timeRefusal_none h) hs.1, tablesOk_takeTime time hs.2⟩
  case insertSegment z f h =>
    obtain ⟨hroom, hnew⟩ := insertRefusal_none h
    exact hs.store z (f := placeSegment (insertedSegment f)) (listOk_place (hlist z) (segmentOk_inserted f) hroom hnew)
  case editSegment z f g hg h =>
    exact hs.store z (f := List.map fun x => if x.start = f.start then editedSegment f x else x)
      (listOk_edit (hlist z) f f.start)
  case deleteSegment z start hstart hmode =>
    exact hs.store z (f := List.filter fun x => decide (x.start ≠ start)) (listOk_delete (hlist z) hstart)
  all_goals exact hs.framed (by simp) (by simp)

end

/-- Settles O57: each table keeps its order, and is re-evaluated with every change of its list or of the minute. -/
theorem timeAndTablesStaySound : Obligations.TimeAndTablesStaySound := by
  unfold Obligations.TimeAndTablesStaySound
  intro s t htime htables hstep
  refine step_keeps (P := TimeSound) (fun honly hs => ?_) (fun _ hs => hs.framed rfl rfl)
    (fun _ => timeSound_reset.framed rfl rfl) (fun hchange => hchange.keeps_timeSound) hstep ⟨htime, htables⟩
  obtain ⟨k, r, -, rfl⟩ := honly
  exact hs.framed rfl rfl

end Sys2Proof.Machine
end

section
/-! PROOFS. The curfew unit under its own operations (R113 to R118, R121 to R123): an equation for each case of joining
and leaving a set and of an onset, and the ties of one stage's items (`tied`), which every operation keeps. -/

namespace Sys2Proof.Machine

/-! ## Sets of zones -/

theorem noZone_iff {b : Bank8 Bool} : noZone b = true ↔ ∀ z, b.get z = false := by
  constructor
  · intro h z
    simp only [noZone, Bool.not_eq_true', Bool.or_eq_false_iff] at h
    obtain ⟨⟨⟨⟨⟨⟨⟨h0, h1⟩, h2⟩, h3⟩, h4⟩, h5⟩, h6⟩, h7⟩ := h
    fin_cases z <;> assumption
  · intro h
    simp only [noZone, Bool.not_eq_true', Bool.or_eq_false_iff]
    exact ⟨⟨⟨⟨⟨⟨⟨h 0, h 1⟩, h 2⟩, h 3⟩, h 4⟩, h 5⟩, h 6⟩, h 7⟩

theorem noZone_set_true (b : Bank8 Bool) (z : ZoneId) : noZone (b.set z true) = false := by
  rw [← Bool.not_eq_true, noZone_iff, not_forall]
  exact ⟨z, by simp⟩

theorem noZone_set_false {b : Bank8 Bool} (h : noZone b = true) (z : ZoneId) : noZone (b.set z false) = true := by
  rw [noZone_iff] at h ⊢
  intro i
  rw [Bank8.get_set]
  split
  · rfl
  · exact h i

/-! ## One equation for each case (R114 to R116, R122) -/

section
variable (s : State) (st : StageId)

theorem endSoonTest_curfew_modify :
    (s.endSoonTest st).curfew = s.curfew.modify st fun c =>
      { c with endSoon := c.endSoon || (c.grant.isRunning && decide (secondsLeft s st ≤ 60)) } := by
  refine Bank4.eq_of_get fun i => ?_
  simp only [State.endSoonTest]
  by_cases hi : i = st
  · subst hi
    split
    · next h =>
      obtain ⟨⟨hrunning, hleft⟩, -⟩ : ((s.curfew.get i).grant.isRunning = true ∧ secondsLeft s i ≤ 60) ∧
          (s.curfew.get i).endSoon = false := by simpa using h
      simp [hrunning, hleft]
    · next h =>
      have hsame : ∀ a b e : Bool, (a && b && !e) = false → (e || (a && b)) = e := by decide
      rw [Bank4.get_modify_self, hsame _ _ _ (Bool.not_eq_true _ ▸ h)]
  · split <;> simp [hi]

variable {s st} {z : ZoneId}

/-- A zone joins a set that holds a zone already. -/
theorem zoneJoins_of_held (h : noZone (s.curfew.get st).zones = false) :
    s.zoneJoins z st = s.onCurfew st fun c => { c with zones := c.zones.set z true } := by
  simp [State.zoneJoins, h]

/-- A zone joins an empty set: the stage's onset. -/
theorem zoneJoins_of_onset (h : noZone (s.curfew.get st).zones = true) :
    s.zoneJoins z st = (s.onCurfew st fun c => { c with zones := c.zones.set z true }).stageOnset st := by
  simp [State.zoneJoins, h]

theorem stageOnset_of_none (h : (s.curfew.get st).grant = .none) :
    s.stageOnset st = (s.onCurfew st fun c => { c with onsetTag := some s.timeBase.tag }).curfewFalls st := by
  simp [State.stageOnset, h]

theorem stageOnset_of_booked {m : Nat} (h : (s.curfew.get st).grant = .booked m) :
    s.stageOnset st = ((s.onCurfew st fun c => { c with
      onsetTag := some s.timeBase.tag
      grant := .running m (tagPlus s.timeBase.tag (60 * m)) }).endSoonTest st).raiseOfficer .encore := by
  simp [State.stageOnset, h, State.onCurfew, Bank4.modify]

theorem stageOnset_of_running {m e : Nat} (h : (s.curfew.get st).grant = .running m e) :
    s.stageOnset st = s.onCurfew st fun c => { c with onsetTag := some s.timeBase.tag } := by
  simp [State.stageOnset, h]

/-- A zone leaves a set that stays as full or as empty as it was. -/
theorem zoneLeaves_of_stays
    (h : noZone (s.curfew.get st).zones = true ∨ noZone ((s.curfew.get st).zones.set z false) = false) :
    s.zoneLeaves z st = s.onCurfew st fun c => { c with zones := c.zones.set z false } := by
  rcases h with h | h <;> simp [State.zoneLeaves, h]

/-- The last zone leaves a set: the stage's curfew end. -/
theorem zoneLeaves_of_end (hheld : noZone (s.curfew.get st).zones = false)
    (hempty : noZone ((s.curfew.get st).zones.set z false) = true) :
    s.zoneLeaves z st =
      (s.onCurfew st fun c => { c with zones := c.zones.set z false }).stageCurfewEnd st := by
  simp [State.zoneLeaves, hheld, hempty]

end

/-! ## The ties of one stage's items (R113, R115, R118, R121) -/

/-- A stage's curfew items agree with one another and with its reason CURFEW. -/
def tied (c : Curfew) (reason : Bool) : Prop :=
  c.onsetTag.isSome = !noZone c.zones ∧ c.total ≤ 15 ∧ grantOk c = true ∧
  reason = (!noZone c.zones && !c.grant.isRunning)

theorem curfewOk_iff {s : State} {st : StageId} :
    curfewOk s st ↔ (s.curfew.get st).zones = Bank8.ofFn (inCurfew s st) ∧
      tied (s.curfew.get st) (s.stages.get st).reasons.curfew := .rfl

section
variable {c : Curfew} {r : Bool}

theorem grantOk_none (hgrant : c.grant = .none) (hsoon : c.endSoon = false) : grantOk c = true := by
  simp [grantOk, hgrant, hsoon]

theorem grantOk_running {m e : Nat} (hgrant : c.grant = .running m e) (hm : 1 ≤ m) (he : e < 65536)
    (hzones : noZone c.zones = false) : grantOk c = true := by
  simp [grantOk, hgrant, hm, he, hzones]

/-- A booking waits for its onset, a running grant suspends a curfew (R119, R121). -/
theorem grantOk_cases (h : grantOk c = true) :
    (c.grant = .none → c.endSoon = false) ∧
    (∀ m, c.grant = .booked m → c.endSoon = false ∧ 1 ≤ m ∧ noZone c.zones = true) ∧
    (∀ m e, c.grant = .running m e → 1 ≤ m ∧ e < 65536 ∧ noZone c.zones = false) := by
  cases hgrant : c.grant <;> simp_all [grantOk]

theorem tied_endSoon (h : tied c r) {b : Bool} (hb : c.grant.isRunning = false → b = c.endSoon) :
    tied { c with endSoon := b } r := by
  obtain ⟨htag, htotal, hgrant, hreason⟩ := h
  refine ⟨htag, htotal, ?_, hreason⟩
  cases hg : c.grant <;> simp_all [grantOk, Grant.isRunning]

theorem tied_endGrant (h : tied c r) (hrunning : c.grant.isRunning = true) : tied c.endGrant true := by
  obtain ⟨htag, htotal, hgrant, -⟩ := h
  obtain ⟨m, e, hg⟩ : ∃ m e, c.grant = .running m e := by
    cases hg : c.grant <;> simp [hg, Grant.isRunning] at hrunning ⊢
  obtain ⟨-, -, hcases⟩ := grantOk_cases hgrant
  obtain ⟨-, -, hzones⟩ := hcases m e hg
  exact ⟨htag, htotal, rfl, by simp [Curfew.endGrant, hzones, Grant.isRunning]⟩

theorem tied_endBooking (h : tied c r) (hwaiting : c.grant.isRunning = false) (n : Nat) :
    tied { c.endGrant with total := c.total - n } r := by
  obtain ⟨htag, htotal, hgrant, hreason⟩ := h
  exact ⟨htag, (Nat.sub_le _ _).trans htotal, rfl, by rw [hreason, hwaiting]; rfl⟩

theorem tied_total (h : tied c r) {n : Nat} (hn : n ≤ 15) : tied { c with total := n } r := by
  obtain ⟨htag, -, hgrant, hreason⟩ := h
  exact ⟨htag, hn, hgrant, hreason⟩

end

/-- All the stages' items agree, and the pool keeps its bound (R118). -/
def TiedAll (s : State) : Prop :=
  s.pool ≤ 30 ∧ ∀ i, tied (s.curfew.get i) (s.stages.get i).reasons.curfew

section
variable {s t : State}

theorem TiedAll.congr (hs : TiedAll s) (hpool : t.pool = s.pool) (hcurfew : t.curfew = s.curfew)
    (hreasons : ∀ i, (t.stages.get i).reasons.curfew = (s.stages.get i).reasons.curfew) : TiedAll t := by
  obtain ⟨hbound, htied⟩ := hs
  refine ⟨hpool ▸ hbound, fun i => ?_⟩
  rw [hcurfew, hreasons]
  exact htied i

/-- An operation of one stage keeps all tied that ties this stage anew. -/
theorem TiedAll.one (hs : TiedAll s) (st : StageId) (hpool : t.pool ≤ 30)
    (hothers : ∀ i, i ≠ st → t.stages.get i = s.stages.get i ∧ t.curfew.get i = s.curfew.get i)
    (hst : tied (t.curfew.get st) (t.stages.get st).reasons.curfew) : TiedAll t := by
  obtain ⟨-, htied⟩ := hs
  refine ⟨hpool, fun i => ?_⟩
  by_cases hi : i = st
  · exact hi ▸ hst
  · obtain ⟨hstage, hcurfew⟩ := hothers i hi
    rw [hstage, hcurfew]
    exact htied i

theorem TiedAll.onCurfew (hs : TiedAll s) {st : StageId} {f : Curfew → Curfew}
    (hf : tied (f (s.curfew.get st)) (s.stages.get st).reasons.curfew) : TiedAll (s.onCurfew st f) :=
  hs.one st hs.1 (fun i hi => by simp [hi]) (by simpa using hf)

theorem TiedAll.endSoonTest (hs : TiedAll s) (st : StageId) : TiedAll (s.endSoonTest st) := by
  refine hs.one st (by simpa using hs.1) (fun i hi => by simp [endSoonTest_curfew_modify, hi]) ?_
  have hstages : (s.endSoonTest st).stages = s.stages := by simp
  rw [endSoonTest_curfew_modify, Bank4.get_modify_self, hstages]
  exact tied_endSoon (hs.2 st) fun h => by simp [h]

theorem TiedAll.endGrantInCurfew (hs : TiedAll s) {st : StageId} (h : (s.curfew.get st).grant.isRunning = true) :
    TiedAll (s.endGrantInCurfew st) := by
  refine hs.one st (by simpa using hs.1) (fun i hi => ?_) ?_
  · simp [State.endGrantInCurfew, State.curfewFalls, hi]
  · simpa [State.endGrantInCurfew, State.curfewFalls] using tied_endGrant (hs.2 st) h

/-- A zone joins a stage's set: an onset starts a booking, or brings the stage into curfew (R114, R115). -/
theorem TiedAll.zoneJoins (hs : TiedAll s) (z : ZoneId) (st : StageId) : TiedAll (s.zoneJoins z st) := by
  obtain ⟨htag, htotal, hgrant, hreason⟩ := hs.2 st
  obtain ⟨hnone, hbooked, hrunning⟩ := grantOk_cases hgrant
  have hheld := noZone_set_true (s.curfew.get st).zones z
  cases hempty : noZone (s.curfew.get st).zones with
  | false =>
    rw [zoneJoins_of_held hempty]
    refine hs.onCurfew ⟨by simpa [hempty, hheld] using htag, htotal, ?_, by simpa [hempty, hheld] using hreason⟩
    cases hg : (s.curfew.get st).grant with
    | none => exact grantOk_none rfl (hnone hg)
    | booked m =>
      obtain ⟨-, -, hno⟩ := hbooked m hg
      simp [hempty] at hno
    | running m e =>
      obtain ⟨hm, he, -⟩ := hrunning m e hg
      exact grantOk_running rfl hm he hheld
  | true =>
    rw [zoneJoins_of_onset hempty]
    cases hg : (s.curfew.get st).grant with
    | none =>
      rw [stageOnset_of_none (by simpa using hg)]
      refine hs.one st (by simpa using hs.1) (fun i hi => by simp [State.curfewFalls, hi]) ?_
      simpa [State.curfewFalls, tied, hheld, htotal, hg, Grant.isRunning, grantOk] using hnone hg
    | booked m =>
      obtain ⟨hsoon, hm, -⟩ := hbooked m hg
      rw [stageOnset_of_booked (m := m) (by simpa using hg)]
      refine TiedAll.congr (s := State.endSoonTest st _) (TiedAll.endSoonTest (hs.one st ?_ ?_ ?_) st) rfl rfl fun _ => rfl
      · exact hs.1
      · exact fun i hi => by simp [hi]
      · simpa [tied, hheld, htotal, grantOk, Grant.isRunning, hm, tagPlus_lt, hempty] using hreason
    | running m e =>
      obtain ⟨-, -, hno⟩ := hrunning m e hg
      simp [hempty] at hno

/-- A zone leaves a stage's set: the last one ends the stage's curfew and a grant that runs in it (R114, R116). -/
theorem TiedAll.zoneLeaves (hs : TiedAll s) (z : ZoneId) (st : StageId) : TiedAll (s.zoneLeaves z st) := by
  obtain ⟨htag, htotal, hgrant, hreason⟩ := hs.2 st
  obtain ⟨hnone, hbooked, hrunning⟩ := grantOk_cases hgrant
  by_cases hstays : noZone (s.curfew.get st).zones = true ∨ noZone ((s.curfew.get st).zones.set z false) = false
  · rw [zoneLeaves_of_stays hstays]
    have hsame : noZone ((s.curfew.get st).zones.set z false) = noZone (s.curfew.get st).zones := by
      rcases hstays with h | h
      · rw [h, noZone_set_false h]
      · rw [h]
        by_contra hne
        simp [noZone_set_false (by simpa using Ne.symm hne)] at h
    refine hs.onCurfew ⟨by rwa [hsame], htotal, ?_, by rwa [hsame]⟩
    cases hg : (s.curfew.get st).grant with
    | none => exact grantOk_none rfl (hnone hg)
    | booked m =>
      obtain ⟨hsoon, hm, hno⟩ := hbooked m hg
      simp [grantOk, hsoon, hm, hsame, hno]
    | running m e =>
      obtain ⟨hm, he, hheld⟩ := hrunning m e hg
      exact grantOk_running rfl hm he (hsame.trans hheld)
  · obtain ⟨hheld, hempty⟩ : noZone (s.curfew.get st).zones = false ∧
        noZone ((s.curfew.get st).zones.set z false) = true := by simpa using hstays
    rw [zoneLeaves_of_end hheld hempty]
    refine hs.one st (by simpa using hs.1) (fun i hi => by simp [State.stageCurfewEnd, hi]) ?_
    cases hg : (s.curfew.get st).grant with
    | none =>
      simpa [State.stageCurfewEnd, tied, hg, Grant.isRunning, hempty, htotal, grantOk] using hnone hg
    | booked m =>
      obtain ⟨-, -, hno⟩ := hbooked m hg
      simp [hheld] at hno
    | running m e =>
      simp [State.stageCurfewEnd, tied, hg, Grant.isRunning, Curfew.endGrant, hempty, htotal, grantOk]

theorem TiedAll.eachStage {f : StageId → State → State} (hf : ∀ st s, TiedAll s → TiedAll (f st s)) (hs : TiedAll s) :
    TiedAll (s.eachStage f) :=
  List.foldlRecOn allStages _ hs fun _ ht st _ => hf st _ ht

theorem TiedAll.zoneOnset (hs : TiedAll s) (z : ZoneId) : TiedAll (s.zoneOnset z) := by
  refine TiedAll.eachStage (fun st s hs => ?_) hs
  split
  · exact hs.zoneJoins z st
  · exact hs

theorem TiedAll.zoneEnd (hs : TiedAll s) (z : ZoneId) : TiedAll (s.zoneEnd z) :=
  TiedAll.eachStage (fun st _ hs => hs.zoneLeaves z st) hs

theorem TiedAll.raiseOfficer (hs : TiedAll s) (n : OfficerNotice) : TiedAll (s.raiseOfficer n) := hs

theorem TiedAll.raiseDesk (hs : TiedAll s) (st : StageId) (n : DeskNotice) : TiedAll (s.raiseDesk st n) := hs

theorem TiedAll.soonTest (hs : TiedAll s) (st : StageId) : TiedAll (s.soonTest st) := by
  unfold State.soonTest
  split
  · split
    · exact (hs.onCurfew (hs.2 st)).raiseDesk st _
    · exact hs
  · exact hs

/-- A booking ends with its minutes returned (R118, R122, R123). -/
theorem TiedAll.endBooking (hs : TiedAll s) {st : StageId} {n : Nat} (h : (s.curfew.get st).grant.isRunning = false)
    (hpool : t.pool = min 30 (s.pool + n)) (hstages : t.stages = s.stages)
    (hcurfew : t.curfew = s.curfew.set st { (s.curfew.get st).endGrant with total := (s.curfew.get st).total - n }) :
    TiedAll t := by
  refine hs.one st (hpool ▸ min_le_left _ _) (fun i hi => by simp [hstages, hcurfew, hi]) ?_
  rw [hcurfew, hstages, Bank4.get_set_self]
  exact tied_endBooking (hs.2 st) h n

theorem TiedAll.bookingTest (hs : TiedAll s) (st : StageId) : TiedAll (s.bookingTest st) := by
  unfold State.bookingTest
  split
  · next m hm =>
    split
    · exact hs.endBooking (st := st) (n := m) (by simp [hm, Grant.isRunning]) rfl rfl
        (by simp [State.returnMinutes, Bank4.modify, Curfew.endGrant])
    · exact hs
  · exact hs

theorem TiedAll.recomputeOnsets (hs : TiedAll s) : TiedAll s.recomputeOnsets :=
  TiedAll.eachStage (fun st _ hs => (hs.bookingTest st).soonTest st) hs

theorem TiedAll.reevaluate (hs : TiedAll s) (z : ZoneId) : TiedAll (s.reevaluate z) := by
  simp only [State.reevaluate]
  split
  · exact (TiedAll.zoneOnset (s := s.onTable z _) hs z).recomputeOnsets
  · exact (TiedAll.zoneEnd (s := s.onTable z _) hs z).recomputeOnsets
  · exact TiedAll.recomputeOnsets (s := s.onTable z _) hs

theorem TiedAll.grantMarks (hs : TiedAll s) : TiedAll s.grantMarks := by
  refine TiedAll.eachStage (fun st s hs => ?_) hs
  unfold State.grantMark
  split
  · next m e hm =>
    split
    · exact hs.endGrantInCurfew (by simp [hm, Grant.isRunning])
    · exact hs.endSoonTest st
  · exact hs

theorem TiedAll.couplingMove (hs : TiedAll s) (st : StageId) (z : ZoneId) : TiedAll (s.couplingMove st z) := by
  unfold State.couplingMove
  split
  · split
    · exact hs.zoneJoins z st
    · exact hs
  · exact hs.zoneLeaves z st

/-! ## Encore requests (R119 to R123, R126) -/

theorem TiedAll.serveEncoreEnd (hs : TiedAll s) (st : StageId) : TiedAll (s.serveEncoreEnd st).2.2 := by
  unfold State.serveEncoreEnd
  split
  · exact hs
  · next m hm =>
    exact hs.endBooking (st := st) (n := m) (by simp [hm, Grant.isRunning]) rfl rfl
      (by simp [State.returnMinutes, Bank4.modify, Curfew.endGrant])
  · next m e hm =>
    have hreturned : TiedAll (s.returnMinutes st (secondsLeft s st / 60)) := by
      refine hs.one st (min_le_left _ _) (fun i hi => by simp [State.returnMinutes, hi]) ?_
      simpa [State.returnMinutes] using tied_total (hs.2 st) ((Nat.sub_le _ _).trans (hs.2 st).2.1)
    exact hreturned.endGrantInCurfew (by simp [State.returnMinutes, hm, Grant.isRunning])

theorem TiedAll.endShowGrants (hs : TiedAll s) : TiedAll (s.eachStage State.endShowGrant) := by
  refine TiedAll.eachStage (fun st s hs => ?_) hs
  unfold State.endShowGrant
  split
  · exact hs
  · next m hm =>
    exact (hs.onCurfew (tied_endBooking (hs.2 st) (by simp [hm, Grant.isRunning]) 0)).raiseOfficer .encore
  · next m e hm => exact hs.endGrantInCurfew (by simp [hm, Grant.isRunning])

/-- What a request that is granted has been judged by: minutes to draw within the stage's bound (R119, R120). -/
theorem judgeEncore_grants {st : StageId} {m : Nat} (hm : 1 ≤ m) {w : EncoreCase} {g : Nat}
    (h : judgeEncore s st m = .inr (w, g)) :
    encoreWindow s st = some w ∧ 1 ≤ g ∧ (s.curfew.get st).total + g ≤ 15 := by
  unfold judgeEncore at h
  split at h
  · cases h
  · next w' hw =>
    dsimp only at h
    split at h
    · cases h
    · next htotal =>
      have htotal : (s.curfew.get st).total < 15 := Nat.not_le.mp htotal
      split at h
      · cases h
      · split at h
        · cases h
        · next hpool =>
          split at h
          · split at h
            · cases h
            · next hg =>
              cases h
              refine ⟨hw, Nat.pos_of_ne_zero hg, ?_⟩
              simp only [Config.maxTotal]
              omega
          · cases h
            refine ⟨hw, ?_, ?_⟩ <;> simp only [Config.maxTotal] <;> omega

theorem encoreWindow_inv {st : StageId} {w : EncoreCase} (h : encoreWindow s st = some w) :
    (w = .before → (s.curfew.get st).grant.isRunning = false ∧ noZone (s.curfew.get st).zones = true) ∧
    (w = .late → (s.curfew.get st).grant.isRunning = false ∧ (s.stages.get st).reasons.curfew = true) ∧
    (w = .extension → (s.curfew.get st).grant.isRunning = true) := by
  rw [encoreWindow_eq] at h
  split at h
  · next hruns => cases h; simp [hruns]
  · next hstill =>
    have hstill : (s.curfew.get st).grant.isRunning = false := by simpa using hstill
    split at h
    · next hbefore =>
      simp only [opensBefore, Bool.and_eq_true] at hbefore
      obtain ⟨⟨hempty, -⟩, -⟩ := hbefore
      cases h
      simp [hstill, hempty]
    · split at h
      · next hlate =>
        simp only [opensLate, Bool.and_eq_true] at hlate
        obtain ⟨⟨⟨hreason, -⟩, -⟩, -⟩ := hlate
        cases h
        simp [hstill, hreason]
      · cases h

/-- A grant's start keeps all tied, where the window has let it in (R119, R121). -/
theorem TiedAll.startGrant (hs : TiedAll s) {st : StageId} {w : EncoreCase} {g : Nat}
    (hw : encoreWindow s st = some w) (hg : 1 ≤ g) (htotal : (s.curfew.get st).total + g ≤ 15) :
    TiedAll ((s.drawMinutes st g).startGrant st w g) := by
  obtain ⟨htag, -, hgrant, hreason⟩ := hs.2 st
  obtain ⟨hnone, hbooked, hrunning⟩ := grantOk_cases hgrant
  obtain ⟨hbefore, hlate, hextension⟩ := encoreWindow_inv hw
  have hpool : s.pool - g ≤ 30 := (Nat.sub_le _ _).trans hs.1
  cases w with
  | before =>
    obtain ⟨hstill, hempty⟩ := hbefore rfl
    rw [startGrant_before]
    have hsoon : (s.curfew.get st).endSoon = false := by
      cases hc : (s.curfew.get st).grant with
      | none => exact hnone hc
      | booked m => exact (hbooked m hc).1
      | running m e => simp [hc, Grant.isRunning] at hstill
    refine TiedAll.raiseOfficer (hs.one st hpool (fun i hi => by simp [State.withGrant, hi]) ?_) .encore
    refine ⟨by simpa [State.withGrant] using htag, by simpa [State.withGrant] using htotal, ?_, ?_⟩
    · simp [State.withGrant, grantOk, hsoon, hempty]
      omega
    · simpa [State.withGrant, hempty] using hreason
  | late =>
    obtain ⟨hstill, hcurfew⟩ := hlate rfl
    have hheld : noZone (s.curfew.get st).zones = false := by simpa [hcurfew, hstill] using hreason
    rw [startGrant_late]
    refine TiedAll.raiseOfficer (TiedAll.endSoonTest ?_ st) .encore
    refine hs.one st (by simpa [State.lateStart, State.withGrant] using hpool)
      (fun i hi => by simp [State.lateStart, State.withGrant, hi]) ?_
    rw [lateStart_curfew, Bank4.get_set_self]
    refine ⟨htag, htotal, grantOk_running rfl hg (tagPlus_lt _ _) hheld, ?_⟩
    simp [State.lateStart, Grant.isRunning]
  | extension =>
    obtain ⟨m, e, hc⟩ : ∃ m e, (s.curfew.get st).grant = .running m e := by
      have hruns := hextension rfl
      cases hc : (s.curfew.get st).grant <;> simp [hc, Grant.isRunning] at hruns ⊢
    obtain ⟨hm, -, hheld⟩ := hrunning m e hc
    rw [startGrant_extension s st g hc]
    refine TiedAll.raiseOfficer (TiedAll.endSoonTest ?_ st) .encore
    refine hs.one st hpool (fun i hi => by simp [State.extendGrant, State.withGrant, hi]) ?_
    simp only [State.extendGrant, State.withGrant, Bank4.get_set_self]
    refine ⟨htag, htotal, grantOk_running rfl (hm.trans (Nat.le_add_right _ _)) (tagPlus_lt _ _) hheld, ?_⟩
    simpa [Grant.isRunning, hc] using hreason

theorem TiedAll.serveEncoreAsk (hs : TiedAll s) (st : StageId) {m : Nat} (hm : 1 ≤ m) :
    TiedAll (s.serveEncoreAsk st m).2.2 := by
  unfold State.serveEncoreAsk
  split
  · exact hs
  · next w g hgranted =>
    obtain ⟨hw, hg, htotal⟩ := judgeEncore_grants hm hgranted
    exact hs.startGrant hw hg htotal

end

end Sys2Proof.Machine
end

section
/-! PROOFS. The curfew zone sets under every change (R113, R114), and O59. -/

namespace Sys2Proof.Machine

/-- Every stage's curfew zone set holds exactly the enabled, coupled zones in a CURFEW segment (R113). -/
def SetsOk (s : State) : Prop := ∀ i, (s.curfew.get i).zones = Bank8.ofFn (inCurfew s i)

/-- The curfew unit's part of the invariant. -/
def CurfewSound (s : State) : Prop := TiedAll s ∧ SetsOk s

theorem curfewSound_iff {s : State} : CurfewSound s ↔ curfewsOk s := by
  constructor
  · rintro ⟨⟨hpool, htied⟩, hsets⟩
    exact ⟨hpool, fun i => curfewOk_iff.mpr ⟨hsets i, htied i⟩⟩
  · rintro ⟨hpool, hall⟩
    exact ⟨⟨hpool, fun i => (curfewOk_iff.mp (hall i)).2⟩, fun i => (curfewOk_iff.mp (hall i)).1⟩

section
variable {s t : State}

theorem inCurfew_congr {i : StageId} {z : ZoneId} (henabled : (t.zones.get z).enabled = (s.zones.get z).enabled)
    (hcoupled : coupled t i z = coupled s i z)
    (hkind : (t.tables.get z).inForce.kind.isCurfew = (s.tables.get z).inForce.kind.isCurfew) :
    inCurfew t i z = inCurfew s i z := by
  have hreaches : reaches t i z = reaches s i z := congrArg₂ _ henabled hcoupled
  simp only [inCurfew, hreaches, hkind]

/-- The sets hold zone by zone. -/
theorem setsOk_iff : SetsOk s ↔ ∀ i z, (s.curfew.get i).zones.get z = inCurfew s i z := by
  constructor
  · intro h i z
    rw [h i, Bank8.get_ofFn]
  · intro h i
    exact Bank8.eq_of_get fun z => by rw [h i z, Bank8.get_ofFn]

theorem SetsOk.framed (hs : SetsOk s) (hsets : ∀ i, (t.curfew.get i).zones = (s.curfew.get i).zones)
    (hcoupling : ∀ i, (t.stages.get i).record.coupling = (s.stages.get i).record.coupling)
    (henabled : ∀ z, (t.zones.get z).enabled = (s.zones.get z).enabled) (htables : t.tables = s.tables) : SetsOk t := by
  rw [setsOk_iff] at hs ⊢
  intro i z
  rw [hsets, hs, inCurfew_congr (henabled z) (by simp only [coupled, hcoupling]) (by rw [htables])]

theorem CurfewSound.framed (hs : CurfewSound s) (hpool : t.pool = s.pool) (hcurfew : t.curfew = s.curfew)
    (hstages : ∀ i, (t.stages.get i).reasons.curfew = (s.stages.get i).reasons.curfew ∧
      (t.stages.get i).record.coupling = (s.stages.get i).record.coupling)
    (henabled : ∀ z, (t.zones.get z).enabled = (s.zones.get z).enabled) (htables : t.tables = s.tables) :
    CurfewSound t :=
  ⟨hs.1.congr hpool hcurfew fun i => (hstages i).1,
    hs.2.framed (fun i => by rw [hcurfew]) (fun i => (hstages i).2) henabled htables⟩

/-! ## The sets under the operations that move zones (R114) -/

theorem SetsOk.reevaluate (hs : SetsOk s) (z : ZoneId) : SetsOk (s.reevaluate z) := by
  rw [setsOk_iff] at hs ⊢
  intro i x
  have hin : inCurfew (s.reevaluate z) i x = (reaches s i x &&
      if x = z then (segmentAt (s.tables.get z).segments s.minute).kind.isCurfew
      else (s.tables.get x).inForce.kind.isCurfew) := by
    have htable : ((s.reevaluate z).tables.get x).inForce.kind.isCurfew =
        if x = z then (segmentAt (s.tables.get z).segments s.minute).kind.isCurfew
        else (s.tables.get x).inForce.kind.isCurfew := by
      rw [reevaluate_tables, Bank8.get_set]
      split <;> rfl
    simp only [inCurfew, htable, reaches, reevaluate_record]
    simp
  have hbefore := hs i x
  rw [hin]
  simp only [State.reevaluate, (recomputeOnsets_sets _ _).1]
  by_cases hx : x = z
  · subst hx
    rw [if_pos rfl]
    split
    · next hold hnew =>
      rw [zoneOnset_zones, hnew, Bool.and_true]
      have habsent : (s.curfew.get i).zones.get x = false := by simp [hbefore, inCurfew, hold]
      have hreach : reaches (s.onTable x fun t => { t with inForce := segmentAt (s.tables.get x).segments s.minute }) i x =
        reaches s i x := rfl
      rw [hreach]
      cases reaches s i x <;> simp [habsent]
    · next hold hnew => simp [zoneEnd_zones, hnew]
    · next hnoOnset hnoEnd =>
      have hsame : (s.tables.get x).inForce.kind.isCurfew =
          (segmentAt (s.tables.get x).segments s.minute).kind.isCurfew := by
        cases hold : (s.tables.get x).inForce.kind.isCurfew <;>
          cases hnew : (segmentAt (s.tables.get x).segments s.minute).kind.isCurfew
        · rfl
        · exact absurd hnew (hnoOnset hold)
        · exact absurd hnew (hnoEnd hold)
        · rfl
      rw [← hsame]
      exact hbefore
  · rw [if_neg hx]
    split
    · rw [zoneOnset_zones]
      split <;> simpa [hx] using hbefore
    · rw [zoneEnd_zones, Bank8.get_set, if_neg hx]
      exact hbefore
    · exact hbefore

/-- A zone that counts from now on joins where its segment is CURFEW (R59, R114). -/
theorem setsOk_enabled (hs : SetsOk s) {z : ZoneId} (hz : (s.zones.get z).enabled = false)
    (hset : ∀ i x, (t.curfew.get i).zones.get x =
      if x = z ∧ (s.tables.get z).inForce.kind.isCurfew = true ∧ reaches t i z = true then true
      else (s.curfew.get i).zones.get x)
    (hothers : ∀ i x, x ≠ z → reaches t i x = reaches s i x) (htables : t.tables = s.tables) : SetsOk t := by
  rw [setsOk_iff] at hs ⊢
  intro i x
  rw [hset, hs]
  by_cases hx : x = z
  · subst hx
    simp only [inCurfew, htables, true_and]
    cases reaches t i x <;> cases hk : (s.tables.get x).inForce.kind.isCurfew <;> simp [reaches, hz]
  · simp [hx, inCurfew, htables, hothers i x hx]

theorem SetsOk.enableZoneNow (hs : SetsOk s) {z : ZoneId} (hz : (s.zones.get z).enabled = false) :
    SetsOk (s.enableZoneNow z) := by
  have hreaches : ∀ i x, reaches (s.enableZoneNow z) i x =
      reaches (((s.onZone z Zone.enable).raiseOfficer .feedChange).recomputeTargets) i x := by
    intro i x
    simp only [reaches, State.enableZoneNow]
    split <;> simp
  refine setsOk_enabled (z := z) hs hz (fun i x => ?_) (fun i x hx => ?_) (by simp)
  · rw [hreaches]
    simp only [State.enableZoneNow, (recomputeOnsets_sets _ _).1]
    split
    · next hk =>
      have hk : (s.tables.get z).inForce.kind.isCurfew = true := by simpa using hk
      rw [zoneOnset_zones]
      split
      · next hreach => simp [hk, hreach, Bank8.get_set]
      · next hreach => simp [hreach]
    · next hk =>
      have hk : ¬(s.tables.get z).inForce.kind.isCurfew = true := by simpa using hk
      simp [hk]
  · rw [hreaches]
    simp [reaches, Bank8.modify, hx]

theorem stageLosesZone_zones (s : State) (z : ZoneId) (b : Bool) (st i : StageId) :
    ((s.stageLosesZone z b st).curfew.get i).zones =
      if i = st then (s.curfew.get i).zones.set z false else (s.curfew.get i).zones := by
  unfold State.stageLosesZone
  split <;> simp [zoneLeaves_zones]

/-- A disabled zone leaves every set (R60, R114). -/
theorem disableZoneNow_zones (s : State) (z : ZoneId) (i : StageId) :
    ((s.disableZoneNow z).curfew.get i).zones = (s.curfew.get i).zones.set z false := by
  unfold State.disableZoneNow
  have hcurfew : s.takeOrder.2.curfew = s.curfew := by simp
  generalize s.takeOrder = r at hcurfew ⊢
  obtain ⟨o, u⟩ := r
  dsimp only at hcurfew ⊢
  rw [(recomputeOnsets_sets _ _).1]
  refine eachStage_establishes (P := fun t => (t.curfew.get i).zones = (s.curfew.get i).zones)
    (Q := fun t => (t.curfew.get i).zones = (s.curfew.get i).zones.set z false) i (by simp [hcurfew]) ?_ ?_ ?_
  · intro j t hj ht
    rw [stageLosesZone_zones, if_neg hj.symm, ht]
  · intro t ht
    rw [stageLosesZone_zones, if_pos rfl, ht]
  · intro j t hj ht
    rw [stageLosesZone_zones, if_neg hj.symm, ht]

theorem disableZoneNow_record (s : State) (z : ZoneId) (i : StageId) :
    ((s.disableZoneNow z).stages.get i).record = (s.stages.get i).record := by
  unfold State.disableZoneNow
  have hstages : s.takeOrder.2.stages = s.stages := by simp
  generalize s.takeOrder = r at hstages ⊢
  obtain ⟨o, u⟩ := r
  dsimp only at hstages ⊢
  rw [(recomputeOnsets_frame _).2.2.2.2.2.1,
    eachStage_keeps (fun s => (s.stages.get i).record) _ (fun st s => by simp)]
  simp [hstages]

theorem disableZoneNow_accounts (s : State) (z : ZoneId) :
    (s.disableZoneNow z).zones = s.zones.modify z Zone.cleared := by
  unfold State.disableZoneNow
  have hzones : s.takeOrder.2.zones = s.zones := by simp
  generalize s.takeOrder = r at hzones ⊢
  obtain ⟨o, u⟩ := r
  dsimp only at hzones ⊢
  rw [(recomputeOnsets_frame _).2.2.2.2.1, eachStage_keeps State.zones _ (fun st s => by simp)]
  simp [hzones]

theorem SetsOk.disableZoneNow (hs : SetsOk s) (z : ZoneId) : SetsOk (s.disableZoneNow z) := by
  rw [setsOk_iff] at hs ⊢
  intro i x
  have hin : inCurfew (s.disableZoneNow z) i x = if x = z then false else inCurfew s i x := by
    simp only [inCurfew, reaches, disableZoneNow_record, disableZoneNow_accounts, Bank8.get_modify]
    split <;> simp [Zone.cleared, Zone.reset]
  rw [hin, disableZoneNow_zones, Bank8.get_set]
  split
  · rfl
  · exact hs i x

/-- A coupling that rises from 0 or falls to 0 moves the zone into or out of the stage's set (R90, R114). -/
theorem SetsOk.couplingMove {st : StageId} {z : ZoneId} (hs : ∀ i x, (i = st → x ≠ z) →
      (s.curfew.get i).zones.get x = inCurfew s i x)
    (hz : coupled s st z = true → (s.curfew.get st).zones.get z = false) : SetsOk (s.couplingMove st z) := by
  rw [setsOk_iff]
  intro i x
  have hin : inCurfew (s.couplingMove st z) i x = inCurfew s i x :=
    inCurfew_congr (by simp) (coupled_congr ((curfewMoved_couplingMove st z (.refl s.stages)) i).keeps.1 x) (by simp)
  rw [hin]
  unfold State.couplingMove
  by_cases hmoved : i = st ∧ x = z
  · obtain ⟨rfl, rfl⟩ := hmoved
    split
    · next hcoupled =>
      have hreach : inCurfew s i x =
          ((s.zones.get x).enabled && (s.tables.get x).inForce.kind.isCurfew) := by
        have hc : 0 < (s.stages.get i).record.coupling.get x := by simpa [coupled] using hcoupled
        simp [inCurfew, reaches, hc]
      rw [hreach]
      split
      · next hjoins => simp [zoneJoins_zones, hjoins]
      · next hstays => rw [hz hcoupled]; simpa using hstays
    · next huncoupled =>
      have hc : ¬0 < (s.stages.get i).record.coupling.get x := by simpa [coupled] using huncoupled
      simp [zoneLeaves_zones, inCurfew, reaches, hc]
  · have hkept := hs i x fun hi hx => hmoved ⟨hi, hx⟩
    split
    · split
      · rw [zoneJoins_zones]
        split
        · next hi =>
          have hx : x ≠ z := fun hx => hmoved ⟨hi, hx⟩
          simpa [hx] using hkept
        · exact hkept
      · exact hkept
    · rw [zoneLeaves_zones]
      split
      · next hi =>
        have hx : x ≠ z := fun hx => hmoved ⟨hi, hx⟩
        simpa [hx] using hkept
      · exact hkept

theorem CurfewSound.onStage (hs : CurfewSound s) {st : StageId} {f : Stage → Stage}
    (hreasons : (f (s.stages.get st)).reasons.curfew = (s.stages.get st).reasons.curfew)
    (hcoupling : (f (s.stages.get st)).record.coupling = (s.stages.get st).record.coupling) :
    CurfewSound (s.onStage st f) := by
  refine hs.framed rfl rfl (fun i => ?_) (fun _ => rfl) rfl
  rw [onStage_stages, Bank4.get_modify]
  split
  · next hi =>
    subst hi
    exact ⟨hreasons, hcoupling⟩
  · exact ⟨rfl, rfl⟩

theorem CurfewSound.changeStage (hs : CurfewSound s) {st : StageId} {f : Stage → Stage}
    (hreasons : (f (s.stages.get st)).reasons.curfew = (s.stages.get st).reasons.curfew)
    (hcoupling : (f (s.stages.get st)).record.coupling = (s.stages.get st).record.coupling) :
    CurfewSound (s.changeStage st f) :=
  (hs.onStage hreasons hcoupling).framed (by simp) (by simp) (fun i => by simp) (fun _ => by simp) (by simp)

theorem CurfewSound.recomputeTarget (hs : CurfewSound s) (st : StageId) : CurfewSound (s.recomputeTarget st) :=
  hs.framed (by simp) (by simp) (fun i => by simp) (fun _ => by simp) (by simp)

theorem CurfewSound.eachStage {f : StageId → State → State} (hf : ∀ st s, CurfewSound s → CurfewSound (f st s))
    (hs : CurfewSound s) : CurfewSound (s.eachStage f) :=
  List.foldlRecOn allStages _ hs fun _ ht st _ => hf st _ ht

theorem CurfewSound.recomputeTargets (hs : CurfewSound s) : CurfewSound s.recomputeTargets :=
  CurfewSound.eachStage (fun st _ hs => hs.recomputeTarget st) hs

theorem CurfewSound.closeToStages (hs : CurfewSound s) (z : ZoneId) (w : Bank4 Bool) (old new : Zone) :
    CurfewSound (s.closeToStages z w old new) := by
  unfold State.closeToStages
  split
  · refine CurfewSound.eachStage (fun st s hs => ?_) hs
    split
    · exact hs.recomputeTarget st
    · exact hs
  · exact hs

theorem CurfewSound.onZone (hs : CurfewSound s) {z : ZoneId} {f : Zone → Zone}
    (hf : (f (s.zones.get z)).enabled = (s.zones.get z).enabled) : CurfewSound (s.onZone z f) := by
  refine hs.framed rfl rfl (fun _ => ⟨rfl, rfl⟩) (fun i => ?_) rfl
  rw [onZone_zones, Bank8.get_modify]
  split
  · next hi =>
    subst hi
    exact hf
  · rfl

theorem CurfewSound.takeSent (hs : CurfewSound s) (c : CloseReport) : CurfewSound (s.takeSent c) :=
  hs.framed (by simp) (by simp) (fun i => by simp) (fun _ => by simp) (by simp)

theorem CurfewSound.closeNotices (hs : CurfewSound s) (z : ZoneId) (old new : Zone) :
    CurfewSound (s.closeNotices z old new) :=
  hs.framed (by simp) (by simp) (fun i => by simp) (fun _ => by simp) (by simp)

theorem CurfewSound.closeZone (hs : CurfewSound s) (z : ZoneId) (b : Bank4 Bool) (aw : Awaiting)
    (r : Option MeasurementRecord) : CurfewSound (s.closeZone z b aw r) :=
  CurfewSound.closeNotices (CurfewSound.closeToStages (CurfewSound.takeSent
    (CurfewSound.closeToStages (hs.onZone (f := fun _ => Zone.close _ _ _ _ _) (by simp)) _ _ _ _) _) _ _ _ _) _ _ _

end

end Sys2Proof.Machine
end

section
/-! PROOFS. The curfew unit under marks, replies and requests, and O59. -/

namespace Sys2Proof.Machine

section
variable {s t : State}

/-! ## Marks and the monitor loop -/

theorem CurfewSound.closingDeadline (hs : CurfewSound s) (z : ZoneId) (b : Bank4 Bool) (e : Nat) (m : Option Nat) :
    CurfewSound (s.closingDeadline z b e m) := by
  simp only [State.closingDeadline]
  split
  · refine CurfewSound.onZone ?_ rfl
    split
    · split
      · exact hs.closeZone z b _ none
      · exact hs
    · exact hs
  · exact hs

theorem CurfewSound.reevaluate (hs : CurfewSound s) (z : ZoneId) : CurfewSound (s.reevaluate z) :=
  ⟨hs.1.reevaluate z, hs.2.reevaluate z⟩

theorem endGrantInCurfew_sets (s : State) (st i : StageId) :
    ((s.endGrantInCurfew st).curfew.get i).zones = (s.curfew.get i).zones := by
  simp only [State.endGrantInCurfew, raiseOfficer_curfew, curfewFalls_frame, onCurfew_curfew, Bank4.get_modify]
  split <;> rfl

theorem grantMarks_sets (s : State) (i : StageId) : (s.grantMarks.curfew.get i).zones = (s.curfew.get i).zones := by
  refine eachStage_keeps (fun s => (s.curfew.get i).zones) _ (fun st s => ?_) s
  unfold State.grantMark
  split
  · split
    · exact endGrantInCurfew_sets s st i
    · simp
  · rfl

/-- What only moves the reason CURFEW of stages, and keeps the sets, the accounts and the tables, keeps the sets right. -/
theorem SetsOk.moved (hs : SetsOk s) (h : CurfewMoved s.stages t.stages)
    (hsets : ∀ i, (t.curfew.get i).zones = (s.curfew.get i).zones) (hframe : t.zones = s.zones ∧ t.tables = s.tables) :
    SetsOk t :=
  hs.framed hsets (fun i => by rw [(h i).keeps.1]) (fun z => by rw [hframe.1]) hframe.2

theorem CurfewSound.grantMarks (hs : CurfewSound s) : CurfewSound s.grantMarks :=
  ⟨hs.1.grantMarks, hs.2.moved (curfewMoved_grantMarks (.refl _)) (grantMarks_sets s) (by simp)⟩

theorem CurfewSound.markTask (hs : CurfewSound s) (o : Interleaving) (e : Nat) (m : Option Nat) (task : Task) :
    CurfewSound (s.markTask o e m task) := by
  cases task with
  | zone z => exact hs.closingDeadline z _ _ _
  | table z =>
    simp only [State.markTask]
    split
    · exact hs
    · exact hs.reevaluate z
  | grants => exact hs.grantMarks
  | floor st => exact hs

/-- What leaves stages, curfew unit, accounts and tables alone leaves the curfew unit sound. -/
theorem CurfewSound.kept (hs : CurfewSound s)
    (hframe : t.pool = s.pool ∧ t.curfew = s.curfew ∧ t.stages = s.stages ∧ t.zones = s.zones ∧ t.tables = s.tables) :
    CurfewSound t := by
  obtain ⟨hpool, hcurfew, hstages, hzones, htables⟩ := hframe
  exact hs.framed hpool hcurfew (fun i => by simp [hstages]) (fun _ => by rw [hzones]) htables

theorem CurfewSound.issueMark (hs : CurfewSound s) : CurfewSound s.issueMark := by
  unfold State.issueMark
  have htaken : CurfewSound s.takeOrder.2 := hs.kept (by simp)
  generalize s.takeOrder = r at htaken ⊢
  obtain ⟨o, u⟩ := r
  exact List.foldlRecOn o.sequence _ htaken fun t ht task _ => ht.markTask o _ _ task

theorem CurfewSound.clockMoved (hs : CurfewSound s) (h : ClockMoved s t) : CurfewSound t := by
  obtain ⟨u, hu, ht⟩ := h
  obtain ⟨-, htables, hzones, hstages, hpool, hcurfew, -⟩ := hu.frame
  have hset : CurfewSound u := hs.kept ⟨hpool, hcurfew, hstages, hzones, htables⟩
  rcases ht with rfl | rfl
  · exact hset
  · exact hset.issueMark

theorem CurfewSound.handRecord (hs : CurfewSound s) (a : SlotId) (r : MeasurementRecord) :
    CurfewSound (s.handRecord a r) := by
  simp only [State.handRecord]
  split
  · exact hs
  · split
    · exact CurfewSound.closeZone (hs.kept (by simp)) _ _ _ _
    · exact hs.kept (by simp)

theorem CurfewSound.acceptReply (hs : CurfewSound s) (t : Transaction) (r : Reply) :
    CurfewSound (s.acceptReply t r) := by
  unfold State.acceptReply
  split
  case h_5 => exact CurfewSound.handRecord (hs.kept (by simp)) _ _
  all_goals exact hs.kept (by simp)

theorem CurfewSound.arbitrate (hs : CurfewSound s) : CurfewSound s.arbitrate := hs.kept (by simp)

theorem CurfewSound.completeReply (hs : CurfewSound s) (r : Option Reply) : CurfewSound (s.completeReply r) := by
  have hfree : CurfewSound (s.onLoop Loop.free) := hs
  unfold State.completeReply
  split
  · split
    · dsimp only
      split
      · exact hs
      · exact (hfree.acceptReply _ _).arbitrate
    · exact hs.kept (by simp)
  · exact hs.kept (by simp)

/-! ## Requests -/

theorem CurfewSound.setTimeTask (hs : CurfewSound s) (b : Bool) (task : Task) : CurfewSound (s.setTimeTask b task) := by
  cases task with
  | zone z => exact hs
  | table z => exact hs.reevaluate z
  | grants => exact hs
  | floor st =>
    simp only [State.setTimeTask]
    split
    · exact hs.recomputeTarget st
    · exact hs

theorem CurfewSound.takeTime (hs : CurfewSound s) (time : Nat) : CurfewSound (s.takeTime time) := by
  unfold State.takeTime
  have htaken : CurfewSound s.takeOrder.2 := hs.kept (by simp)
  generalize s.takeOrder = r at htaken ⊢
  obtain ⟨o, u⟩ := r
  exact List.foldlRecOn o.sequence _ htaken fun t ht task _ => ht.setTimeTask _ task

theorem TiedAll.recomputeTarget (hs : TiedAll s) (st : StageId) : TiedAll (s.recomputeTarget st) :=
  hs.congr (by simp) (by simp) fun i => by simp

theorem CurfewSound.enableZoneNow (hs : CurfewSound s) {z : ZoneId} (hz : (s.zones.get z).enabled = false) :
    CurfewSound (s.enableZoneNow z) := by
  refine ⟨?_, hs.2.enableZoneNow hz⟩
  have htargets : TiedAll ((s.onZone z Zone.enable).raiseOfficer .feedChange).recomputeTargets :=
    TiedAll.eachStage (fun st _ hs => hs.recomputeTarget st) hs.1
  simp only [State.enableZoneNow]
  split
  · exact (htargets.zoneOnset z).recomputeOnsets
  · exact htargets.recomputeOnsets

theorem CurfewSound.disableZoneNow (hs : CurfewSound s) (z : ZoneId) : CurfewSound (s.disableZoneNow z) := by
  refine ⟨?_, hs.2.disableZoneNow z⟩
  unfold State.disableZoneNow
  have htaken : TiedAll s.takeOrder.2 := hs.1.congr (by simp) (by simp) fun i => by simp
  generalize s.takeOrder = r at htaken ⊢
  obtain ⟨o, u⟩ := r
  dsimp only at htaken ⊢
  refine TiedAll.recomputeOnsets (TiedAll.eachStage (fun st s hs => ?_)
    (htaken.congr (by simp) (by simp) fun i => by simp))
  unfold State.stageLosesZone
  split
  · exact (hs.zoneLeaves z st).recomputeTarget st
  · exact (hs.recomputeTarget st).zoneLeaves z st

theorem SetsOk.recomputeOnsets (hs : SetsOk s) : SetsOk s.recomputeOnsets :=
  hs.framed (fun i => (recomputeOnsets_sets s i).1) (fun i => by simp) (fun z => by simp) (by simp)

theorem CurfewSound.takeCoupling (hs : CurfewSound s) (st : StageId) (z : ZoneId) (v : Nat) :
    CurfewSound (s.takeCoupling st z v) := by
  unfold State.takeCoupling
  generalize hstored : (s.onStage st fun g =>
    { g with record := { g.record with coupling := g.record.coupling.set z v } }).recomputeTarget st = u
  have htied : TiedAll u := by
    refine hs.1.congr (by simp [← hstored]) (by simp [← hstored]) fun i => ?_
    rw [← hstored, recomputeTarget_reasons, onStage_stages, Bank4.get_modify]
    split <;> rfl
  have hcurfew : u.curfew = s.curfew := by simp [← hstored]
  have hcoupled : ∀ i x, (i = st → x ≠ z) → coupled u i x = coupled s i x := by
    intro i x hi
    simp only [coupled, ← hstored, recomputeTarget_record, onStage_stages, Bank4.get_modify]
    split
    · next hst => rw [Bank8.get_set_ne _ (hi hst)]
    · rfl
  have hset : ∀ i x, coupled u i x = coupled s i x → (u.curfew.get i).zones.get x = inCurfew u i x := by
    intro i x hc
    rw [inCurfew_congr (s := s) (by simp [← hstored]) hc (by simp [← hstored]), hcurfew]
    exact setsOk_iff.mp hs.2 i x
  dsimp only
  rw [hstored]
  split
  · next hsame =>
    refine ⟨htied, setsOk_iff.mpr fun i x => hset i x ?_⟩
    by_cases hmoved : i = st ∧ x = z
    · obtain ⟨rfl, rfl⟩ := hmoved
      exact hsame
    · exact hcoupled i x fun hi hx => hmoved ⟨hi, hx⟩
  · next hchanged =>
    refine ⟨(htied.couplingMove st z).recomputeOnsets,
      (SetsOk.couplingMove (fun i x hi => hset i x (hcoupled i x hi)) fun hrisen => ?_).recomputeOnsets⟩
    have hbefore : coupled s st z = false :=
      Bool.eq_false_iff.mpr fun hheld => hchanged (hrisen.trans hheld.symm)
    have hreaches : reaches s st z = false := by
      rw [reaches, Bool.and_eq_false_iff]
      exact .inr hbefore
    rw [hcurfew, setsOk_iff.mp hs.2 st z, inCurfew, hreaches, Bool.false_and]

theorem CurfewSound.soonTestIf (hs : CurfewSound s) (c : Bool) (st : StageId) :
    CurfewSound (if c then s.soonTest st else s) := by
  split
  · exact ⟨hs.1.soonTest st, hs.2.framed (fun i => by simp) (fun i => by simp) (fun z => by simp) (by simp)⟩
  · exact hs

theorem CurfewSound.takeDesk (hs : CurfewSound s) (st : StageId) (f : SetDeskFields) :
    CurfewSound (s.takeDesk st f) := by
  have hstored : CurfewSound ((s.onStage st fun g => { g with record := g.record.writeDesk f }).onLink (.desk st)
      (LinkInterface.write (f.enables.map widenMask) f.priorities)) := hs.onStage rfl rfl
  refine CurfewSound.soonTestIf ?_ _ st
  split
  · exact hstored.recomputeTarget st
  · exact hstored

theorem CurfewSound.takeFloor (hs : CurfewSound s) (st : StageId) (f : SetStageFields) :
    CurfewSound (s.takeFloor st f) := by
  unfold State.takeFloor
  split
  · exact hs.recomputeTarget st
  · exact hs

theorem CurfewSound.takeChangeMode (hs : CurfewSound s) (st : StageId) (m : Option Nat) :
    CurfewSound (s.takeChangeMode st m) := by
  cases m with
  | none => exact hs
  | some n => exact hs.changeStage (by simp) (by simp)

theorem CurfewSound.takeStageRecord (hs : CurfewSound s) (st : StageId) (f : SetStageFields) :
    CurfewSound (s.takeStageRecord st f) := by
  unfold State.takeStageRecord
  have htaken : CurfewSound s.takeOrder.2 := hs.kept (by simp)
  generalize s.takeOrder = r at htaken ⊢
  obtain ⟨o, u⟩ := r
  dsimp only at htaken ⊢
  have hstored : CurfewSound (u.onStage st fun g => { g with record := g.record.write f }) := htaken.onStage rfl rfl
  refine CurfewSound.soonTestIf ?_ _ st
  split
  · exact (hstored.takeChangeMode st _).takeFloor st f
  · exact (hstored.takeFloor st f).takeChangeMode st _

theorem CurfewSound.rampExpires (hs : CurfewSound s) (st : StageId) : CurfewSound (s.rampExpires st) := by
  unfold State.rampExpires
  split
  · exact hs
  · exact CurfewSound.changeStage (s := s.advanceTo _) hs (by simp) (by simp)

theorem CurfewSound.settleExpires (hs : CurfewSound s) (z : ZoneId) : CurfewSound (s.settleExpires z) := by
  unfold State.settleExpires
  split
  · exact hs
  · exact CurfewSound.onZone (s := s.advanceTo _) hs rfl

theorem setPool_tied (hs : TiedAll s) (m : Nat) : TiedAll (s.writePool m) := by
  refine ⟨min_le_left _ _, fun i => ?_⟩
  simpa [State.writePool] using tied_total (hs.2 i) (Nat.zero_le 15)

end

end Sys2Proof.Machine
end

section
/-! PROOFS. The curfew unit under grants and RESTART, and O59. -/

namespace Sys2Proof.Machine

section
variable {s t : State}

/-! ## The sets stand under grants -/

theorem onCurfew_sets {st : StageId} {f : Curfew → Curfew} (hf : (f (s.curfew.get st)).zones = (s.curfew.get st).zones)
    (i : StageId) : ((s.onCurfew st f).curfew.get i).zones = (s.curfew.get i).zones := by
  rw [onCurfew_curfew, Bank4.get_modify]
  split
  · next hi => rw [hi, hf]
  · rfl

theorem returnMinutes_sets (s : State) (st : StageId) (m : Nat) (i : StageId) :
    ((s.returnMinutes st m).curfew.get i).zones = (s.curfew.get i).zones :=
  onCurfew_sets (s := { s with pool := _ }) rfl i

theorem drawMinutes_sets (s : State) (st : StageId) (m : Nat) (i : StageId) :
    ((s.drawMinutes st m).curfew.get i).zones = (s.curfew.get i).zones :=
  onCurfew_sets (s := { s with pool := _ }) rfl i

theorem startGrant_sets (s : State) (st : StageId) (w : EncoreCase) (g : Nat) (i : StageId) :
    ((s.startGrant st w g).curfew.get i).zones = (s.curfew.get i).zones := by
  cases w with
  | before => exact onCurfew_sets rfl i
  | late =>
    simp only [State.startGrant, raiseOfficer_curfew, endSoonTest_sets, changeStage_frame]
    exact onCurfew_sets rfl i
  | extension =>
    simp only [State.startGrant, raiseOfficer_curfew, endSoonTest_sets]
    refine onCurfew_sets ?_ i
    split <;> rfl

theorem serveEncoreAsk_sets (s : State) (st : StageId) (m : Nat) (i : StageId) :
    ((s.serveEncoreAsk st m).2.2.curfew.get i).zones = (s.curfew.get i).zones := by
  unfold State.serveEncoreAsk
  split
  · rfl
  · exact (startGrant_sets _ st _ _ i).trans (drawMinutes_sets s st _ i)

theorem serveEncoreEnd_sets (s : State) (st i : StageId) :
    ((s.serveEncoreEnd st).2.2.curfew.get i).zones = (s.curfew.get i).zones := by
  unfold State.serveEncoreEnd
  split
  · rfl
  · exact (onCurfew_sets (s := s.returnMinutes st _) rfl i).trans (returnMinutes_sets s st _ i)
  · exact (endGrantInCurfew_sets _ st i).trans (returnMinutes_sets s st _ i)

theorem endShowGrant_sets (s : State) (st i : StageId) :
    ((s.endShowGrant st).curfew.get i).zones = (s.curfew.get i).zones := by
  unfold State.endShowGrant
  split
  · rfl
  · exact onCurfew_sets rfl i
  · exact endGrantInCurfew_sets s st i

theorem CurfewSound.serveEncoreAsk (hs : CurfewSound s) (st : StageId) {m : Nat} (hm : 1 ≤ m) :
    CurfewSound (s.serveEncoreAsk st m).2.2 :=
  ⟨hs.1.serveEncoreAsk st hm,
    hs.2.moved (curfewMoved_serveEncoreAsk st m (.refl _)) (serveEncoreAsk_sets s st m) (by simp)⟩

theorem CurfewSound.serveEncoreEnd (hs : CurfewSound s) (st : StageId) : CurfewSound (s.serveEncoreEnd st).2.2 :=
  ⟨hs.1.serveEncoreEnd st,
    hs.2.moved (curfewMoved_serveEncoreEnd st (.refl _)) (serveEncoreEnd_sets s st) (by simp)⟩

theorem CurfewSound.endShowGrants (hs : CurfewSound s) : CurfewSound (s.eachStage State.endShowGrant) :=
  ⟨hs.1.endShowGrants, hs.2.moved (curfewMoved_endShowGrants (.refl _))
    (fun i => eachStage_keeps (fun s => (s.curfew.get i).zones) _ (fun st s => endShowGrant_sets s st i) s) (by simp)⟩

/-- A list of segments may change: the segment in force stands until the re-evaluation. -/
theorem CurfewSound.onSegments (hs : CurfewSound s) (z : ZoneId) (l : List Segment → List Segment) :
    CurfewSound (s.onTable z fun t => { t with segments := l t.segments }) := by
  refine ⟨hs.1, setsOk_iff.mpr fun i x => ?_⟩
  have hkind : ((s.onTable z fun t => { t with segments := l t.segments }).tables.get x).inForce =
      (s.tables.get x).inForce := by
    rw [onTable_tables, Bank8.get_modify]
    split
    · next hx => rw [hx]
    · rfl
  rw [inCurfew_congr (s := s) (t := s.onTable z _) rfl rfl (by rw [hkind])]
  exact setsOk_iff.mp hs.2 i x

theorem CurfewSound.writePool (hs : CurfewSound s) (m : Nat) : CurfewSound (s.writePool m) :=
  ⟨setPool_tied hs.1 m, hs.2.framed (fun i => by simp [State.writePool]) (fun _ => rfl) (fun _ => rfl) rfl⟩

/-! ## RESTART (R126) -/

/-- A stage in curfew takes the reason CURFEW again, any other has lost it. -/
theorem curfewAgain_reason {st : StageId} (h : (s.stages.get st).reasons.curfew = false) :
    ((s.curfewAgain st).stages.get st).reasons.curfew = !noZone (s.curfew.get st).zones := by
  unfold State.curfewAgain
  split
  · next hempty => simp [h, hempty]
  · next hheld => simp [hheld, Bank4.modify]

theorem curfewAgain_other (s : State) {st i : StageId} (h : i ≠ st) :
    (s.curfewAgain st).stages.get i = s.stages.get i := by
  unfold State.curfewAgain
  split <;> simp [Bank4.modify, h]

theorem curfewAgains_reason {i : StageId} (h : (s.stages.get i).reasons.curfew = false) :
    ((s.eachStage State.curfewAgain).stages.get i).reasons.curfew = !noZone (s.curfew.get i).zones := by
  refine (eachStage_establishes
    (P := fun t => t.curfew = s.curfew ∧ (t.stages.get i).reasons.curfew = false)
    (Q := fun t => t.curfew = s.curfew ∧ (t.stages.get i).reasons.curfew = !noZone (s.curfew.get i).zones)
    i ⟨rfl, h⟩ ?_ ?_ ?_).2
  · rintro j t hj ⟨hcurfew, hreason⟩
    exact ⟨by simp [hcurfew], by rw [curfewAgain_other t hj.symm, hreason]⟩
  · rintro t ⟨hcurfew, hreason⟩
    exact ⟨by simp [hcurfew], by rw [curfewAgain_reason hreason, hcurfew]⟩
  · rintro j t hj ⟨hcurfew, hreason⟩
    exact ⟨by simp [hcurfew], by rw [curfewAgain_other t hj.symm, hreason]⟩

theorem restart_enabled (z : Zone) : z.restart.enabled = z.enabled := by
  unfold Zone.restart
  split
  · next h => exact h.symm
  · rfl

theorem SetsOk.resetBlocks (hs : SetsOk s) : SetsOk s.resetBlocks :=
  hs.framed (fun i => by simp [State.resetBlocks, Curfew.restart]) (fun i => by simp [State.resetBlocks, Stage.restart])
    (fun z => by simp [State.resetBlocks, restart_enabled]) rfl

theorem restart_tied {c : Curfew} {r : Bool} (h : tied c r) : tied c.restart (!noZone c.zones) := by
  obtain ⟨htag, -⟩ := h
  exact ⟨htag, Nat.zero_le _, rfl, by simp [Curfew.restart, Grant.isRunning]⟩

theorem CurfewSound.restartAll (hs : CurfewSound s) : CurfewSound s.restartAll := by
  unfold State.restartAll
  have htaken : CurfewSound s.takeOrder.2 := hs.kept (by simp)
  generalize s.takeOrder = r at htaken ⊢
  obtain ⟨o, u⟩ := r
  obtain ⟨htied, hsets⟩ := htaken
  dsimp only at htied hsets ⊢
  refine CurfewSound.arbitrate (CurfewSound.recomputeTargets ⟨⟨?_, fun i => ?_⟩, ?_⟩)
  · simp [State.resetBlocks, eachStage_keeps State.pool State.curfewAgain (fun _ _ => by simp)]
  · have hcurfew : ((u.resetBlocks.restartList o).eachStage State.curfewAgain).curfew =
        u.resetBlocks.curfew := by
      rw [eachStage_keeps State.curfew State.curfewAgain (fun _ _ => by simp)]
      simp
    rw [hcurfew, curfewAgains_reason (by simp [State.resetBlocks, Stage.restart])]
    simpa [State.resetBlocks, Curfew.restart] using restart_tied (htied.2 i)
  · have hlist : SetsOk (u.resetBlocks.restartList o) :=
      hsets.resetBlocks.framed (fun i => by simp) (fun i => by simp) (fun z => by simp) (by simp)
    refine hlist.moved (curfewMoved_eachStage (fun st _ => curfewMoved_curfewAgain st) (.refl _)) (fun i => ?_) ⟨?_, ?_⟩
    · rw [eachStage_keeps State.curfew State.curfewAgain (fun _ _ => by simp)]
    · exact eachStage_keeps State.zones State.curfewAgain (fun _ _ => by simp) _
    · exact eachStage_keeps State.tables State.curfewAgain (fun _ _ => by simp) _

/-! ## Commands and steps -/

theorem curfewSound_reset : CurfewSound State.reset := curfewSound_iff.mpr (by decide)

theorem Change.keeps_curfewSound (h : Change s t) (hs : CurfewSound s) : CurfewSound t := by
  cases h
  case expectedPoint => exact hs.clockMoved (expectedPoint_clockMoved s)
  case pulse m => exact hs.clockMoved (pulseAt_clockMoved s m)
  case windowEnd => exact hs.clockMoved (windowEnd_clockMoved s)
  case lockLost => exact hs.clockMoved (lockLost_clockMoved s)
  case completeReply r => exact hs.completeReply r
  case settleExpires z => exact hs.settleExpires z
  case rampExpires st => exact hs.rampExpires st
  case setDesk st f h => exact hs.takeDesk st f
  case encore st m => exact hs.serveEncoreAsk st (clampTo_asked_bounds m).1
  case encoreEnd st => exact hs.serveEncoreEnd st
  case setZone z f h => exact hs.onZone rfl
  case enableZone z h => exact hs.enableZoneNow h
  case disableZone z hmode h => exact hs.disableZoneNow z
  case readZone z => exact hs.onZone rfl
  case insertSegment z f h => exact (hs.onSegments z _).reevaluate z
  case editSegment z f g hg h => exact (hs.onSegments z _).reevaluate z
  case deleteSegment z start hstart hmode => exact (hs.onSegments z _).reevaluate z
  case setCoupling st z v hv h => exact hs.takeCoupling st z v
  case setStage st f h => exact hs.takeStageRecord st f
  case muteNow st => exact hs.changeStage rfl rfl
  case fade st => exact hs.changeStage (by simp) (by simp)
  case release st => exact hs.changeStage (by simp) (by simp)
  case setTime time h => exact hs.takeTime time
  case toInternal h => exact hs.clockMoved (toInternal_clockMoved s)
  case toPps h => exact hs.clockMoved (toPps_clockMoved s)
  case endShow => exact CurfewSound.endShowGrants (s := { s with mode := .setup }) hs
  case setPool m => exact hs.writePool m
  case restart => exact hs.restartAll
  all_goals exact hs.kept (by simp)

/-- Settles O59: the sets and the ties of a stage's items, kept together by every change. -/
theorem curfewUnitStaysSound : Obligations.CurfewUnitStaysSound := by
  unfold Obligations.CurfewUnitStaysSound
  intro s t hok hstep
  rw [← curfewSound_iff] at hok ⊢
  refine step_keeps (P := CurfewSound) (fun honly hs => ?_) (fun _ hs => hs.kept ⟨rfl, rfl, rfl, rfl, rfl⟩)
    (fun _ => curfewSound_reset.kept ⟨rfl, rfl, rfl, rfl, rfl⟩) (fun hchange => hchange.keeps_curfewSound) hstep hok
  obtain ⟨k, r, -, rfl⟩ := honly
  exact hs.kept ⟨rfl, rfl, rfl, rfl, rfl⟩

end

end Sys2Proof.Machine
end

section
/-! PROOFS. The loop controller: the arbiter's choices said once, and what keeps the loop sound (R33, R37, R43 to R47). -/

namespace Sys2Proof.Machine

/-! ## The first slot of a kind -/

theorem mem_allSlots (a : SlotId) : a ∈ allSlots := mem_allZones a

theorem find_allSlots_iff {p : SlotId → Bool} {a : SlotId} :
    allSlots.find? p = some a ↔ p a = true ∧ ∀ b < a, p b = false := by
  have hsorted : allSlots.Pairwise (· < ·) := by decide
  rw [List.find?_eq_some_iff_append]
  constructor
  · rintro ⟨ha, before, after, hsplit, hbefore⟩
    refine ⟨ha, fun b hb => ?_⟩
    rw [hsplit] at hsorted
    have hmem : b ∈ before ++ a :: after := hsplit ▸ mem_allSlots b
    obtain ⟨-, htail, -⟩ := List.pairwise_append.mp hsorted
    rcases List.mem_append.mp hmem with hin | hin
    · simpa using hbefore b hin
    · rcases List.mem_cons.mp hin with rfl | hin
      · exact absurd hb (lt_irrefl _)
      · exact absurd hb (lt_asymm ((List.pairwise_cons.mp htail).1 b hin))
  · rintro ⟨ha, hfirst⟩
    obtain ⟨before, after, hsplit⟩ := List.append_of_mem (mem_allSlots a)
    refine ⟨ha, before, after, hsplit, fun b hb => ?_⟩
    rw [hsplit] at hsorted
    simpa using hfirst b ((List.pairwise_append.mp hsorted).2.2 b hb a List.mem_cons_self)

theorem find_allSlots_none {p : SlotId → Bool} : allSlots.find? p = none ↔ ∀ a, p a = false := by
  simp [List.find?_eq_none, mem_allSlots]

section
variable {j k : Loop}

/-- The first ACTIVE slot not before a position (R45). -/
theorem activeFrom_some_iff {n : Nat} {a : SlotId} :
    k.activeFrom n = some a ↔ (n ≤ a.val ∧ k.slotState a = .active) ∧
      ∀ b : SlotId, n ≤ b.val → b < a → k.slotState b ≠ .active := by
  rw [Loop.activeFrom, find_allSlots_iff]
  simp only [Bool.and_eq_true, decide_eq_true_eq, Bool.and_eq_false_iff, decide_eq_false_iff_not]
  refine and_congr_right fun _ => ⟨fun h b hn hb => ?_, fun h b hb => ?_⟩
  · exact (h b hb).resolve_left (not_not_intro hn)
  · exact or_iff_not_imp_left.mpr fun hn => h b (not_not.mp hn) hb

theorem activeFrom_none_iff {n : Nat} :
    k.activeFrom n = none ↔ ∀ a : SlotId, n ≤ a.val → k.slotState a ≠ .active := by
  rw [Loop.activeFrom, find_allSlots_none]
  simp

theorem activeFrom_zero_none : k.activeFrom 0 = none ↔ ∀ a : SlotId, k.slotState a ≠ .active := by
  simp [activeFrom_none_iff]

/-- Identification work is a SEEKING slot's, before any due probe of a LOST one (R43). -/
theorem identification_cases {t : Transaction} (h : k.identification = some t) :
    (∃ a, t = .identify a false ∧ k.slotState a = .seeking) ∨
    (∃ a, t = .identify a true ∧ k.slotState a = .lost ∧ (k.slots.get a).reseek = .probeDue) := by
  unfold Loop.identification at h
  split at h
  · next a hfound =>
    cases h
    exact .inl ⟨a, rfl, by simpa using (find_allSlots_iff.mp hfound).1⟩
  · split at h
    · next a hfound =>
      cases h
      exact .inr ⟨a, rfl, by simpa using (find_allSlots_iff.mp hfound).1⟩
    · cases h

theorem identification_none_iff :
    k.identification = none ↔ (∀ a, k.slotState a ≠ .seeking) ∧
      ∀ a, k.slotState a = .lost → (k.slots.get a).reseek ≠ .probeDue := by
  unfold Loop.identification
  split
  · next a hfound =>
    have ha : k.slotState a = .seeking := by simpa using (find_allSlots_iff.mp hfound).1
    simp only [reduceCtorEq, false_iff, not_and]
    exact fun hnone => absurd ha (hnone a)
  · next hnone =>
    have hno : ∀ a, k.slotState a ≠ .seeking := by simpa using find_allSlots_none.mp hnone
    split
    · next a hfound =>
      obtain ⟨hlost, hdue⟩ : k.slotState a = .lost ∧ (k.slots.get a).reseek = .probeDue := by
        simpa using (find_allSlots_iff.mp hfound).1
      simp only [reduceCtorEq, false_iff, not_and]
      exact fun _ hnone => hnone a hlost hdue
    · next hprobes =>
      simp only [true_iff]
      exact ⟨hno, by simpa using find_allSlots_none.mp hprobes⟩

/-- A scan's next work is at an ACTIVE slot. -/
theorem scanNext_active {c : Scan} {a : SlotId} {p : ScanPhase} (h : k.scanNext c = some (a, p)) :
    k.slotState a = .active := by
  have hfrom : ∀ n (b : SlotId), k.activeFrom n = some b → k.slotState b = .active :=
    fun n b hb => (activeFrom_some_iff.mp hb).1.2
  unfold Loop.scanNext at h
  split at h
  · obtain ⟨b, hb, hpair⟩ := Option.map_eq_some_iff.mp h
    cases hpair
    exact hfrom _ _ hb
  · split at h
    · next b hb =>
      split at h
      · cases h
        exact hfrom _ _ hb
      · obtain ⟨d, hd, hpair⟩ := Option.map_eq_some_iff.mp h
        cases hpair
        exact hfrom _ _ hd
    · cases h

/-! ## The flight and the slots -/

/-- The work a transaction does is there to be done (R37, R40, R41, R46). -/
def hasWork (k : Loop) : Transaction → Prop
  | .identify a false => k.slotState a = .seeking
  | .identify a true => k.slotState a = .lost
  | .status a => k.slotState a = .active
  | .fetch a _ => k.slotState a = .active
  | .mark _ => True
  | .loopReset => True

theorem flightOk_iff :
    flightOk k = true ↔ ∀ f, k.flight = some f → f.disregarded = true ∨ hasWork k f.transaction := by
  unfold flightOk
  cases hflight : k.flight with
  | none => simp
  | some f =>
    obtain ⟨t, d⟩ := f
    cases t with
    | identify a probe => cases probe <;> simp [hasWork]
    | _ => simp [hasWork]

theorem flightOk_of_free (h : k.flight = none) : flightOk k = true := by simp [flightOk, h]

theorem hasWork_congr (h : ∀ a, j.slotState a = k.slotState a) (t : Transaction) : hasWork j t ↔ hasWork k t := by
  cases t with
  | identify a probe => cases probe <;> simp [hasWork, h]
  | _ => simp [hasWork, h]

theorem flightOk_congr (hflight : j.flight = k.flight) (h : ∀ a, j.slotState a = k.slotState a) :
    flightOk j = flightOk k := by
  rw [Bool.eq_iff_iff, flightOk_iff, flightOk_iff, hflight]
  simp only [hasWork_congr h]

theorem slotsApart_congr (h : ∀ a, (j.slots.get a).zone = (k.slots.get a).zone) (hk : slotsApart k) : slotsApart j := by
  intro a b hab ha
  rw [h a] at ha ⊢
  rw [h b]
  exact hk a b hab ha

theorem activeFrom_none_congr (h : ∀ a, j.slotState a = k.slotState a) :
    j.activeFrom 0 = none ↔ k.activeFrom 0 = none := by
  simp only [activeFrom_zero_none, h]

/-- The loop's invariant but for the work that a free loop may have waiting while a command runs. -/
structure LoopCore (k : Loop) : Prop where
  slots : ∀ a : SlotId, slotOk (k.slots.get a)
  apart : slotsApart k
  flight : flightOk k = true
  latn : latnHeeded k
  scan : scanOk k

theorem loopOk_core_iff {s : State} : loopOk s ↔ LoopCore s.loop ∧ loopBusy s.loop := by
  constructor
  · rintro ⟨hslots, hapart, hflight, hbusy, hlatn, hscan⟩
    exact ⟨⟨hslots, hapart, hflight, hlatn, hscan⟩, hbusy⟩
  · rintro ⟨⟨hslots, hapart, hflight, hlatn, hscan⟩, hbusy⟩
    exact ⟨hslots, hapart, hflight, hbusy, hlatn, hscan⟩

/-! ## The arbiter -/

/-- A move of the arbiter keeps the slots sound where only a fetch number counts on or a timer stops. -/
theorem slotOk_of_same {u v : UnitSlot} (hv : slotOk v) (hsame : sameSlot u v)
    (hvacant : v.state = .vacant → u = v) (hnext : u.nextFetch ≤ 255)
    (hreseek : u.reseek = .stopped ∨ u.reseek = v.reseek) : slotOk u := by
  obtain ⟨hstate, hzone, hcause, hfailed, -⟩ := hsame
  obtain ⟨hreset, hassigned, hlost, hcount, -, htimer⟩ := hv
  refine ⟨fun h => ?_, by rw [hzone, hstate, hassigned], by rw [hcause, hstate, hlost], by rw [hfailed]; exact hcount,
    hnext, fun h => ?_⟩
  · have hvac : v.state = .vacant := hstate ▸ h
    rw [hvacant hvac]
    exact hreset hvac
  · rw [hstate]
    exact htimer ((hreseek.resolve_left h) ▸ h)

/-- What the arbiter's moves keep of the invariant. -/
theorem LoopCore.moved (hk : LoopCore k) (hslots : ∀ a, slotOk (j.slots.get a))
    (hsame : ∀ a, sameSlot (j.slots.get a) (k.slots.get a)) (hflight : flightOk j = true)
    (hlatn : latnHeeded j) (hscan : scanOk j) : LoopCore j :=
  ⟨hslots, slotsApart_congr (fun a => (hsame a).2.1) hk.apart, hflight, hlatn, hscan⟩

theorem LoopCore.endScan (hk : LoopCore k) (hfirst : k.identifyFirst = false) : LoopCore k.endScan := by
  obtain ⟨hslots, hflight, -⟩ := endScan_keeps k
  have hstate : ∀ a, k.endScan.slotState a = k.slotState a := fun a => by rw [Loop.slotState, hslots]; rfl
  refine hk.moved (fun a => by rw [hslots]; exact hk.slots a) (fun a => by rw [hslots]; exact sameSlot_refl _)
    (by rw [flightOk_congr hflight hstate]; exact hk.flight) ?_ ?_
  · simp only [Loop.endScan]
    split
    · next a hlatn ha =>
      intro _ hnone
      have hstands := (followOn_keeps ({ k with scan := none } : Loop) a).2.2.2.2.2.2
      rw [hnone] at hstands
      cases hstands
    · next hnone =>
      intro hlatn _ _ _
      cases ha : ({ k with scan := none } : Loop).activeFrom 0 with
      | none => rfl
      | some a => exact absurd ha (hnone a hlatn)
  · simp only [Loop.endScan]
    split
    · exact fun _ => (followOn_keeps ({ k with scan := none } : Loop) _).2.2.2.2.2.2
    · intro h
      exact absurd hfirst (by simpa using h)

theorem LoopCore.settleScan (hk : LoopCore k) : LoopCore k.settleScan := by
  unfold Loop.settleScan
  split
  · exact hk
  · split
    · exact hk
    · dsimp only
      split
      · exact ⟨hk.slots, hk.apart, hk.flight, (fun _ hnone => nomatch hnone), fun h => nomatch h⟩
      · exact LoopCore.endScan (k := { k with identifyFirst := false })
          ⟨hk.slots, hk.apart, hk.flight, hk.latn, fun h => nomatch h⟩ rfl

/-- A transaction with work to do begins, in a free loop: the slots' reads stand. -/
theorem LoopCore.beginWork (hk : LoopCore k) (hfree : k.flight = none) {t : Transaction} (hwork : hasWork k t)
    (hslots : ∀ a, slotOk (j.slots.get a)) (hsame : ∀ a, sameSlot (j.slots.get a) (k.slots.get a))
    (hflight : j.flight = some ⟨t, false⟩) (hlatn : j.latn = k.latn) (hreset : j.pendingReset = k.pendingReset)
    (hscan : j.scan.isSome = k.scan.isSome) (hfirst : j.identifyFirst = true → k.identifyFirst = true) :
    LoopCore j := by
  have hstate : ∀ a, j.slotState a = k.slotState a := fun a => (hsame a).1
  refine hk.moved hslots hsame (flightOk_iff.mpr fun f hf => ?_) (fun hl hnone hr _ => ?_) fun h => ?_
  · cases hflight.symm.trans hf
    exact .inr ((hasWork_congr hstate t).mpr hwork)
  · have hended : k.scan = none := by simpa [hnone] using hscan
    exact (activeFrom_none_congr hstate).mpr (hk.latn (hlatn ▸ hl) hended (hreset ▸ hr) (by simp [hfree]))
  · rw [hscan]
    exact hk.scan (hfirst h)

theorem LoopCore.serveIdentification (hk : LoopCore k) (hfree : k.flight = none) :
    LoopCore k.serveIdentification := by
  unfold Loop.serveIdentification
  split
  · next t ht =>
    rcases identification_cases ht with ⟨a, rfl, ha⟩ | ⟨a, rfl, ha, -⟩
    · exact hk.beginWork hfree (t := .identify a false) ha hk.slots (fun _ => sameSlot_refl _) rfl rfl rfl rfl id
    · refine hk.beginWork hfree (t := .identify a true) ha (fun b => ?_) (beginIdentification_slots k _)
        rfl rfl rfl rfl id
      refine slotOk_of_same (hk.slots b) (beginIdentification_slots k _ b) (fun hb => ?_) ?_ ?_
      all_goals simp only [Loop.beginIdentification, begin_keeps, onSlot_keeps, Bank8.get_modify]
      · rw [if_neg]
        rintro rfl
        rw [Loop.slotState, hb] at ha
        cases ha
      · split
        · exact (hk.slots b).2.2.2.2.1
        · exact (hk.slots b).2.2.2.2.1
      · split
        · exact .inl rfl
        · exact .inr rfl
  · exact hk

theorem LoopCore.beginScan (hk : LoopCore k) (hfree : k.flight = none) (hscan : k.scan.isSome = true)
    {a : SlotId} (ha : k.slotState a = .active) (p : ScanPhase) : LoopCore (k.beginScan a p) := by
  unfold Loop.beginScan
  split
  · exact hk.beginWork hfree (t := .status a) ha hk.slots (fun _ => sameSlot_refl _) rfl rfl rfl
      (by simp [hscan]) id
  · next r n =>
    exact hk.beginWork hfree (t := .fetch a n) ha hk.slots (fun _ => sameSlot_refl _) rfl rfl rfl
      (by simp [hscan]) id
  · next r =>
    refine hk.beginWork hfree (t := .fetch a _) ha (fun b => ?_) (beginScan_slots k a (.fetch r none)) rfl rfl rfl
      (by simp [hscan]) id
    refine slotOk_of_same (hk.slots b) (beginScan_slots k a (.fetch r none) b) (fun hb => ?_) ?_ (.inr ?_)
    all_goals simp only [begin_keeps, onSlot_keeps, Bank8.get_modify]
    · rw [if_neg]
      rintro rfl
      rw [Loop.slotState, hb] at ha
      cases ha
    · split
      · exact Nat.le_of_lt_succ (Nat.mod_lt _ (by decide))
      · exact (hk.slots b).2.2.2.2.1
    · split <;> rfl

theorem LoopCore.serveScan (hk : LoopCore k) (hfree : k.flight = none) (hscan : k.scan.isSome = true) (c : Scan) :
    LoopCore (k.serveScan c) := by
  unfold Loop.serveScan
  split
  · exact LoopCore.serveIdentification (k := { k with identifyFirst := false })
      ⟨hk.slots, hk.apart, hk.flight, hk.latn, fun h => nomatch h⟩ hfree
  · split
    · next a p hnext => exact hk.beginScan hfree hscan (scanNext_active hnext) p
    · exact hk

theorem LoopCore.choose (hk : LoopCore k) (hfree : k.flight = none) : LoopCore k.choose := by
  unfold Loop.choose
  split
  · next tag _ =>
    exact hk.beginWork hfree (t := .mark tag) trivial hk.slots (fun _ => sameSlot_refl _) rfl rfl rfl rfl id
  · split
    · exact ⟨hk.slots, hk.apart, rfl, fun _ _ _ h => absurd rfl h, hk.scan⟩
    · split
      · exact hk.serveIdentification hfree
      · next c hc => exact hk.serveScan hfree (by simp [hc]) c

/-- The arbiter makes a loop sound, whatever work was waiting (R33, R43). -/
theorem LoopCore.arbitrate (hk : LoopCore k) : LoopCore k.arbitrate := by
  unfold Loop.arbitrate
  split
  · exact hk
  · next hfree => exact hk.settleScan.choose ((settleScan_keeps k).2.1.trans hfree)

theorem loopOk_arbitrate {s : State} (h : LoopCore s.loop) : loopOk s.arbitrate :=
  loopOk_core_iff.mpr ⟨h.arbitrate, arbitrate_free s.loop⟩

end

end Sys2Proof.Machine
end

section
/-! PROOFS. The loop controller: what each of its moves keeps (R36 to R41, R46 to R55), and O60. -/

namespace Sys2Proof.Machine

/-! ## One slot's moves -/

section
variable {u : UnitSlot}

theorem slotOk_reset : slotOk UnitSlot.reset := by decide

/-- A slot that serves a zone is judged by its fields. -/
theorem slotOk_serving (hstate : u.state ≠ .vacant) (hzone : u.zone.isSome = true)
    (hcause : u.cause.isSome = decide (u.state = .lost)) (hfailed : u.failed ≤ 3) (hnext : u.nextFetch ≤ 255)
    (hreseek : u.reseek ≠ .stopped → u.state = .lost) : slotOk u :=
  ⟨fun h => absurd h hstate, by simp [hzone, hstate], hcause, hfailed, hnext, hreseek⟩

/-- What a sound slot that serves a zone is known by. -/
theorem slotOk_fields (hu : slotOk u) (hstate : u.state ≠ .vacant) :
    u.zone.isSome = true ∧ u.failed ≤ 3 ∧ u.nextFetch ≤ 255 ∧
    (u.state ≠ .lost → u.cause = none ∧ u.reseek = .stopped) := by
  obtain ⟨-, hzone, hcause, hfailed, hnext, hreseek⟩ := hu
  refine ⟨by simpa [hstate] using hzone, hfailed, hnext, fun hlost => ⟨by simpa [hlost] using hcause, ?_⟩⟩
  by_contra htimer
  exact hlost (hreseek htimer)

theorem slotOk_lose (hu : slotOk u) (hstate : u.state ≠ .vacant) (now : Nat) (c : LostCause) :
    slotOk (u.lose now c) := by
  obtain ⟨hzone, hfailed, hnext, -⟩ := slotOk_fields hu hstate
  exact slotOk_serving (by simp [UnitSlot.lose]) hzone rfl hfailed hnext fun _ => rfl

/-- Count, serial number, health and record flags of a slot that serves a zone may take any value in range. -/
theorem slotOk_detail (hu : slotOk u) (hstate : u.state ≠ .vacant) {n : Nat} (hn : n ≤ 3) (late misdated : Bool)
    (serial : Option Nat) (health : Option HealthFlags) :
    slotOk { u with failed := n, late, misdated, serial, health } := by
  obtain ⟨hzone, -, hnext, -⟩ := slotOk_fields hu hstate
  obtain ⟨-, -, hcause, -, -, hreseek⟩ := hu
  exact slotOk_serving hstate hzone hcause hn hnext hreseek

theorem slotOk_fail (hu : slotOk u) (hstate : u.state ≠ .vacant) (now : Nat) : slotOk (u.fail now) := by
  simp only [UnitSlot.fail]
  split
  · exact slotOk_lose (slotOk_detail hu hstate le_rfl _ _ _ _) hstate now _
  · next hfew => exact slotOk_detail hu hstate (by omega) _ _ _ _

theorem slotOk_timer (hu : slotOk u) (hstate : u.state = .lost) (r : Reseek) : slotOk { u with reseek := r } := by
  have hserving : u.state ≠ .vacant := by simp [hstate]
  obtain ⟨hzone, hfailed, hnext, -⟩ := slotOk_fields hu hserving
  exact slotOk_serving hserving hzone hu.2.2.1 hfailed hnext fun _ => hstate

/-- A slot that serves a zone and is not LOST has no cause and no timer. -/
theorem slotOk_seeking_or_active (hu : slotOk u) (hstate : u.state ≠ .vacant) {st : SlotState}
    (hst : st = .seeking ∨ st = .active) {n : Nat} (hn : n ≤ 255) (serial : Option Nat) :
    slotOk { u with state := st, cause := none, failed := 0, nextFetch := n, serial, reseek := .stopped } := by
  obtain ⟨hzone, -, -, -⟩ := slotOk_fields hu hstate
  refine slotOk_serving ?_ hzone ?_ (Nat.zero_le 3) hn fun h => absurd rfl h
  · rcases hst with rfl | rfl <;> simp
  · rcases hst with rfl | rfl <;> rfl

theorem slotOk_stall (hu : slotOk u) : slotOk u.stall := by
  unfold UnitSlot.stall
  split
  case h_1 hseeking => exact slotOk_detail hu (by simp [hseeking]) (Nat.zero_le 3) _ _ _ _
  case h_2 hactive =>
    have hserving : u.state ≠ .vacant := by simp [hactive]
    obtain ⟨-, -, hnext, hidle⟩ := slotOk_fields hu hserving
    obtain ⟨hcause, hreseek⟩ := hidle (by simp [hactive])
    have hseeking := slotOk_seeking_or_active hu hserving (.inl rfl) hnext u.serial
    rwa [← hcause, ← hreseek] at hseeking
  all_goals exact hu

theorem slotOk_resetStall (hu : slotOk u) (now : Nat) : slotOk (u.resetStall now) := by
  rw [UnitSlot.resetStall_eq]
  split
  · exact hu
  · next h => exact slotOk_lose hu (fun hv => h (.inl hv)) now _

theorem resetStall_not_active (u : UnitSlot) (now : Nat) : (u.resetStall now).state ≠ .active := by
  rw [UnitSlot.resetStall_eq]
  split
  · next h => rcases h with h | h <;> simp [h]
  · simp [UnitSlot.lose]

theorem slotOk_restart (hu : slotOk u) : slotOk u.restart := by
  unfold UnitSlot.restart
  split
  · exact hu
  · next hserving =>
    obtain ⟨hzone, -⟩ := slotOk_fields hu hserving
    exact slotOk_serving (by simp) hzone rfl (Nat.zero_le 3) (Nat.zero_le 255) fun h => absurd rfl h

theorem restart_not_active (u : UnitSlot) : u.restart.state ≠ .active := by
  unfold UnitSlot.restart
  split
  · next h => simp [h]
  · simp

theorem slotOk_flag (hu : slotOk u) (hstate : u.state ≠ .vacant) (v : Verdict) : slotOk (u.flag v) := by
  have hfailed : u.failed ≤ 3 := hu.2.2.2.1
  cases v with
  | late | misdated => exact slotOk_detail hu hstate hfailed _ _ _ _
  | taken | unwanted => exact hu

theorem slotOk_clearFlags (hu : slotOk u) : slotOk u.clearFlags := by
  by_cases hstate : u.state = .vacant
  · rw [hu.1 hstate]
    decide
  · exact slotOk_detail hu hstate hu.2.2.2.1 _ _ _ _

end

/-! ## The loop's moves -/

section
variable {k : Loop}

theorem onSlot_slotState (k : Loop) (a b : SlotId) (f : UnitSlot → UnitSlot) :
    (k.onSlot a f).slotState b = if b = a then (f (k.slots.get a)).state else k.slotState b := by
  simp only [Loop.slotState, onSlot_keeps, Bank8.get_modify]
  split
  · next hb => rw [hb]
  · rfl

theorem slotsApart_onSlot (hk : slotsApart k) {a : SlotId} {f : UnitSlot → UnitSlot}
    (hnew : ∀ b, b ≠ a → ∀ z, (f (k.slots.get a)).zone = some z → (k.slots.get b).zone ≠ some z) :
    slotsApart (k.onSlot a f) := by
  intro b c hbc hb
  simp only [onSlot_keeps, Bank8.get_modify] at hb ⊢
  by_cases hba : b = a
  · subst hba
    rw [if_pos rfl] at hb ⊢
    rw [if_neg hbc.symm]
    obtain ⟨z, hz⟩ := Option.isSome_iff_exists.mp hb
    rw [hz]
    exact (hnew c hbc.symm z hz).symm
  · rw [if_neg hba] at hb ⊢
    split
    · next hca =>
      obtain ⟨z, hz⟩ := Option.isSome_iff_exists.mp hb
      intro heq
      exact hnew b hba z (by rw [← hca, ← heq, hz]) hz
    · exact hk b c hbc hb

/-- A move of one slot that makes no slot ACTIVE keeps all but the flight's place. -/
theorem LoopCore.onSlot (hk : LoopCore k) {a : SlotId} {f : UnitSlot → UnitSlot} (hslot : slotOk (f (k.slots.get a)))
    (hnew : ∀ b, b ≠ a → ∀ z, (f (k.slots.get a)).zone = some z → (k.slots.get b).zone ≠ some z)
    (hflight : flightOk (k.onSlot a f) = true)
    (hactive : (f (k.slots.get a)).state = .active → (k.slots.get a).state = .active) :
    LoopCore (k.onSlot a f) := by
  refine ⟨fun b => ?_, slotsApart_onSlot hk.apart hnew, hflight, fun hl hs hr hf => ?_, hk.scan⟩
  · rw [(onSlot_keeps k a f).1, Bank8.get_modify]
    split
    · next hb => rw [hb]; exact hslot
    · exact hk.slots b
  · refine activeFrom_zero_none.mpr fun b hb => ?_
    have hnone := activeFrom_zero_none.mp (hk.latn hl hs hr hf) b
    rw [onSlot_slotState] at hb
    split at hb
    · next hba => exact hnone (by rw [hba]; exact hactive hb)
    · exact hnone hb

theorem zones_apart (hk : slotsApart k) {a : SlotId} :
    ∀ b, b ≠ a → ∀ z, (k.slots.get a).zone = some z → (k.slots.get b).zone ≠ some z := by
  intro b hb z hz
  rw [← hz]
  exact (hk a b hb.symm (by simp [hz])).symm

/-- A slot keeps its zone, in a free loop. -/
theorem LoopCore.onSlotFree (hk : LoopCore k) (hfree : k.flight = none) {a : SlotId} {f : UnitSlot → UnitSlot}
    (hslot : slotOk (f (k.slots.get a))) (hzone : (f (k.slots.get a)).zone = (k.slots.get a).zone)
    (hactive : (f (k.slots.get a)).state = .active → (k.slots.get a).state = .active) : LoopCore (k.onSlot a f) :=
  hk.onSlot hslot (hzone ▸ zones_apart hk.apart) (flightOk_of_free hfree) hactive

theorem onSlot_same_slotState {a : SlotId} {f : UnitSlot → UnitSlot}
    (hstate : (f (k.slots.get a)).state = (k.slots.get a).state) (b : SlotId) :
    (k.onSlot a f).slotState b = k.slotState b := by
  rw [onSlot_slotState]
  split
  · next hb => rw [hb, hstate]; rfl
  · rfl

/-- A slot keeps its zone and its state. -/
theorem LoopCore.onSlotSame (hk : LoopCore k) {a : SlotId} {f : UnitSlot → UnitSlot}
    (hslot : slotOk (f (k.slots.get a))) (hzone : (f (k.slots.get a)).zone = (k.slots.get a).zone)
    (hstate : (f (k.slots.get a)).state = (k.slots.get a).state) : LoopCore (k.onSlot a f) :=
  hk.onSlot hslot (hzone ▸ zones_apart hk.apart)
    ((flightOk_congr (j := k.onSlot a f) (k := k) rfl (onSlot_same_slotState hstate)).trans hk.flight) (hstate ▸ id)

theorem LoopCore.rescan (hk : LoopCore k) {x : Option Scan} (hx : x.isSome = k.scan.isSome) :
    LoopCore { k with scan := x } := by
  refine ⟨hk.slots, hk.apart, hk.flight, fun hl hs hr hf => hk.latn hl ?_ hr hf, fun h => ?_⟩
  · have hs : x = none := hs
    simpa [hs] using hx
  · exact hx.trans (hk.scan h)

theorem LoopCore.passOn (hk : LoopCore k) (a : SlotId) : LoopCore (k.passOn a) := by
  unfold Loop.passOn
  split
  · next hs => exact hk.rescan (by simp [hs])
  · exact hk

theorem LoopCore.free (hk : LoopCore k) (h : k.flight.map Flight.transaction ≠ some .loopReset) :
    LoopCore k.free :=
  ⟨hk.slots, hk.apart, rfl, fun hl hs hr _ => hk.latn hl hs hr h, hk.scan⟩

/-- Looking at LATN heeds it. -/
theorem LoopCore.looked (hslots : ∀ a, slotOk (k.slots.get a)) (hapart : slotsApart k) (hflight : flightOk k = true)
    (hscan : scanOk k) : LoopCore k.lookAtLatn := by
  unfold Loop.lookAtLatn
  split
  · exact ⟨hslots, hapart, hflight, (fun _ h => nomatch h), fun _ => rfl⟩
  · next hno =>
    refine ⟨hslots, hapart, hflight, fun hl hs hr hf => absurd ?_ hno, hscan⟩
    simp [hl, hs, hr, hf]

theorem LoopCore.attemptFails (hk : LoopCore k) (hfree : k.flight = none) {t : Transaction} (hwork : hasWork k t)
    (now : Nat) : LoopCore (k.attemptFails now t).1 := by
  have hfail : ∀ a, (k.slots.get a).state ≠ .vacant → LoopCore (k.onSlot a (UnitSlot.fail now)) := by
    intro a ha
    refine hk.onSlotFree hfree (slotOk_fail (hk.slots a) ha now) ?_ ?_
    all_goals simp only [UnitSlot.fail]; split
    · rfl
    · rfl
    · intro h
      cases h
    · exact id
  cases t with
  | identify a probe =>
    cases probe with
    | true => exact hk.onSlotFree hfree (slotOk_timer (hk.slots a) hwork _) rfl id
    | false => exact hfail a (by rw [show (k.slots.get a).state = .seeking from hwork]; simp)
  | status a =>
    have hfailed := hfail a (by rw [show (k.slots.get a).state = .active from hwork]; simp)
    simp only [Loop.attemptFails]
    split
    · exact hfailed.passOn a
    · exact hfailed
  | fetch a n =>
    have hfailed := hfail a (by rw [show (k.slots.get a).state = .active from hwork]; simp)
    simp only [Loop.attemptFails]
    split
    · exact hfailed.passOn a
    · exact hfailed.rescan (by simp)
  | mark tag => exact hk
  | loopReset => exact hk

theorem LoopCore.identified (hk : LoopCore k) (hfree : k.flight = none) {a : SlotId} (ha : k.slotState a = .seeking)
    (now code serial : Nat) : LoopCore (k.identified now a code serial).1 := by
  have hserving : (k.slots.get a).state ≠ .vacant := by rw [show (k.slots.get a).state = .seeking from ha]; simp
  obtain ⟨-, -, -, hidle⟩ := slotOk_fields (hk.slots a) hserving
  obtain ⟨hcause, hreseek⟩ := hidle (by rw [show (k.slots.get a).state = .seeking from ha]; simp)
  unfold Loop.identified
  split
  · refine LoopCore.looked (fun b => ?_) (slotsApart_onSlot hk.apart (zones_apart hk.apart)) (flightOk_of_free hfree)
      hk.scan
    simp only [onSlot_keeps, Bank8.get_modify]
    split
    · next hb =>
      subst hb
      have hactive := slotOk_seeking_or_active (hk.slots b) hserving (.inr rfl) (Nat.zero_le 255) (some serial)
      rwa [← hcause, ← hreseek] at hactive
    · exact hk.slots b
  · exact hk.onSlotFree hfree (slotOk_lose (slotOk_detail (hk.slots a) hserving (Nat.zero_le 3) _ _ (some serial) _) hserving
      now _)
      rfl fun h => nomatch h

theorem LoopCore.probed (hk : LoopCore k) (hfree : k.flight = none) {a : SlotId} (ha : k.slotState a = .lost)
    (now code serial : Nat) : LoopCore (k.probed now a code serial).1 := by
  have hserving : (k.slots.get a).state ≠ .vacant := by rw [show (k.slots.get a).state = .lost from ha]; simp
  obtain ⟨-, hfailed, hnext, -⟩ := slotOk_fields (hk.slots a) hserving
  simp only [Loop.probed]
  split
  · exact hk.onSlotFree hfree (slotOk_seeking_or_active (hk.slots a) hserving (.inl rfl) hnext (some serial)) rfl
      fun h => nomatch h
  · exact hk.onSlotFree hfree (slotOk_lose (slotOk_detail (hk.slots a) hserving hfailed _ _ (some serial) _) hserving now _)
      rfl fun h => nomatch h

theorem LoopCore.detailed (hk : LoopCore k) (hfree : k.flight = none) {a : SlotId} (ha : k.slotState a = .active)
    {f : UnitSlot → UnitSlot} (hf : ∃ h, f (k.slots.get a) = { k.slots.get a with failed := 0, health := h }) :
    LoopCore (k.onSlot a f) := by
  have hserving : (k.slots.get a).state ≠ .vacant := by rw [show (k.slots.get a).state = .active from ha]; simp
  obtain ⟨h, hf⟩ := hf
  refine hk.onSlotFree hfree ?_ (by rw [hf]) (by rw [hf]; exact id)
  rw [hf]
  exact slotOk_detail (hk.slots a) hserving (Nat.zero_le 3) _ _ _ _

theorem LoopCore.statusTaken (hk : LoopCore k) (hfree : k.flight = none) {a : SlotId} (ha : k.slotState a = .active)
    (count : Nat) (health : Byte) : LoopCore (k.statusTaken a count health).1 := by
  have htaken := fun h => hk.detailed hfree ha (f := fun u => { u with failed := 0, health := h }) ⟨h, rfl⟩
  simp only [Loop.statusTaken]
  split
  · exact (htaken _).passOn a
  · exact (htaken _).rescan (by simp)

theorem LoopCore.fetchTaken (hk : LoopCore k) (hfree : k.flight = none) {a : SlotId} (ha : k.slotState a = .active)
    (isRecord : Bool) : LoopCore (k.fetchTaken a isRecord) := by
  have htaken := hk.detailed hfree ha (f := fun u => { u with failed := 0 }) ⟨_, rfl⟩
  simp only [Loop.fetchTaken]
  split
  · exact htaken
  · next c hc =>
    split
    · split
      · exact htaken.passOn a
      · exact htaken.rescan (by simp_all)
    · exact htaken.passOn a

theorem LoopCore.stall (hk : LoopCore k) (now : Nat) : LoopCore (k.stall now).1 := by
  by_cases hreset : k.flight.map Flight.transaction = some .loopReset
  · rw [stall_of_reset now hreset]
    refine ⟨fun a => ?_, slotsApart_congr (fun a => ?_) hk.apart, rfl, fun _ _ _ _ => ?_, hk.scan⟩
    · rw [Bank8.get_map]
      exact slotOk_resetStall (hk.slots a) now
    · rw [Bank8.get_map, UnitSlot.resetStall_eq]
      split <;> rfl
    · refine activeFrom_zero_none.mpr fun a => ?_
      simp only [Loop.slotState, Bank8.get_map]
      exact resetStall_not_active _ now
  · obtain ⟨hfree, -, hfirst, hpending, -⟩ := stall_clears_of_not_reset now hreset
    refine ⟨fun a => ?_, slotsApart_congr (fun a => ?_) hk.apart, flightOk_of_free hfree,
      fun _ _ h => by simp [hpending] at h, fun h => by simp [hfirst] at h⟩
    · rw [stall_get_of_not_reset now hreset, abandonProbe_get]
      split
      · next hprobe =>
        have hlost := (flightOk_iff.mp hk.flight _ hprobe).resolve_left (by simp)
        exact slotOk_stall (slotOk_timer (hk.slots a) hlost _)
      · exact slotOk_stall (hk.slots a)
    · have hstall : ∀ u : UnitSlot, u.stall.zone = u.zone := fun u => by unfold UnitSlot.stall; split <;> rfl
      rw [stall_get_of_not_reset now hreset, abandonProbe_get, hstall]
      split <;> rfl

theorem LoopCore.restart (hk : LoopCore k) : LoopCore k.restart := by
  refine ⟨fun a => ?_, slotsApart_congr (fun a => ?_) hk.apart, flightOk_iff.mpr fun f hf => .inl ?_,
    fun _ _ _ _ => ?_, fun h => nomatch h⟩
  · rw [Loop.restart, Bank8.get_map]
    exact slotOk_restart (hk.slots a)
  · rw [Loop.restart, Bank8.get_map]
    unfold UnitSlot.restart
    split <;> rfl
  · obtain ⟨g, -, rfl⟩ := Option.map_eq_some_iff.mp (show k.flight.map _ = some f from hf)
    rfl
  · refine activeFrom_zero_none.mpr fun a => ?_
    simp only [Loop.slotState, Loop.restart, Bank8.get_map]
    exact restart_not_active _

end

end Sys2Proof.Machine
end

section
/-! PROOFS. The loop controller under commands, and O60. -/

namespace Sys2Proof.Machine

section
variable {k : Loop}

/-! ## Assignments -/

theorem serves_iff {z : ZoneId} : k.serves z = true ↔ ∃ a, (k.slots.get a).zone = some z := by
  rw [Loop.serves, Bank8.any_toList]
  simp

theorem LoopCore.assign (hk : LoopCore k) {a : SlotId} {z : ZoneId} (hvacant : k.slotState a = .vacant)
    (hfresh : ∀ b, (k.slots.get b).zone ≠ some z) : LoopCore (k.assign a z) := by
  refine hk.onSlot (slotOk_serving (by simp) rfl rfl (Nat.zero_le 3) (Nat.zero_le 255) fun h => absurd rfl h)
    (fun b _ x hx => ?_) (flightOk_iff.mpr fun f hf => ?_) fun h => nomatch h
  · cases hx
    exact hfresh b
  · refine (flightOk_iff.mp hk.flight f hf).imp_right fun hwork => ?_
    have hstate : ∀ b, k.slotState b ≠ .vacant → (k.assign a z).slotState b = k.slotState b := by
      intro b hb
      rw [Loop.assign, onSlot_slotState, if_neg]
      rintro rfl
      exact hb hvacant
    obtain ⟨t, d⟩ := f
    cases t with
    | identify b probe =>
      cases probe <;> exact (hstate b (by simp [show k.slotState b = _ from hwork])).trans hwork
    | status b => exact (hstate b (by simp [show k.slotState b = _ from hwork])).trans hwork
    | fetch b n => exact (hstate b (by simp [show k.slotState b = _ from hwork])).trans hwork
    | mark tag => trivial
    | loopReset => trivial

/-- A transaction in flight to a slot, disregarded from now on (R39). -/
def Loop.disregard (a : SlotId) (k : Loop) : Loop :=
  { k with
    flight := k.flight.map fun f => if f.transaction.slot = some a then { f with disregarded := true } else f }

theorem unassign_eq (a : SlotId) (k : Loop) : k.unassign a =
    if ((k.onSlot a fun _ => UnitSlot.reset).disregard a).addressing then
      (k.onSlot a fun _ => UnitSlot.reset).disregard a
    else ((k.onSlot a fun _ => UnitSlot.reset).disregard a).settleScan := rfl

theorem disregard_transaction (a : SlotId) (k : Loop) :
    (k.disregard a).flight.map Flight.transaction = k.flight.map Flight.transaction := by
  unfold Loop.disregard
  cases k.flight with
  | none => rfl
  | some f =>
    simp only [Option.map_some]
    split <;> rfl

/-- A transaction that is not to the emptied slot still has its work. -/
theorem hasWork_vacated {a : SlotId} {t : Transaction} (ht : t.slot ≠ some a) (hwork : hasWork k t) :
    hasWork (k.onSlot a fun _ => UnitSlot.reset) t := by
  have hstate : ∀ b, b ≠ a → (k.onSlot a fun _ => UnitSlot.reset).slotState b = k.slotState b := by
    intro b hb
    rw [onSlot_slotState, if_neg hb]
  cases t with
  | identify b probe =>
    have hb : b ≠ a := fun h => ht (congrArg some h)
    cases probe <;> exact (hstate b hb).trans hwork
  | status b => exact (hstate b fun h => ht (congrArg some h)).trans hwork
  | fetch b n => exact (hstate b fun h => ht (congrArg some h)).trans hwork
  | mark tag => trivial
  | loopReset => trivial

theorem LoopCore.vacated (hk : LoopCore k) (a : SlotId) :
    LoopCore ((k.onSlot a fun _ => UnitSlot.reset).disregard a) := by
  refine ⟨fun b => ?_, slotsApart_onSlot hk.apart (fun b _ z hz => nomatch hz),
    flightOk_iff.mpr fun f hf => ?_, fun hl hs hr hf => ?_, hk.scan⟩
  · simp only [Loop.disregard, onSlot_keeps, Bank8.get_modify]
    split
    · exact slotOk_reset
    · exact hk.slots b
  · obtain ⟨g, hg, rfl⟩ := Option.map_eq_some_iff.mp (show k.flight.map _ = some f from hf)
    split
    · exact .inl rfl
    · next hother => exact (flightOk_iff.mp hk.flight g hg).imp_right (hasWork_vacated hother)
  · rw [disregard_transaction] at hf
    refine activeFrom_zero_none.mpr fun b hb => ?_
    rw [show ((k.onSlot a fun _ => UnitSlot.reset).disregard a).slotState b =
      (k.onSlot a fun _ => UnitSlot.reset).slotState b from rfl, onSlot_slotState] at hb
    split at hb
    · cases hb
    · exact activeFrom_zero_none.mp (hk.latn hl hs hr hf) b hb

theorem LoopCore.unassign (hk : LoopCore k) (a : SlotId) : LoopCore (k.unassign a) := by
  rw [unassign_eq]
  split
  · exact hk.vacated a
  · exact (hk.vacated a).settleScan

theorem unassign_keeps (k : Loop) (a : SlotId) :
    (k.unassign a).slots = k.slots.modify a (fun _ => UnitSlot.reset) ∧
    ((k.unassign a).flight = none ↔ k.flight = none) ∧ (k.unassign a).pendingMark = k.pendingMark ∧
    (k.unassign a).pendingReset = k.pendingReset ∧ (k.scan = none → (k.unassign a).scan = none) := by
  rw [unassign_eq]
  split
  · simp [Loop.disregard]
  · refine ⟨by simp [Loop.disregard], by simp [Loop.disregard], by simp [Loop.disregard],
      by simp [Loop.disregard], fun h => ?_⟩
    rw [settleScan_of_no_scan (by simpa [Loop.disregard] using h)]
    simpa [Loop.disregard] using h

theorem loopBusy_unassign (hk : loopBusy k) (a : SlotId) : loopBusy (k.unassign a) := by
  obtain ⟨hslots, hflight, hmark, hreset, hscan⟩ := unassign_keeps k a
  intro hfree
  obtain ⟨hnoMark, hnoReset, hnoScan, hnoWork⟩ := hk (hflight.mp hfree)
  refine ⟨hmark.trans hnoMark, hreset.trans hnoReset, hscan hnoScan, identification_none_iff.mpr ?_⟩
  obtain ⟨hseeking, hprobes⟩ := identification_none_iff.mp hnoWork
  simp only [Loop.slotState, hslots, Bank8.get_modify]
  refine ⟨fun b => ?_, fun b => ?_⟩
  · split
    · simp [UnitSlot.reset]
    · exact hseeking b
  · split
    · intro h
      cases h
    · exact hprobes b

/-! ## Reads -/

theorem loopBusy_onSlot (hk : loopBusy k) {a : SlotId} {f : UnitSlot → UnitSlot}
    (hstate : (f (k.slots.get a)).state = (k.slots.get a).state)
    (hreseek : (f (k.slots.get a)).reseek = (k.slots.get a).reseek) : loopBusy (k.onSlot a f) := by
  intro hfree
  obtain ⟨hnoMark, hnoReset, hnoScan, hnoWork⟩ := hk hfree
  refine ⟨hnoMark, hnoReset, hnoScan, identification_none_iff.mpr ?_⟩
  obtain ⟨hseeking, hprobes⟩ := identification_none_iff.mp hnoWork
  have htimer : ∀ b, ((k.onSlot a f).slots.get b).reseek = (k.slots.get b).reseek := by
    intro b
    rw [(onSlot_keeps k a f).1, Bank8.get_modify]
    split
    · next hb => rw [hb, hreseek]
    · rfl
  simp only [onSlot_same_slotState hstate, htimer]
  exact ⟨hseeking, hprobes⟩

theorem clearFlags_loopOk (l : List SlotId) (hk : LoopCore k ∧ loopBusy k) :
    LoopCore (l.foldl (fun k a => k.onSlot a UnitSlot.clearFlags) k) ∧
      loopBusy (l.foldl (fun k a => k.onSlot a UnitSlot.clearFlags) k) :=
  List.foldlRecOn l _ (motive := fun j => LoopCore j ∧ loopBusy j) hk fun _ hj a _ =>
    ⟨hj.1.onSlotSame (slotOk_clearFlags (hj.1.slots a)) rfl rfl, loopBusy_onSlot hj.2 rfl rfl⟩

end

/-! ## Within the part -/

section
variable {s t : State}

theorem LoopCore.handRecord (h : LoopCore s.loop) (a : SlotId) (r : MeasurementRecord) :
    LoopCore (s.handRecord a r).loop := by
  simp only [State.handRecord]
  split
  · exact h
  · next z hz =>
    have hserving : (s.loop.slots.get a).state ≠ .vacant := by
      have hzone := (h.slots a).2.1
      simpa [hz] using hzone
    have hflag : ∀ v : Verdict, LoopCore (s.onLoop (Loop.onSlot a (UnitSlot.flag v))).loop := by
      intro v
      refine h.onSlotSame (slotOk_flag (h.slots a) hserving v) ?_ ?_ <;> cases v <;> rfl
    split
    · simpa using hflag _
    · exact hflag _

theorem LoopCore.acceptReply {tr : Transaction} (h : LoopCore s.loop) (hfree : s.loop.flight = none)
    (hwork : hasWork s.loop tr) (r : Reply) : LoopCore (s.acceptReply tr r).loop := by
  unfold State.acceptReply
  split
  case h_1 => simpa [State.loopMove] using h.identified hfree hwork _ _ _
  case h_2 => simpa [State.loopMove] using h.probed hfree hwork _ _ _
  case h_3 => simpa [State.loopMove] using h.statusTaken hfree hwork _ _
  case h_4 => exact LoopCore.fetchTaken (k := s.loop) h hfree hwork false
  case h_5 => exact LoopCore.handRecord (s := s.onLoop (Loop.fetchTaken _ true)) (LoopCore.fetchTaken (k := s.loop) h hfree hwork true) _ _
  case h_6 => exact h

theorem slot_not_reset {t : Transaction} (h : t.slot.isNone ≠ true) : t ≠ .loopReset := by
  rintro rfl
  exact h rfl

/-- The loop freed of an addressed transaction, with what its outcome had to go on. -/
theorem LoopCore.freed {f : Flight} (h : LoopCore s.loop) (hf : s.loop.flight = some f)
    (hslot : f.transaction.slot.isNone ≠ true) :
    LoopCore (s.onLoop Loop.free).loop ∧ (f.disregarded = false → hasWork s.loop.free f.transaction) := by
  refine ⟨LoopCore.free h ?_, fun hcounts => ?_⟩
  · rw [hf]
    exact fun heq => slot_not_reset hslot (Option.some.inj heq)
  · exact (flightOk_iff.mp h.flight f hf).resolve_left (by simp [hcounts])

theorem loopOk_failAttempt (h : loopOk s) : loopOk s.failAttempt := by
  obtain ⟨hcore, -⟩ := loopOk_core_iff.mp h
  unfold State.failAttempt
  split
  · exact h
  · next f hf =>
    split
    · exact h
    · next hslot =>
      obtain ⟨hfree, hwork⟩ := hcore.freed hf hslot
      refine loopOk_arbitrate ?_
      split
      · exact hfree
      · next hcounts =>
        simpa [State.loopMove] using hfree.attemptFails rfl (hwork (by simpa using hcounts)) s.now

theorem accepts_slot {t : Transaction} {r : Reply} (h : t.accepts r = true) : t.slot.isNone ≠ true := by
  cases t <;> cases r <;> simp [Transaction.accepts, Transaction.slot] at h ⊢

theorem loopOk_completeReply (h : loopOk s) (r : Option Reply) : loopOk (s.completeReply r) := by
  obtain ⟨hcore, -⟩ := loopOk_core_iff.mp h
  unfold State.completeReply
  split
  · next f r hf =>
    split
    · next haccepts =>
      obtain ⟨hfree, hwork⟩ := hcore.freed hf (accepts_slot haccepts)
      refine loopOk_arbitrate ?_
      split
      · exact hfree
      · next hcounts => exact hfree.acceptReply rfl (hwork (by simpa using hcounts)) r
    · exact loopOk_failAttempt h
  · exact loopOk_failAttempt h

theorem loopOk_congr (ht : t.loop = s.loop) (h : loopOk s) : loopOk t := by
  unfold loopOk
  rw [ht]
  exact h

theorem issueMark_loop (s : State) :
    s.issueMark.loop = ({ s.loop with pendingMark := some (s.timeBase.mark s.now).tag } : Loop).arbitrate := by
  unfold State.issueMark
  have hloop : s.takeOrder.2.loop = s.loop := by simp
  have htime : s.takeOrder.2.timeBase = s.timeBase := by simp
  have hnow : s.takeOrder.2.now = s.now := by simp
  generalize s.takeOrder = r at hloop htime hnow ⊢
  obtain ⟨o, u⟩ := r
  dsimp only at hloop htime hnow ⊢
  rw [foldl_keeps State.loop _ (fun _ _ => by simp)]
  simp [State.arbitrate, hloop, htime, hnow]

theorem loopOk_issueMark (h : loopOk s) : loopOk s.issueMark := by
  obtain ⟨⟨hslots, hapart, hflight, hlatn, hscan⟩, -⟩ := loopOk_core_iff.mp h
  exact loopOk_congr (s := (s.onLoop fun k => { k with pendingMark := some _ }).arbitrate) (issueMark_loop s)
    (loopOk_arbitrate ⟨hslots, hapart, hflight, hlatn, hscan⟩)

theorem loopOk_clockMoved (h : loopOk s) (hm : ClockMoved s t) : loopOk t := by
  obtain ⟨u, hu, ht⟩ := hm
  have hset : loopOk u := loopOk_congr hu.frame.2.2.2.2.2.2.2.2.2.1 h
  rcases ht with rfl | rfl
  · exact hset
  · exact loopOk_issueMark hset

theorem loopOk_reseekExpires (h : loopOk s) (a : SlotId) : loopOk (s.reseekExpires a) := by
  obtain ⟨hcore, -⟩ := loopOk_core_iff.mp h
  unfold State.reseekExpires
  split
  · next hlost _ =>
    exact loopOk_arbitrate (LoopCore.onSlotSame (k := s.loop) hcore (slotOk_timer (hcore.slots a) hlost _) rfl rfl)
  · exact h

theorem assignRefusal_none {a : SlotId} {z : ZoneId} (h : assignRefusal s a z = none) :
    (∀ b, (s.loop.slots.get b).zone ≠ some z) ∧ s.loop.slotState a = .vacant ∧ s.mode = .setup := by
  unfold assignRefusal at h
  split at h
  · cases h
  · next hfree =>
    split at h
    · cases h
    · next hmode =>
      rw [Bool.or_eq_true, not_or] at hfree
      obtain ⟨hserves, hvacant⟩ := hfree
      refine ⟨fun b hb => hserves (serves_iff.mpr ⟨b, hb⟩), by simpa using hvacant, ?_⟩
      cases hm : s.mode with
      | setup => rfl
      | _ => exact absurd (by rw [hm]; rfl) hmode

theorem loopOk_powerOn (level : Bool) (h : t.loop = { Loop.reset with latn := level }) : loopOk t := by
  obtain ⟨hslots, hapart, hflight, hbusy, -, hscan⟩ := loopOk_reset
  have hnone : ({ Loop.reset with latn := level } : Loop).activeFrom 0 = none :=
    (activeFrom_congr (k := Loop.reset) 0 rfl).trans (by decide)
  unfold loopOk
  rw [h]
  exact ⟨hslots, hapart, hflight, hbusy, fun _ _ _ _ => hnone, hscan⟩

theorem restartAll_loop (s : State) : s.restartAll.loop = s.loop.restart.arbitrate := by
  unfold State.restartAll
  have hloop : s.takeOrder.2.loop = s.loop := by simp
  generalize s.takeOrder = r at hloop ⊢
  obtain ⟨o, u⟩ := r
  dsimp only at hloop ⊢
  rw [State.arbitrate, onLoop_loop, State.recomputeTargets, eachStage_keeps State.loop _ (fun _ _ => by simp),
    eachStage_keeps State.loop _ (fun _ _ => by simp)]
  simp [State.resetBlocks, hloop]

/-- Every change keeps the loop sound: it leaves the loop alone, or the arbiter has the last word, or it only takes
work away. -/
theorem Change.keeps_loopOk (hc : Change s t) (h : loopOk s) : loopOk t := by
  obtain ⟨hcore, hbusy⟩ := loopOk_core_iff.mp h
  cases hc
  case expectedPoint => exact loopOk_clockMoved h (expectedPoint_clockMoved s)
  case pulse m => exact loopOk_clockMoved h (pulseAt_clockMoved s m)
  case windowEnd => exact loopOk_clockMoved h (windowEnd_clockMoved s)
  case lockLost => exact loopOk_clockMoved h (lockLost_clockMoved s)
  case toInternal hsource => exact loopOk_clockMoved h (toInternal_clockMoved s)
  case toPps hsource => exact loopOk_clockMoved h (toPps_clockMoved s)
  case latnFalls =>
    exact loopOk_arbitrate (s := s.onLoop _) ⟨hcore.slots, hcore.apart, hcore.flight, (fun hl => nomatch hl), hcore.scan⟩
  case latnRises =>
    exact loopOk_arbitrate (s := (s.onLoop _).onLoop _) (LoopCore.looked hcore.slots hcore.apart hcore.flight hcore.scan)
  case markSent tag hmark => exact loopOk_arbitrate (s := s.onLoop _) (hcore.free (by simp [hmark]))
  case loopResetDone hreset =>
    exact loopOk_arbitrate (s := (s.onLoop _).onLoop _) (LoopCore.looked hcore.slots hcore.apart rfl hcore.scan)
  case completeReply r => exact loopOk_completeReply h r
  case failAttempt => exact loopOk_failAttempt h
  case stall => exact loopOk_arbitrate (by simpa [State.loopMove] using hcore.stall s.now)
  case reseekExpires a => exact loopOk_reseekExpires h a
  case assignMonitor a z hnone =>
    obtain ⟨hfresh, hvacant, -⟩ := assignRefusal_none hnone
    exact loopOk_arbitrate (hcore.assign hvacant hfresh)
  case unassignMonitor a hserving hmode =>
    exact loopOk_core_iff.mpr ⟨hcore.unassign a, loopBusy_unassign hbusy a⟩
  case readMonitor l => exact loopOk_core_iff.mpr (clearFlags_loopOk l ⟨hcore, hbusy⟩)
  case restart hmode =>
    exact loopOk_congr (s := (s.onLoop Loop.restart).arbitrate) (restartAll_loop s) (loopOk_arbitrate hcore.restart)
  all_goals exact loopOk_congr (by simp) h

/-- Settles O60: a loop whose reads agree is made busy by the arbiter after every change that gives it work. -/
theorem loopStaysSound : Obligations.LoopStaysSound := by
  unfold Obligations.LoopStaysSound
  intro s t hok hstep
  refine step_keeps (P := fun s => loopOk s) (fun honly hs => ?_) (fun _ hs => hs)
    (fun s => loopOk_powerOn s.loop.latn rfl) (fun hchange => hchange.keeps_loopOk) hstep hok
  obtain ⟨k, r, -, rfl⟩ := honly
  exact hs

end

end Sys2Proof.Machine
end

section
/-! PROOFS. The exceedance list at a report, as an operation of the list alone (R144 to R151): what is taken from the
records held, what is opened behind them, and what both leave of the list's invariant. -/

namespace Sys2Proof.Machine

/-! ## Records by their pair -/

section
variable {r : Exceedance} {z : ZoneId} {p q : Metric × RecordKind} {c : CloseReport} {stages : Bank4 Bool}
  {l : List Exceedance}

theorem isFor_iff : r.isFor z p = true ↔ r.isOpen = true ∧ recordKey r = (z, p) := by
  obtain ⟨m, k⟩ := p
  simp [Exceedance.isFor, recordKey, and_assoc]

/-- A record as a report leaves it (R146, R148, R149). -/
def Exceedance.taken (c : CloseReport) (stages : Bank4 Bool) (r : Exceedance) : Exceedance :=
  if r.isOpen = true ∧ r.zone = c.zone then
    if c.active (r.metric, r.kind) then r.update c stages else r.close c.minute .cleared
  else r

/-- One pair's turn at a record. -/
def Exceedance.takenAt (c : CloseReport) (stages : Bank4 Bool) (p : Metric × RecordKind) (r : Exceedance) :
    Exceedance :=
  if r.isFor c.zone p then
    if c.active p then r.update c stages else r.close c.minute .cleared
  else r

theorem takePair_eq_map : takePair c stages p l = l.map (Exceedance.takenAt c stages p) := rfl

theorem taken_key (r : Exceedance) : recordKey (r.taken c stages) = recordKey r := by
  unfold Exceedance.taken
  (repeat' split) <;> rfl

theorem takenAt_of_other (h : r.isFor c.zone p = false) : r.takenAt c stages p = r := by
  simp [Exceedance.takenAt, h]

theorem isFor_other (h : (r.metric, r.kind) ≠ p) : r.isFor z p = false := by
  rw [Bool.eq_false_iff, ne_eq, isFor_iff]
  rintro ⟨-, hkey⟩
  exact h (congrArg Prod.snd hkey)

theorem takenAt_pair (r : Exceedance) :
    ((r.takenAt c stages p).metric, (r.takenAt c stages p).kind) = (r.metric, r.kind) := by
  unfold Exceedance.takenAt
  (repeat' split) <;> rfl

theorem takenAt_self (r : Exceedance) : r.takenAt c stages (r.metric, r.kind) = r.taken c stages := by
  unfold Exceedance.takenAt Exceedance.taken
  simp [Exceedance.isFor]

theorem foldl_takenAt_others {ps : List (Metric × RecordKind)} (h : (r.metric, r.kind) ∉ ps) :
    ps.foldl (fun r p => r.takenAt c stages p) r = r :=
  List.foldlRecOn ps _ (motive := fun q => q = r) rfl fun _ hq p hp => by
    rw [hq]
    exact takenAt_of_other (isFor_other fun hpair => h (hpair ▸ hp))

/-- In turn the pairs reach each record once, by its own. -/
theorem foldl_takenAt (r : Exceedance) : recordPairs.foldl (fun r p => r.takenAt c stages p) r = r.taken c stages := by
  have hmem : (r.metric, r.kind) ∈ recordPairs := by
    cases r.metric <;> cases r.kind <;> decide
  obtain ⟨before, after, hsplit⟩ := List.append_of_mem hmem
  have hnodup : (before ++ (r.metric, r.kind) :: after).Nodup := hsplit ▸ by decide
  obtain ⟨hbefore, hafter⟩ : (r.metric, r.kind) ∉ before ∧ (r.metric, r.kind) ∉ after := by
    simpa using (List.nodup_middle.mp hnodup).notMem
  have hpair : ((r.taken c stages).metric, (r.taken c stages).kind) = (r.metric, r.kind) :=
    congrArg Prod.snd (taken_key r)
  rw [hsplit, List.foldl_append, foldl_takenAt_others hbefore, List.foldl_cons, takenAt_self,
    foldl_takenAt_others (hpair ▸ hafter)]

theorem foldl_takePair (ps : List (Metric × RecordKind)) (l : List Exceedance) :
    ps.foldl (fun l p => takePair c stages p l) l =
      l.map fun r => ps.foldl (fun r p => r.takenAt c stages p) r := by
  induction ps generalizing l with
  | nil => simp
  | cons p ps ih => rw [List.foldl_cons, ih, takePair_eq_map, List.map_map]; rfl

/-- What a report makes of the records held (R146, R148, R149). -/
theorem held_eq (l : List Exceedance) :
    recordPairs.foldl (fun l p => takePair c stages p l) l = l.map (Exceedance.taken c stages) := by
  rw [foldl_takePair, List.map_congr_left fun r _ => foldl_takenAt r]

theorem taken_isFor (r : Exceedance) :
    (r.taken c stages).isFor z p = (r.isFor z p && (decide (z ≠ c.zone) || c.active p)) := by
  have hkey := taken_key (c := c) (stages := stages) r
  rw [Bool.eq_iff_iff, isFor_iff, hkey, Bool.and_eq_true, isFor_iff]
  unfold Exceedance.taken
  by_cases hk : recordKey r = (z, p)
  · obtain ⟨rfl, rfl⟩ := Prod.mk.injEq .. ▸ hk
    split
    · next hheld =>
      obtain ⟨hopen, hzone⟩ := hheld
      split
      · next hactive => simp [Exceedance.update, Exceedance.isOpen, hactive]
      · next hactive => simp [Exceedance.close, Exceedance.isOpen, hactive, hzone]
    · next hother =>
      simp only [hk, and_true, decide_not, Bool.or_eq_true, Bool.not_eq_true', decide_eq_false_iff_not]
      exact ⟨fun hopen => ⟨hopen, .inl fun hzone => hother ⟨hopen, hzone⟩⟩, fun h => h.1⟩
  · simp [hk]

/-! ## Openings -/

theorem any_isFor (l : List Exceedance) :
    l.any (Exceedance.isFor z p) = (l.filter Exceedance.isOpen).any (Exceedance.isFor z p) := by
  rw [List.any_filter]
  congr 1
  funext r
  rw [Bool.eq_iff_iff, Bool.and_eq_true, isFor_iff]
  tauto

/-- Only a closed record leaves for room (R151). -/
theorem makeRoom_open (l : List Exceedance) :
    (makeRoom l).filter Exceedance.isOpen = l.filter Exceedance.isOpen := by
  have herase : ∀ l : List Exceedance,
      (l.eraseP fun r => !r.isOpen).filter Exceedance.isOpen = l.filter Exceedance.isOpen := by
    intro l
    induction l with
    | nil => rfl
    | cons r l ih =>
      cases hopen : r.isOpen with
      | false => simp [hopen]
      | true => simp [hopen, ih]
  unfold makeRoom
  split
  · exact herase l
  · rfl

theorem openedRecord_isFor (n : Nat) :
    (openedRecord n c stages p).isFor z q = (decide (z = c.zone) && decide (q = p)) := by
  rw [Bool.eq_iff_iff, isFor_iff]
  constructor
  · rintro ⟨-, hkey⟩
    obtain ⟨rfl, rfl⟩ := Prod.mk.inj (show (c.zone, p) = (z, q) from hkey)
    simp
  · intro h
    obtain ⟨rfl, rfl⟩ : z = c.zone ∧ q = p := by simpa using h
    exact ⟨rfl, rfl⟩

/-- One pair's opening, as an operation of the list (R147, R151). -/
def RecordList.openPair (c : CloseReport) (stages : Bank4 Bool) (p : Metric × RecordKind) (x : RecordList) :
    RecordList :=
  if c.active p && !x.records.any (Exceedance.isFor c.zone p) then
    ⟨makeRoom x.records ++ [openedRecord x.counter c stages p], (x.counter + 1) % 65536⟩
  else x

theorem openPair_exceedances (s : State) :
    (s.openPair c stages p).exceedances = s.exceedances.openPair c stages p := by
  simp only [State.openPair, RecordList.openPair]
  split <;> simp

theorem openPair_isFor (x : RecordList) :
    (x.openPair c stages p).records.any (Exceedance.isFor z q) =
      (x.records.any (Exceedance.isFor z q) || (decide (z = c.zone) && decide (q = p) && c.active p)) := by
  unfold RecordList.openPair
  split
  · next hopens =>
    obtain ⟨hactive, -⟩ := (Bool.and_eq_true _ _).mp hopens
    rw [List.any_append, any_isFor (makeRoom _), makeRoom_open, ← any_isFor, hactive]
    simp [openedRecord_isFor]
  · next hkept =>
    by_cases hpair : z = c.zone ∧ q = p
    · obtain ⟨rfl, rfl⟩ := hpair
      cases hactive : c.active q <;> simp_all
    · rw [← Bool.decide_and, decide_eq_false hpair]
      simp

/-- A report at the list: the records held are taken, then the openings are made (R146). -/
def RecordList.takeReport (c : CloseReport) (stages : Bank4 Bool) (x : RecordList) : RecordList :=
  recordPairs.foldl (fun x p => x.openPair c stages p) ⟨x.records.map (Exceedance.taken c stages), x.counter⟩

theorem servePairs_exceedances (ps : List (Metric × RecordKind)) (s : State) :
    (ps.foldl (fun s p => s.servePair c stages p) s).exceedances =
      ⟨ps.foldl (fun l p => takePair c stages p l) s.exceedances.records, s.exceedances.counter⟩ := by
  induction ps generalizing s with
  | nil => rfl
  | cons p ps ih => rw [List.foldl_cons, ih, servePair_counter]; rfl

theorem openPairs_exceedances (ps : List (Metric × RecordKind)) (s : State) :
    (ps.foldl (fun s p => s.openPair c stages p) s).exceedances =
      ps.foldl (fun x p => x.openPair c stages p) s.exceedances := by
  induction ps generalizing s with
  | nil => rfl
  | cons p ps ih => rw [List.foldl_cons, ih, openPair_exceedances]; rfl

theorem takeReportSeeing_exceedances (s : State) :
    (s.takeReportSeeing stages c).exceedances = s.exceedances.takeReport c stages := by
  simp only [State.takeReportSeeing, openPairs_exceedances, servePairs_exceedances, held_eq]
  rfl

theorem openPairs_isFor (ps : List (Metric × RecordKind)) (x : RecordList) :
    (ps.foldl (fun x p => x.openPair c stages p) x).records.any (Exceedance.isFor z q) =
      (x.records.any (Exceedance.isFor z q) || (decide (z = c.zone) && decide (q ∈ ps) && c.active q)) := by
  induction ps generalizing x with
  | nil => simp
  | cons p ps ih =>
    rw [List.foldl_cons, ih, openPair_isFor, Bool.or_assoc]
    by_cases hq : q = p
    · subst hq
      cases decide (z = c.zone) <;> cases c.active q <;> simp
    · simp [hq]

/-- After a report the zone has a record open exactly for each active pair, and the others are as they were (R146). -/
theorem takeReport_isFor (x : RecordList) :
    (x.takeReport c stages).records.any (Exceedance.isFor z p) =
      if z = c.zone then c.active p else x.records.any (Exceedance.isFor z p) := by
  have hmem : p ∈ recordPairs := by
    obtain ⟨m, k⟩ := p
    cases m <;> cases k <;> decide
  have hheld : (x.records.map (Exceedance.taken c stages)).any (Exceedance.isFor z p) =
      (x.records.any (Exceedance.isFor z p) && (decide (z ≠ c.zone) || c.active p)) := by
    rw [List.any_map, Bool.eq_iff_iff]
    simp only [List.any_eq_true, Function.comp, taken_isFor, Bool.and_eq_true]
    exact ⟨fun ⟨r, hr, hfor, ha⟩ => ⟨⟨r, hr, hfor⟩, ha⟩, fun ⟨⟨r, hr, hfor⟩, ha⟩ => ⟨r, hr, hfor, ha⟩⟩
  rw [RecordList.takeReport, openPairs_isFor, hheld, decide_eq_true hmem]
  by_cases hz : z = c.zone
  · cases x.records.any (Exceedance.isFor z p) <;> simp [hz]
  · simp [hz]

/-! ## The list's invariant (R144, R145, R151) -/

/-- The list within its bounds, with one open record at most for each zone, metric and kind. -/
def listKept (x : RecordList) : Prop :=
  x.records.length ≤ 48 ∧ x.counter < 65536 ∧ (∀ r ∈ x.records, recordOk r) ∧
  ((x.records.filter Exceedance.isOpen).map recordKey).Nodup

theorem recordsOk_iff {s : State} : recordsOk s ↔ listKept s.exceedances := .rfl

/-- Every zone with every metric and kind. -/
def allKeys : List (ZoneId × Metric × RecordKind) := allZones.flatMap fun z => recordPairs.map fun p => (z, p)

theorem mem_allKeys (k : ZoneId × Metric × RecordKind) : k ∈ allKeys := by
  obtain ⟨z, m, kd⟩ := k
  refine List.mem_flatMap.mpr ⟨z, mem_allZones z, List.mem_map.mpr ⟨(m, kd), ?_, rfl⟩⟩
  cases m <;> cases kd <;> decide

/-- There is never an open record for each of the 48 entries: a closed one can leave (R144, R145). -/
theorem exists_closed (hnodup : ((l.filter Exceedance.isOpen).map recordKey).Nodup) (hfull : 48 ≤ l.length) :
    ∃ r ∈ l, (!r.isOpen) = true := by
  by_contra! hall
  have hopen : l.filter Exceedance.isOpen = l :=
    List.filter_eq_self.mpr fun r hr => by simpa using hall r hr
  rw [hopen] at hnodup
  have hfew := (hnodup.subperm fun k _ => mem_allKeys k).length_le
  rw [List.length_map, show allKeys.length = 32 by decide] at hfew
  omega

theorem makeRoom_length (hnodup : ((l.filter Exceedance.isOpen).map recordKey).Nodup) (hlen : l.length ≤ 48) :
    (makeRoom l).length = min 47 l.length := by
  unfold makeRoom
  split
  · next hfull =>
    obtain ⟨r, hr, hclosed⟩ := exists_closed hnodup hfull
    rw [List.length_eraseP_of_mem hr hclosed]
    have : 48 ≤ l.length := hfull
    omega
  · next hroom =>
    have : ¬48 ≤ l.length := hroom
    omega

theorem recordOk_taken (h : recordOk r) : recordOk (r.taken c stages) := by
  obtain ⟨hnumber, ⟨hlong, hshort⟩, hsubst, hend⟩ := h
  unfold Exceedance.taken
  split
  · next hheld =>
    split
    · refine ⟨hnumber, ⟨le_min (by decide) (by simp), min_le_left _ _⟩, ?_, hend⟩
      simp only [Exceedance.update]
      split <;> omega
    · exact ⟨hnumber, ⟨hlong, hshort⟩, hsubst, fun h => nomatch h⟩
  · exact ⟨hnumber, ⟨hlong, hshort⟩, hsubst, hend⟩

theorem taken_isOpen (h : (r.taken c stages).isOpen = true) : r.isOpen = true := by
  unfold Exceedance.taken at h
  split at h
  · next hheld => exact hheld.1
  · exact h

/-- What opens no record and moves none leaves the open ones apart. -/
theorem open_nodup_map {f : Exceedance → Exceedance} (hkey : ∀ r, recordKey (f r) = recordKey r)
    (hopen : ∀ r, (f r).isOpen = true → r.isOpen = true)
    (h : ((l.filter Exceedance.isOpen).map recordKey).Nodup) :
    (((l.map f).filter Exceedance.isOpen).map recordKey).Nodup := by
  refine h.sublist ?_
  rw [List.filter_map, List.map_map]
  have hsub : (l.filter (Exceedance.isOpen ∘ f)).Sublist (l.filter Exceedance.isOpen) :=
    List.monotone_filter_right l fun r hr => hopen r hr
  have hmap := hsub.map recordKey
  rwa [List.map_congr_left (g := recordKey ∘ f) fun r _ => (hkey r).symm] at hmap

theorem listKept_taken {x : RecordList} (h : listKept x) :
    listKept ⟨x.records.map (Exceedance.taken c stages), x.counter⟩ := by
  obtain ⟨hlen, hcounter, hrecords, hnodup⟩ := h
  refine ⟨by simpa using hlen, hcounter, fun r hr => ?_, open_nodup_map taken_key (fun _ => taken_isOpen) hnodup⟩
  obtain ⟨q, hq, rfl⟩ := List.mem_map.mp hr
  exact recordOk_taken (hrecords q hq)

theorem listKept_openPair {x : RecordList} (h : listKept x) : listKept (x.openPair c stages p) := by
  unfold RecordList.openPair
  split
  · next hopens =>
    obtain ⟨hlen, hcounter, hrecords, hnodup⟩ := h
    have hnone : x.records.any (Exceedance.isFor c.zone p) = false := by
      simpa using ((Bool.and_eq_true _ _).mp hopens).2
    refine ⟨?_, Nat.mod_lt _ (by decide), fun r hr => ?_, ?_⟩
    · rw [List.length_append, makeRoom_length hnodup hlen, List.length_singleton]
      omega
    · rcases List.mem_append.mp hr with hheld | hnew
      · exact hrecords r ((makeRoom_sublist _).subset hheld)
      · obtain rfl := List.mem_singleton.mp hnew
        refine ⟨hcounter, ⟨le_rfl, by simp [openedRecord]⟩, ?_, fun _ => rfl⟩
        simp only [openedRecord]
        split <;> omega
    · rw [List.filter_append, makeRoom_open, List.map_append]
      refine hnodup.append (List.Nodup.map_on (by simp) (List.Nodup.filter _ (List.nodup_singleton _))) ?_
      rw [List.disjoint_right]
      intro k hk hheld
      obtain ⟨new, hnew, rfl⟩ := List.mem_map.mp hk
      obtain rfl := List.mem_singleton.mp (List.mem_of_mem_filter hnew)
      obtain ⟨old, hold, hkey⟩ := List.mem_map.mp hheld
      obtain ⟨hmem, hopen⟩ := List.mem_filter.mp hold
      exact Bool.eq_false_iff.mp hnone (List.any_eq_true.mpr ⟨old, hmem, isFor_iff.mpr ⟨hopen, hkey⟩⟩)
  · exact h

theorem listKept_takeReport {x : RecordList} (h : listKept x) : listKept (x.takeReport c stages) :=
  List.foldlRecOn recordPairs _ (motive := listKept) (listKept_taken h) fun _ hx _ _ => listKept_openPair hx

end

end Sys2Proof.Machine
end

section
/-! PROOFS. One zone account: what a close, a write and a reset keep of its bounds (R56, R58, R66 to R80). -/

namespace Sys2Proof.Machine

section
variable {zn : Zone}

/-! ## Levels and energies -/

theorem levelToEnergy_le {l : Nat} (h : levelOk l) : levelToEnergy l ≤ 2 ^ 40 := by
  have htop := levelToEnergy_mono h.1 h.2 le_rfl
  exact htop.trans (by decide)

theorem measuredLevels_ok (r : MeasurementRecord) :
    levelOk (measuredLevels r).broad ∧ levelOk (measuredLevels r).low := by
  unfold measuredLevels
  split
  · exact ⟨by decide, by decide⟩
  · exact ⟨clampLevel_within _, clampLevel_within _⟩

/-- What a close finds of its second lies in the accounting range (R67, R68). -/
theorem closing_ok (hconfig : zoneConfigOk zn.config) (hhold : ∀ h ∈ zn.hold, levelOk h.broad ∧ levelOk h.low)
    (rec : Option MeasurementRecord) :
    (∀ m, levelOk ((zn.closing rec).levels.get m)) ∧
    ∀ h ∈ (zn.closing rec).hold, levelOk h.broad ∧ levelOk h.low := by
  have hget : ∀ v : Pair Nat, levelOk v.broad ∧ levelOk v.low → ∀ m, levelOk (v.get m) := by
    rintro v ⟨hbroad, hlow⟩ m
    cases m
    · exact hbroad
    · exact hlow
  have hfallback : levelOk zn.config.fallback.broad ∧ levelOk zn.config.fallback.low :=
    hconfig.2.2.2.2.2.2.2.2.2.2
  by_cases h : ∀ r ∈ rec, usable r = false
  · rw [closing_of_no_usable zn h]
    refine ⟨hget _ ?_, hhold⟩
    split
    · cases hheld : zn.hold with
      | none => exact hfallback
      | some v => exact hhold v hheld
    · exact hfallback
  · push Not at h
    obtain ⟨r, rfl, hr⟩ := h
    rw [closing_of_usable zn (by simpa using hr)]
    refine ⟨hget _ (measuredLevels_ok r), fun v hv => ?_⟩
    obtain rfl := Option.some.inj hv
    exact measuredLevels_ok r

/-! ## Rings -/

theorem pushSecond_le {l : List Nat} {b e : Nat} (hl : ∀ x ∈ l, x ≤ b) (he : e ≤ b) : ∀ x ∈ pushSecond l e, x ≤ b := by
  intro x hx
  rw [pushSecond_eq_newest] at hx
  rcases List.mem_append.mp (List.mem_of_mem_drop hx) with hold | hnew
  · exact hl x hold
  · rw [List.mem_singleton.mp hnew]
    exact he

/-- A slot of the minute ring in its bounds (R71). -/
def slotFits (m : MinuteSlot) : Prop :=
  within 1 60 m.counted ∧ m.substituted ≤ m.counted ∧ m.sums.broad ≤ m.counted * 2 ^ 40 ∧
  m.sums.low ≤ m.counted * 2 ^ 40

theorem add_fits {m : MinuteSlot} (hcounted : m.counted < 60) (hsubst : m.substituted ≤ m.counted)
    (hbroad : m.sums.broad ≤ m.counted * 2 ^ 40) (hlow : m.sums.low ≤ m.counted * 2 ^ 40) {e : Pair Nat}
    (he : e.broad ≤ 2 ^ 40 ∧ e.low ≤ 2 ^ 40) (b : Bool) : slotFits (m.add e b) := by
  obtain ⟨hebroad, helow⟩ := he
  refine ⟨⟨?_, ?_⟩, ?_, ?_, ?_⟩ <;> simp only [MinuteSlot.add]
  · omega
  · omega
  · split <;> omega
  · omega
  · omega

theorem pushMinute_fits {l : List MinuteSlot} (hl : ∀ m ∈ l, slotFits m) {e : Pair Nat}
    (he : e.broad ≤ 2 ^ 40 ∧ e.low ≤ 2 ^ 40) (minute : Option Nat) (b : Bool) :
    ∀ m ∈ pushMinute l minute e b, slotFits m := by
  intro m hm
  unfold pushMinute at hm
  split at hm
  · rcases List.mem_append.mp hm with hold | hnew
    · refine hl m ?_
      split at hold
      · exact List.mem_of_mem_drop hold
      · exact hold
    · rw [List.mem_singleton.mp hnew]
      exact add_fits (by simp) le_rfl (Nat.zero_le _) (Nat.zero_le _) he b
  · next hextends =>
    split at hm
    · exact hl m hm
    · next last hlast =>
      rcases List.mem_append.mp hm with hold | hnew
      · exact hl m (List.mem_of_mem_dropLast hold)
      · have hroom : last.counted < 60 := by
          have hno := mt (opensSlot_iff_of_getLast? hlast minute).mpr hextends
          omega
        obtain ⟨-, hsubst, hbroad, hlow⟩ := hl last (List.mem_of_getLast? hlast)
        rw [List.mem_singleton.mp hnew]
        exact add_fits hroom hsubst hbroad hlow he b

/-! ## A close -/

theorem steer_within {cfg : ZoneConfig} (hcfg : cfg.releaseInterval ≤ 60) (now : Nat) (x : Int) (b : DemandBranch)
    (v : Steering) : (steer cfg now x b v).demand ≤ 96 ∧ (steer cfg now x b v).releaseCount ≤ 59 := by
  cases b with
  | fast => exact ⟨min_le_left _ _, Nat.zero_le _⟩
  | attack => exact ⟨min_le_left _ _, Nat.zero_le _⟩
  | hold => exact ⟨min_le_left _ _, Nat.zero_le _⟩
  | release =>
    simp only [steer]
    split
    · exact ⟨min_le_left _ _, Nat.zero_le _⟩
    · exact ⟨min_le_left _ _, by dsimp only; omega⟩

theorem nextFast_ok {f : FastFlag} (h : fastFlagOk f) (e : Int) : fastFlagOk (nextFast e f) := by
  obtain ⟨hquiet, -⟩ := h
  unfold nextFast
  split
  · exact ⟨Nat.zero_le _, fun h => nomatch h⟩
  · split
    · split
      · exact ⟨Nat.zero_le _, fun _ => rfl⟩
      · exact ⟨by dsimp only; omega, fun h => nomatch h⟩
    · exact ⟨Nat.zero_le _, fun _ => rfl⟩

/-- A close keeps an enabled account in its bounds (R66). -/
theorem zoneOk_close (h : zoneOk zn) (henabled : zn.enabled = true) (now : Nat) (limits : Pair Nat) (aw : Awaiting)
    (rec : Option MeasurementRecord) : zoneOk (zn.close now limits aw rec) := by
  obtain ⟨hconfig, -, -, -, -, -, hfastBroad, hfastLow, -, hrings, hhold, -⟩ := h
  obtain ⟨hbroadLen, hlowLen, hbroad, hlow, hslotsLen, hslots⟩ := hrings
  obtain ⟨hlevels, hnewHold⟩ := closing_ok hconfig hhold rec
  obtain ⟨kconfig, kenabled, -, krun, kfeed, khold⟩ := close_keeps zn now limits aw rec
  have hinterval : zn.config.releaseInterval ≤ 60 := hconfig.2.2.2.2.2.2.2.2.2.1.2
  have hsteer := fun x b v => steer_within hinterval now x b v
  refine ⟨by rwa [kconfig], fun hoff => ?_, fun _ => by rw [kfeed, krun], ?_, (hsteer _ _ _).1, (hsteer _ _ _).2,
    nextFast_ok hfastBroad _, nextFast_ok hfastLow _, ?_, ?_, ?_, ?_⟩
  · rw [kenabled, henabled] at hoff
    cases hoff
  · rw [krun]
    exact closing_missingRun zn rec
  · rw [close_slots]
    exact ⟨(fun h => nomatch h), fun h => absurd h (pushMinute_ne_nil _ _ _ _)⟩
  · have henergy : ∀ m, levelToEnergy (((zn.closing rec).levels.get m : Nat) : Int) ≤ 2 ^ 40 :=
      fun m => levelToEnergy_le (hlevels m)
    exact ⟨pushSecond_length _ _ hbroadLen, pushSecond_length _ _ hlowLen,
      pushSecond_le hbroad (henergy .broad), pushSecond_le hlow (henergy .low),
      pushMinute_length _ _ _ _ hslotsLen,
      pushMinute_fits hslots ⟨henergy .broad, henergy .low⟩ _ _⟩
  · rwa [khold]
  · intro v hv m _
    rw [close_levels_get hv m]
    exact ⟨hlevels m, energyToLevel_within _, energyToLevel_within _⟩

/-! ## Resets and writes -/

/-- An account at its cleared values, but for the snapshot, the enabling and its feed state. -/
theorem zoneOk_cleared (h : zoneConfigOk zn.config) : zoneOk zn.cleared := by
  have hflag : fastFlagOk ⟨false, 0⟩ := ⟨Nat.zero_le _, fun _ => rfl⟩
  refine ⟨h, fun _ => rfl, (fun h => nomatch h), Nat.zero_le _, Nat.zero_le _, Nat.zero_le _, hflag, hflag,
    ⟨fun _ => rfl, fun _ => rfl⟩, ?_, ?_, ?_⟩ <;> simp [Zone.cleared, Zone.reset]

theorem zoneOk_enable (h : zoneConfigOk zn.config) : zoneOk zn.enable := by
  obtain ⟨hconfig, -, -, hrest⟩ := zoneOk_cleared h
  exact ⟨hconfig, (fun h => nomatch h), fun _ => rfl, hrest⟩

/-- The snapshot may take any value. -/
theorem zoneOk_snapshot (h : zoneOk zn) (v : Pair Snapshot) : zoneOk { zn with snapshot := v } := by
  obtain ⟨hconfig, hoff, hrest⟩ := h
  refine ⟨hconfig, fun h => ?_, hrest⟩
  exact congrArg (fun y : Zone => { y with snapshot := v }) (hoff h)

theorem zoneOk_restart (h : zoneOk zn) : zoneOk zn.restart := by
  unfold Zone.restart
  split
  · exact zoneOk_snapshot (zoneOk_enable h.1) _
  · exact h

theorem zoneConfigOk_write {c : ZoneConfig} (h : zoneConfigOk c) (f : SetZoneFields) : zoneConfigOk (c.write f) := by
  obtain ⟨hwindow, hguard, hfast, hrelease, hhysteresis, hwarn, hstep, hcap, hperiod, hinterval, hbroad, hlow⟩ := h
  exact ⟨writeField_within (by decide) hwindow _, writeField_le hguard _, writeField_le hfast _,
    writeField_le hrelease _, writeField_le hhysteresis _, writeField_le hwarn _,
    writeField_within (by decide) hstep _, writeField_within (by decide) hcap _,
    writeField_within (by decide) hperiod _, writeField_within (by decide) hinterval _,
    writeField_within (by decide) hbroad _, writeField_within (by decide) hlow _⟩

theorem zoneOk_config (h : zoneOk zn) {c : ZoneConfig} (hc : zoneConfigOk c) : zoneOk { zn with config := c } := by
  obtain ⟨-, hoff, hrest⟩ := h
  refine ⟨hc, fun h => ?_, hrest⟩
  exact congrArg (fun y : Zone => { y with config := c }) (hoff h)

/-- An enabled account's awaiting second and settle timer may take any value. -/
theorem zoneOk_waiting (h : zoneOk zn) (henabled : zn.enabled = true) (aw : Option Awaiting) (due : Option Nat) :
    zoneOk { zn with awaiting := aw, settle := due } := by
  obtain ⟨hconfig, -, hrest⟩ := h
  exact ⟨hconfig, fun h => absurd (henabled.symm.trans h) (by decide), hrest⟩

theorem settle_of_disabled (h : zoneOk zn) (hoff : zn.enabled = false) : zn.settle = none := by
  rw [h.2.1 hoff]
  rfl

end

end Sys2Proof.Machine
end

section
/-! PROOFS. The zone accounts and the exceedance list together (R144 to R155), and O58. -/

namespace Sys2Proof.Machine

/-! ## Agreement of one zone with the list (R146, R150) -/

/-- The records open for a zone are those its account asks for. -/
def agrees (x : RecordList) (z : ZoneId) (zn : Zone) : Prop :=
  (zn.enabled = false → ∀ p, x.records.any (Exceedance.isFor z p) = false) ∧
  (zn.levels ≠ none → ∀ m,
    x.records.any (Exceedance.isFor z (m, .rolling)) = decide (zn.conditions.get m = .over) ∧
    x.records.any (Exceedance.isFor z (m, .fast)) = (zn.fast.get m).isSet)

theorem none_open_iff {l : List Exceedance} {z : ZoneId} :
    l.any (fun r => r.isOpen && decide (r.zone = z)) = false ↔ ∀ p, l.any (Exceedance.isFor z p) = false := by
  simp only [List.any_eq_false, Bool.and_eq_true, decide_eq_true_eq, isFor_iff, not_and]
  exact ⟨fun h p r hr hopen hkey => h r hr hopen (congrArg Prod.fst hkey),
    fun h r hr hopen hzone => h (r.metric, r.kind) r hr hopen (by rw [← hzone])⟩

theorem recordsAgree_iff {s : State} : recordsAgree s ↔ ∀ z, agrees s.exceedances z (s.zones.get z) := by
  simp only [recordsAgree, agrees, none_open_iff, List.mem_cons, List.not_mem_nil, or_false]
  refine forall_congr' fun z => and_congr_right fun _ => imp_congr_right fun _ => ⟨fun h m => ?_, fun h m _ => h m⟩
  cases m
  · exact h .broad (.inl rfl)
  · exact h .low (.inr rfl)

theorem agrees_congr {x y : RecordList} {z : ZoneId} {zn zn' : Zone} (h : agrees x z zn)
    (hopen : ∀ p, y.records.any (Exceedance.isFor z p) = x.records.any (Exceedance.isFor z p))
    (henabled : zn'.enabled = zn.enabled) (hlevels : zn'.levels = zn.levels) (hconditions : zn'.conditions = zn.conditions)
    (hfast : zn'.fast = zn.fast) : agrees y z zn' := by
  unfold agrees
  simp only [hopen, henabled, hlevels, hconditions, hfast]
  exact h

/-- A zone without levels has no record open but where it is enabled. -/
theorem agrees_fresh {x : RecordList} {z : ZoneId} {zn : Zone} (hlevels : zn.levels = none)
    (hopen : zn.enabled = false → ∀ p, x.records.any (Exceedance.isFor z p) = false) : agrees x z zn :=
  ⟨hopen, fun h => absurd hlevels h⟩

/-- The zone accounts and the list, sound and in agreement. -/
def AccountsSound (s : State) : Prop := zonesOk s ∧ recordsOk s ∧ recordsAgree s ∧ reportsOk s

section
variable {s t : State}

theorem AccountsSound.framed (hs : AccountsSound s) (hzones : t.zones = s.zones)
    (hlist : t.exceedances = s.exceedances) (hreports : t.reports = s.reports) : AccountsSound t := by
  unfold AccountsSound zonesOk recordsOk recordsAgree reportsOk
  rw [hzones, hlist, hreports]
  exact hs

/-- One zone's account and the list, the others as they were. -/
theorem AccountsSound.one (hs : AccountsSound s) {z : ZoneId} {zn : Zone} (hzones : t.zones = s.zones.set z zn)
    (hzn : zoneOk zn) (hlist : listKept t.exceedances)
    (hothers : ∀ x, x ≠ z → ∀ p, t.exceedances.records.any (Exceedance.isFor x p) =
      s.exceedances.records.any (Exceedance.isFor x p))
    (hz : agrees t.exceedances z zn) (hreports : reportsOk t) : AccountsSound t := by
  obtain ⟨hok, -, hagree, -⟩ := hs
  refine ⟨fun x => ?_, hlist, recordsAgree_iff.mpr fun x => ?_, hreports⟩
  · rw [hzones, Bank8.get_set]
    split
    · exact hzn
    · exact hok x
  · rw [hzones, Bank8.get_set]
    split
    · next hx => exact hx ▸ hz
    · next hx => exact agrees_congr (recordsAgree_iff.mp hagree x) (hothers x hx) rfl rfl rfl rfl

/-- An account's other items may change where its bounds hold. -/
theorem AccountsSound.onZone (hs : AccountsSound s) {z : ZoneId} {f : Zone → Zone} (hok : zoneOk (f (s.zones.get z)))
    (henabled : (f (s.zones.get z)).enabled = (s.zones.get z).enabled)
    (hlevels : (f (s.zones.get z)).levels = (s.zones.get z).levels)
    (hconditions : (f (s.zones.get z)).conditions = (s.zones.get z).conditions)
    (hfast : (f (s.zones.get z)).fast = (s.zones.get z).fast) : AccountsSound (s.onZone z f) := by
  refine hs.one (z := z) rfl hok hs.2.1 (fun _ _ _ => rfl)
    (agrees_congr (recordsAgree_iff.mp hs.2.2.1 z) (fun _ => rfl) henabled hlevels hconditions hfast)
    ⟨hs.2.2.2.1, fun r hr => ?_⟩
  rw [onZone_zones, Bank8.get_modify]
  split
  · next hz => rw [hz, henabled, ← hz]; exact hs.2.2.2.2 r hr
  · exact hs.2.2.2.2 r hr

/-! ## A close (R66, R82) -/

/-- The close report of a zone's close (R82). -/
def reportOfClose (s : State) (z : ZoneId) (aw : Awaiting) (r : Option MeasurementRecord) : CloseReport :=
  closeReport z (limitsInForce s z) aw ((s.zones.get z).closing r).substituted
    ((s.zones.get z).close s.now (limitsInForce s z) aw r)

/-- List and kept reports take a close's report, and nothing else of the close. -/
theorem closeZone_list (s : State) (z : ZoneId) (b : Bank4 Bool) (aw : Awaiting) (r : Option MeasurementRecord) :
    ∃ u : State, u.exceedances = s.exceedances ∧ u.reports = s.reports ∧
      (s.closeZone z b aw r).exceedances = (u.takeSent (reportOfClose s z aw r)).exceedances ∧
      (s.closeZone z b aw r).reports = (u.takeSent (reportOfClose s z aw r)).reports := by
  refine ⟨(s.onZone z fun _ => (s.zones.get z).close s.now (limitsInForce s z) aw r).closeToStages z (b.map not)
    (s.zones.get z) ((s.zones.get z).close s.now (limitsInForce s z) aw r), by simp, by simp, ?_, ?_⟩
  all_goals simp only [State.closeZone, closeNotices_frame, closeToStages_frame]; rfl

theorem closeZone_exceedances (s : State) (z : ZoneId) (b : Bank4 Bool) (aw : Awaiting) (r : Option MeasurementRecord) :
    ∃ stages, (s.closeZone z b aw r).exceedances = s.exceedances.takeReport (reportOfClose s z aw r) stages := by
  obtain ⟨u, hu, -, hlist, -⟩ := closeZone_list s z b aw r
  refine ⟨attenuated u, ?_⟩
  rw [hlist, (takeSent_list _ _).1, State.takeReport, takeReportSeeing_exceedances, hu]

theorem closeZone_reports (s : State) (z : ZoneId) (b : Bank4 Bool) (aw : Awaiting) (r : Option MeasurementRecord) :
    ∃ e : SentReport, e.report.zone = z ∧ (s.closeZone z b aw r).reports =
      s.reports.filter (fun r => decide (r.report.zone ≠ z)) ++ [e] := by
  obtain ⟨u, -, hu, -, hreports⟩ := closeZone_list s z b aw r
  obtain ⟨n, -, hsent⟩ := takeSent_reports u (reportOfClose s z aw r)
  rw [hreports, hsent, hu]
  exact ⟨_, rfl, rfl⟩

theorem reportsOk_kept {z : ZoneId} {e : SentReport} (hs : reportsOk s) (he : e.report.zone = z)
    (hreports : t.reports = s.reports.filter (fun r => decide (r.report.zone ≠ z)) ++ [e])
    (henabled : ∀ x, (s.zones.get x).enabled = true → (t.zones.get x).enabled = true)
    (hz : (t.zones.get z).enabled = true) : reportsOk t := by
  obtain ⟨hnodup, hon⟩ := hs
  unfold reportsOk
  rw [hreports]
  refine ⟨?_, fun r hr => ?_⟩
  · rw [List.map_append, List.map_cons, List.map_nil, he]
    refine List.Nodup.append (hnodup.sublist (List.filter_sublist.map _)) (List.nodup_singleton z) ?_
    rw [List.disjoint_singleton]
    intro hmem
    obtain ⟨r, hr, hzone⟩ := List.mem_map.mp hmem
    exact of_decide_eq_true (List.mem_filter.mp hr).2 hzone
  · rcases List.mem_append.mp hr with hold | hnew
    · exact henabled _ (hon r (List.mem_of_mem_filter hold))
    · rw [List.mem_singleton.mp hnew, he]
      exact hz

theorem AccountsSound.closeZone (hs : AccountsSound s) {z : ZoneId} (hz : (s.zones.get z).enabled = true)
    (b : Bank4 Bool) (aw : Awaiting) (r : Option MeasurementRecord) : AccountsSound (s.closeZone z b aw r) := by
  obtain ⟨stages, hlist⟩ := closeZone_exceedances s z b aw r
  obtain ⟨e, he, hreports⟩ := closeZone_reports s z b aw r
  obtain ⟨-, kenabled, -⟩ := close_keeps (s.zones.get z) s.now (limitsInForce s z) aw r
  have hzones := closeZone_zones s z b aw r
  have henabled : ∀ x, ((s.closeZone z b aw r).zones.get x).enabled = (s.zones.get x).enabled := by
    intro x
    rw [hzones, Bank8.get_set]
    split
    · next hx => rw [kenabled, hx]
    · rfl
  refine hs.one hzones (zoneOk_close (hs.1 z) hz _ _ _ _) (by rw [hlist]; exact listKept_takeReport hs.2.1)
    (fun x hx p => ?_) ⟨fun hoff => ?_, fun _ m => ?_⟩
    (reportsOk_kept hs.2.2.2 he hreports (fun x hx => (henabled x).trans hx) ((henabled z).trans hz))
  · rw [hlist, takeReport_isFor]
    exact if_neg hx
  · rw [kenabled, hz] at hoff
    cases hoff
  · rw [hlist, takeReport_isFor, takeReport_isFor]
    exact ⟨if_pos rfl, (if_pos rfl).trans (Pair.get_map _ _ _)⟩

theorem AccountsSound.closingDeadline (hs : AccountsSound s) (z : ZoneId) (b : Bank4 Bool) (e : Nat)
    (m : Option Nat) : AccountsSound (s.closingDeadline z b e m) := by
  simp only [State.closingDeadline]
  split
  · next hz =>
    have hset : ∀ t : State, AccountsSound t → (t.zones.get z).enabled = true →
        AccountsSound (t.onZone z fun zn => { zn with awaiting := some ⟨e, true, m⟩ }) :=
      fun t ht hon => ht.onZone (zoneOk_waiting (ht.1 z) hon _ _) rfl rfl rfl rfl
    split
    · split
      · next aw _ _ =>
        refine hset _ (hs.closeZone hz b aw none) ?_
        rw [closeZone_zones, Bank8.get_set_self]
        exact (close_keeps _ _ _ _ _).2.1.trans hz
      · exact hset s hs hz
    · exact hset s hs hz
  · exact hs

theorem AccountsSound.markTask (hs : AccountsSound s) (o : Interleaving) (e : Nat) (m : Option Nat) (task : Task) :
    AccountsSound (s.markTask o e m task) := by
  cases task with
  | zone z => exact hs.closingDeadline z _ _ _
  | table z =>
    simp only [State.markTask]
    split
    · exact hs
    · exact hs.framed (by simp) (by simp) (by simp)
  | grants => exact hs.framed (by simp [State.markTask]) (by simp [State.markTask]) (by simp [State.markTask])
  | floor st => exact hs

theorem AccountsSound.issueMark (hs : AccountsSound s) : AccountsSound s.issueMark := by
  unfold State.issueMark
  have htaken : AccountsSound s.takeOrder.2 := hs.framed (by simp) (by simp) (by simp)
  generalize s.takeOrder = r at htaken ⊢
  obtain ⟨o, u⟩ := r
  exact List.foldlRecOn o.sequence _ (htaken.framed rfl rfl rfl) fun t ht task _ => ht.markTask o _ _ task

theorem AccountsSound.clockMoved (hs : AccountsSound s) (h : ClockMoved s t) : AccountsSound t := by
  obtain ⟨u, hu, ht⟩ := h
  obtain ⟨-, -, hzones, -, -, -, -, hlist, hreports, -⟩ := hu.frame
  have hset : AccountsSound u := hs.framed hzones hlist hreports
  rcases ht with rfl | rfl
  · exact hset
  · exact hset.issueMark

/-! ## Replies -/

theorem judge_taken {zn : Zone} {n : Nat} {r : MeasurementRecord} {aw : Awaiting} (h : zn.judge n r = .taken aw) :
    zn.enabled = true := by
  unfold Zone.judge at h
  split at h
  · cases h
  · next hon => simpa using hon

theorem AccountsSound.handRecord (hs : AccountsSound s) (a : SlotId) (r : MeasurementRecord) :
    AccountsSound (s.handRecord a r) := by
  simp only [State.handRecord]
  split
  · exact hs
  · next z _ =>
    split
    · next aw htaken =>
      refine AccountsSound.closeZone (hs.framed (by simp) (by simp) (by simp)) ?_ _ _ _
      simpa using judge_taken htaken
    · exact hs.framed rfl rfl rfl

theorem AccountsSound.acceptReply (hs : AccountsSound s) (t : Transaction) (r : Reply) :
    AccountsSound (s.acceptReply t r) := by
  unfold State.acceptReply
  split
  case h_5 => exact AccountsSound.handRecord (hs.framed (by simp) (by simp) (by simp)) _ _
  all_goals exact hs.framed (by simp) (by simp) (by simp)

theorem AccountsSound.arbitrate (hs : AccountsSound s) : AccountsSound s.arbitrate :=
  hs.framed (by simp) (by simp) (by simp)

theorem AccountsSound.completeReply (hs : AccountsSound s) (r : Option Reply) : AccountsSound (s.completeReply r) := by
  have hfree : AccountsSound (s.onLoop Loop.free) := hs.framed rfl rfl rfl
  unfold State.completeReply
  split
  · split
    · dsimp only
      split
      · exact hfree.arbitrate
      · exact (hfree.acceptReply _ _).arbitrate
    · exact hs.framed (by simp) (by simp) (by simp)
  · exact hs.framed (by simp) (by simp) (by simp)

/-! ## Enabling and disabling (R59, R60, R150) -/

theorem AccountsSound.enableZoneNow (hs : AccountsSound s) {z : ZoneId} : AccountsSound (s.enableZoneNow z) := by
  have henabled : AccountsSound (s.onZone z Zone.enable) := by
    refine hs.one (z := z) rfl (zoneOk_enable (hs.1 z).1) hs.2.1 (fun _ _ _ => rfl)
      (agrees_fresh rfl fun h => nomatch h) ⟨hs.2.2.2.1, fun r hr => ?_⟩
    rw [onZone_zones, Bank8.get_modify]
    split
    · rfl
    · exact hs.2.2.2.2 r hr
  refine henabled.framed ?_ ?_ ?_
  all_goals unfold State.enableZoneNow; dsimp only; split <;> simp

theorem disableReport_exceedances (s : State) (z : ZoneId) :
    (s.disableReport z).exceedances = { s.exceedances with
      records := s.exceedances.records.map fun r =>
        if r.isOpen && decide (r.zone = z) then r.close s.minute .disabled else r } := by
  simp [State.disableReport]

end

end Sys2Proof.Machine
end

section
/-! PROOFS. Disabling, RESTART, and O58. -/

namespace Sys2Proof.Machine

section
variable {s t : State}

/-! ## A disable report (R150) -/

/-- A record as the disabling of a zone leaves it (R150). -/
def Exceedance.disabled (z : ZoneId) (minute : Option Nat) (r : Exceedance) : Exceedance :=
  if r.isOpen && decide (r.zone = z) then r.close minute .disabled else r

theorem disableZoneNow_list (s : State) (z : ZoneId) :
    (s.disableZoneNow z).exceedances =
      ⟨s.exceedances.records.map (Exceedance.disabled z s.minute), s.exceedances.counter⟩ ∧
    (s.disableZoneNow z).reports = s.reports.filter fun r => decide (r.report.zone ≠ z) := by
  unfold State.disableZoneNow
  have hframe : s.takeOrder.2.exceedances = s.exceedances ∧ s.takeOrder.2.reports = s.reports ∧
      s.takeOrder.2.minute = s.minute := by simp [State.minute]
  generalize s.takeOrder = r at hframe ⊢
  obtain ⟨o, u⟩ := r
  obtain ⟨hlist, hreports, hminute⟩ := hframe
  dsimp only at hlist hreports hminute ⊢
  simp only [recomputeOnsets_frame]
  rw [eachStage_keeps State.exceedances _ (fun _ _ => by simp), eachStage_keeps State.reports _ (fun _ _ => by simp)]
  have hmark : ∀ (u : State) (b : Bool), (((u.onZone z Zone.cleared).raiseOfficer .feedChange).raiseOfficerIf b
      .zoneChange).minute = u.minute := fun u b => by simp [State.minute]
  simp only [State.forgetReports, disableReport_exceedances, disableReport_frame, hmark]
  simp [hlist, hreports, hminute, Exceedance.disabled]

theorem disabled_key (z : ZoneId) (m : Option Nat) (r : Exceedance) : recordKey (r.disabled z m) = recordKey r := by
  unfold Exceedance.disabled
  split <;> rfl

theorem disabled_isOpen {z : ZoneId} {m : Option Nat} {r : Exceedance} (h : (r.disabled z m).isOpen = true) :
    r.isOpen = true ∧ r.zone ≠ z := by
  unfold Exceedance.disabled at h
  split at h
  · cases h
  · next hother => simpa [h] using hother

theorem disabled_isFor (z x : ZoneId) (m : Option Nat) (p : Metric × RecordKind) (r : Exceedance) :
    (r.disabled z m).isFor x p = (decide (x ≠ z) && r.isFor x p) := by
  rw [Bool.eq_iff_iff, isFor_iff, disabled_key, Bool.and_eq_true, isFor_iff, decide_eq_true_eq]
  constructor
  · rintro ⟨hopen, hkey⟩
    obtain ⟨hwas, hzone⟩ := disabled_isOpen hopen
    exact ⟨fun hx => hzone (by rw [← hx]; exact congrArg Prod.fst hkey), hwas, hkey⟩
  · rintro ⟨hx, hopen, hkey⟩
    have hzone : r.zone = x := congrArg Prod.fst hkey
    refine ⟨?_, hkey⟩
    simp [Exceedance.disabled, hopen, hzone, hx]

theorem listKept_disabled {x : RecordList} (h : listKept x) (z : ZoneId) (m : Option Nat) :
    listKept ⟨x.records.map (Exceedance.disabled z m), x.counter⟩ := by
  obtain ⟨hlen, hcounter, hrecords, hnodup⟩ := h
  refine ⟨by simpa using hlen, hcounter, fun r hr => ?_,
    open_nodup_map (disabled_key z m) (fun _ h => (disabled_isOpen h).1) hnodup⟩
  obtain ⟨q, hq, rfl⟩ := List.mem_map.mp hr
  obtain ⟨hnumber, hduration, hsubst, hend⟩ := hrecords q hq
  unfold Exceedance.disabled
  split
  · exact ⟨hnumber, hduration, hsubst, fun h => nomatch h⟩
  · exact ⟨hnumber, hduration, hsubst, hend⟩

theorem AccountsSound.disableZoneNow (hs : AccountsSound s) (z : ZoneId) : AccountsSound (s.disableZoneNow z) := by
  obtain ⟨hlist, hreports⟩ := disableZoneNow_list s z
  have hzones : (s.disableZoneNow z).zones = s.zones.set z (s.zones.get z).cleared := disableZoneNow_accounts s z
  have hany : ∀ x p, (s.disableZoneNow z).exceedances.records.any (Exceedance.isFor x p) =
      (decide (x ≠ z) && s.exceedances.records.any (Exceedance.isFor x p)) := by
    intro x p
    rw [hlist, List.any_map, Bool.eq_iff_iff]
    simp only [List.any_eq_true, Function.comp, disabled_isFor, Bool.and_eq_true]
    exact ⟨fun ⟨r, hr, hx, hfor⟩ => ⟨hx, r, hr, hfor⟩, fun ⟨hx, r, hr, hfor⟩ => ⟨r, hr, hx, hfor⟩⟩
  refine hs.one hzones (zoneOk_cleared (hs.1 z).1) (by rw [hlist]; exact listKept_disabled hs.2.1 z _)
    (fun x hx p => by rw [hany]; simp [hx]) (agrees_fresh rfl fun _ p => by rw [hany]; simp) ?_
  obtain ⟨hnodup, hon⟩ := hs.2.2.2
  unfold reportsOk
  rw [hreports]
  refine ⟨hnodup.sublist (List.filter_sublist.map _), fun r hr => ?_⟩
  obtain ⟨hmem, hother⟩ := List.mem_filter.mp hr
  rw [hzones, Bank8.get_set_ne _ (of_decide_eq_true hother)]
  exact hon r hmem

/-! ## RESTART (R155) -/

/-- The overtaken reports open records for their own zones only. -/
theorem takeOvertaken_list (o : Interleaving) (l : List SentReport) (hs : listKept s.exceedances) :
    listKept (s.takeOvertaken o l).exceedances ∧
    ∀ x, (∀ r ∈ l, r.report.zone ≠ x) → ∀ p, (s.takeOvertaken o l).exceedances.records.any (Exceedance.isFor x p) =
      s.exceedances.records.any (Exceedance.isFor x p) := by
  unfold State.takeOvertaken
  induction l generalizing s with
  | nil => exact ⟨hs, fun _ _ _ => rfl⟩
  | cons r l ih =>
    rw [List.foldl_cons]
    have hkept : listKept (s.takeReportSeeing (unionStages r.seen (o.resetSeen.get r.report.zone))
        r.report).exceedances := by
      rw [takeReportSeeing_exceedances]
      exact listKept_takeReport hs
    obtain ⟨hlist, hopen⟩ := ih hkept
    refine ⟨hlist, fun x hx p => ?_⟩
    rw [hopen x (fun q hq => hx q (List.mem_cons_of_mem _ hq)), takeReportSeeing_exceedances, takeReport_isFor,
      if_neg (hx r List.mem_cons_self).symm]

theorem restart_levels (zn : Zone) (h : zoneOk zn) : zn.restart.levels = none := by
  unfold Zone.restart
  split
  · rfl
  · next hoff =>
    rw [h.2.1 (by simpa using hoff)]
    rfl

theorem restartAll_list (s : State) : ∃ (u : State) (o : Interleaving), u.exceedances = s.exceedances ∧
    u.reports = s.reports ∧ u.now = s.now ∧ s.restartAll.exceedances = (u.restartList o).exceedances ∧
    s.restartAll.reports = [] ∧ s.restartAll.zones = s.zones.map Zone.restart := by
  unfold State.restartAll
  have hframe : s.takeOrder.2.exceedances = s.exceedances ∧ s.takeOrder.2.reports = s.reports ∧
      s.takeOrder.2.now = s.now ∧ s.takeOrder.2.zones = s.zones := by simp
  generalize s.takeOrder = r at hframe ⊢
  obtain ⟨o, u⟩ := r
  obtain ⟨hlist, hreports, hnow, hzones⟩ := hframe
  dsimp only at hlist hreports hnow hzones ⊢
  refine ⟨u.resetBlocks, o, hlist, hreports, hnow, ?_, ?_, ?_⟩
  · simp [eachStage_keeps State.exceedances State.curfewAgain (fun _ _ => by simp)]
  · simp [eachStage_keeps State.reports State.curfewAgain (fun _ _ => by simp), State.restartList, State.emptyList]
  · simp [eachStage_keeps State.zones State.curfewAgain (fun _ _ => by simp), State.resetBlocks, hzones]

theorem AccountsSound.restartAll (hs : AccountsSound s) : AccountsSound s.restartAll := by
  obtain ⟨u, o, hlist, hreports, hnow, hnewList, hnewReports, hzones⟩ := restartAll_list s
  have hempty : listKept (u.emptyList (u.overtaken o)).exceedances :=
    ⟨Nat.zero_le _, Nat.mod_lt _ (by decide), fun r hr => (nomatch hr), List.nodup_nil⟩
  obtain ⟨hkept, hopen⟩ := takeOvertaken_list o (u.overtaken o) hempty
  refine ⟨fun z => ?_, ?_, recordsAgree_iff.mpr fun z => ?_, ?_⟩
  · rw [hzones, Bank8.get_map]
    exact zoneOk_restart (hs.1 z)
  · rw [recordsOk_iff, hnewList]
    exact hkept
  · rw [hzones, Bank8.get_map, hnewList]
    refine agrees_fresh (restart_levels _ (hs.1 z)) fun hoff p => ?_
    rw [restart_enabled] at hoff
    refine (hopen z (fun r hr hz => ?_) p).trans rfl
    have hmem : r ∈ s.reports := hreports ▸ List.mem_of_mem_filter hr
    have hon := hs.2.2.2.2 r hmem
    rw [hz, hoff] at hon
    cases hon
  · unfold reportsOk
    rw [hnewReports]
    exact ⟨List.nodup_nil, fun r hr => nomatch hr⟩

/-! ## Requests and steps -/

theorem AccountsSound.settleExpires (hs : AccountsSound s) (z : ZoneId) : AccountsSound (s.settleExpires z) := by
  unfold State.settleExpires
  split
  · exact hs
  · next due hdue =>
    have hon : (s.zones.get z).enabled = true := by
      by_contra hoff
      rw [settle_of_disabled (hs.1 z) (by simpa using hoff)] at hdue
      cases hdue
    exact AccountsSound.onZone (s := s.advanceTo due) (hs.framed rfl rfl rfl) (zoneOk_waiting (hs.1 z) hon _ none)
      rfl rfl rfl rfl

theorem AccountsSound.clearClosedRecords (hs : AccountsSound s) : AccountsSound s.clearClosedRecords := by
  obtain ⟨hzones, ⟨hlen, hcounter, hrecords, hnodup⟩, hagree, hreports⟩ := hs
  refine ⟨hzones, ⟨(List.length_filter_le _ _).trans hlen, hcounter,
    fun r hr => hrecords r (List.mem_of_mem_filter hr), ?_⟩, recordsAgree_iff.mpr fun z => ?_, hreports⟩
  · simpa [State.clearClosedRecords, List.filter_filter] using hnodup
  · exact agrees_congr (recordsAgree_iff.mp hagree z) (fun p => (any_isFor s.exceedances.records).symm) rfl rfl rfl rfl

theorem accountsSound_reset : AccountsSound State.reset := by
  have hsound : State.reset.Sound := powerOnStateIsSound
  obtain ⟨-, -, -, -, -, hzones, -, -, hrecords, hagree, hreports, -⟩ := hsound
  exact ⟨hzones, hrecords, hagree, hreports⟩

theorem Change.keeps_accountsSound (h : Change s t) (hs : AccountsSound s) : AccountsSound t := by
  cases h
  case expectedPoint => exact hs.clockMoved (expectedPoint_clockMoved s)
  case pulse m => exact hs.clockMoved (pulseAt_clockMoved s m)
  case windowEnd => exact hs.clockMoved (windowEnd_clockMoved s)
  case lockLost => exact hs.clockMoved (lockLost_clockMoved s)
  case toInternal h => exact hs.clockMoved (toInternal_clockMoved s)
  case toPps h => exact hs.clockMoved (toPps_clockMoved s)
  case completeReply r => exact hs.completeReply r
  case settleExpires z => exact hs.settleExpires z
  case setZone z f h => exact hs.onZone (zoneOk_config (hs.1 z) (zoneConfigOk_write (hs.1 z).1 f)) rfl rfl rfl rfl
  case enableZone z h => exact hs.enableZoneNow
  case disableZone z hmode h => exact hs.disableZoneNow z
  case readZone z => exact hs.onZone (zoneOk_snapshot (hs.1 z) _) rfl rfl rfl rfl
  case clearClosed => exact hs.clearClosedRecords
  case restart hmode => exact hs.restartAll
  all_goals exact hs.framed (by simp) (by simp) (by simp)

/-- Settles O58: accounts, list and kept reports change together at a close, a disabling and a RESTART only. -/
theorem zonesAndRecordsStaySound : Obligations.ZonesAndRecordsStaySound := by
  unfold Obligations.ZonesAndRecordsStaySound
  intro s t hzones hrecords hagree hreports hstep
  refine step_keeps (P := AccountsSound) (fun honly hs => ?_) (fun _ hs => hs.framed rfl rfl rfl)
    (fun _ => accountsSound_reset.framed rfl rfl rfl) (fun hchange => hchange.keeps_accountsSound) hstep ⟨hzones, hrecords, hagree, hreports⟩
  obtain ⟨k, r, hr, rfl⟩ := honly
  obtain ⟨kzones, krecords, kagree, knodup, kon⟩ := hs
  refine ⟨kzones, krecords, kagree, ?_⟩
  rcases hr with rfl | rfl
  · exact ⟨knodup, kon⟩
  · exact ⟨List.nodup_nil, fun r hr => nomatch hr⟩

end

end Sys2Proof.Machine
end

section
/-! PROOFS. SHOW (R188): what the requests that SHOW takes leave of limits, couplings and slots (O52). -/

namespace Sys2Proof.Machine

/-! ## Limits by the minute (R28, R32) -/

/-- No ordinary limit of the one segment is above the other's. -/
def limitsWithin (new old : Segment) : Prop := new.broad ≤ old.broad ∧ new.low ≤ old.low

theorem limitsWithin_refl (g : Segment) : limitsWithin g g := ⟨le_rfl, le_rfl⟩

theorem limitsWithin_of_noLooser {new old : Segment} (h : new.noLooser old = true) : limitsWithin new old := by
  unfold Segment.noLooser at h
  simp only [Bool.and_eq_true, decide_eq_true_eq] at h
  exact h.1

/-- A minute at which no segment starts parts a list in start order. -/
theorem parted {n : Nat} {l : List Segment} (hsorted : (l.map Segment.start).Pairwise (· < ·))
    (h : ∀ x ∈ l, x.start ≠ n) :
    l = (l.filter fun x => decide (x.start < n)) ++ l.filter fun x => decide (n < x.start) := by
  induction l with
  | nil => rfl
  | cons x l ih =>
    obtain ⟨hx, hl⟩ := List.forall_mem_cons.mp h
    obtain ⟨hfirst, hrest⟩ := List.pairwise_cons.mp hsorted
    rcases Nat.lt_or_gt_of_ne hx with hlt | hgt
    · rw [List.filter_cons_of_pos (by simpa using hlt), List.filter_cons_of_neg (by simp; omega), List.cons_append,
        ← ih hrest hl]
    · have hafter : ∀ y ∈ x :: l, n < y.start := by
        intro y hy
        rcases List.mem_cons.mp hy with rfl | hy
        · exact hgt
        · exact hgt.trans (hfirst _ (List.mem_map_of_mem hy))
      rw [List.filter_eq_nil_iff.mpr fun y hy => by have := hafter y hy; simp; omega, List.nil_append,
        List.filter_eq_self.mpr fun y hy => by simpa using hafter y hy]

theorem filter_before {n p : Nat} {a : List Segment} (h : ∀ x ∈ a, x.start < n) (hp : n ≤ p) :
    a.filter (fun x => decide (x.start ≤ p)) = a :=
  List.filter_eq_self.mpr fun x hx => by have := h x hx; simp; omega

theorem filter_after {n p : Nat} {b : List Segment} (h : ∀ x ∈ b, n < x.start) (hp : p < n) :
    b.filter (fun x => decide (x.start ≤ p)) = [] :=
  List.filter_eq_nil_iff.mpr fun x hx => by have := h x hx; simp; omega

/-- A new segment that is no looser than its predecessor loosens no minute (R32). -/
theorem segmentAt_place {l : List Segment} (h : listOk l) {g : Segment} (hnew : ∀ x ∈ l, x.start ≠ g.start)
    (htight : limitsWithin g (predecessor l g.start)) (p : Option Nat) :
    limitsWithin (segmentAt (placeSegment g l) p) (segmentAt l p) := by
  obtain ⟨first, rest, hl, hfirst⟩ := listOk_cons h
  obtain ⟨-, -, hsorted, -⟩ := h
  have hparts := parted hsorted hnew
  have hbefore : ∀ x ∈ l.filter (fun x => decide (x.start < g.start)), x.start < g.start := by simp
  have hafter : ∀ x ∈ l.filter (fun x => decide (g.start < x.start)), g.start < x.start := by simp
  have hpositive : first.start < g.start := by
    have := hnew first (by simp [hl])
    omega
  have hne : l.filter (fun x => decide (x.start < g.start)) ≠ [] :=
    List.ne_nil_of_mem (a := first) (List.mem_filter.mpr ⟨by simp [hl], by simpa using hpositive⟩)
  unfold predecessor at htight
  unfold placeSegment
  generalize l.filter (fun x => decide (x.start < g.start)) = a at *
  generalize l.filter (fun x => decide (g.start < x.start)) = b at *
  subst hparts
  cases p with
  | none =>
    have : segmentAt (a ++ g :: b) none = segmentAt (a ++ b) none := by
      cases a with
      | nil => exact absurd rfl hne
      | cons x a => rfl
    rw [this]
    exact limitsWithin_refl _
  | some p =>
    simp only [segmentAt, List.filter_append, List.filter_cons]
    rcases Nat.lt_or_ge p g.start with hp | hp
    · have hout : ¬g.start ≤ p := by omega
      have hsame : (a ++ g :: b).headD Segment.reset = (a ++ b).headD Segment.reset := by
        cases a with
        | nil => exact absurd rfl hne
        | cons x a => rfl
      rw [filter_after hafter hp, if_neg (by simpa using hout), hsame]
      exact limitsWithin_refl _
    · rw [filter_before hbefore hp, if_pos (by simpa using hp)]
      cases hb : b.filter fun x => decide (x.start ≤ p) with
      | nil =>
        rw [List.append_nil, List.getLast?_concat]
        rw [Option.getD_some]
        exact htight
      | cons y c =>
        rw [List.getLast?_append, List.getLast?_append, List.getLast?_cons_cons]
        rw [List.getLast?_eq_some_getLast (List.cons_ne_nil y c)]
        exact limitsWithin_refl _

theorem segmentAt_mem {l : List Segment} (hne : l ≠ []) (p : Option Nat) : segmentAt l p ∈ l := by
  have hhead : l.headD Segment.reset ∈ l := by
    cases l with
    | nil => exact absurd rfl hne
    | cons x l => simp
  cases p with
  | none => exact hhead
  | some p =>
    simp only [segmentAt]
    cases hlast : (l.filter fun g => decide (g.start ≤ p)).getLast? with
    | none => exact hhead
    | some g => exact List.mem_of_mem_filter (List.mem_of_getLast? hlast)

/-- What changes segments in place but for their starts changes the one in force at each minute. -/
theorem segmentAt_map {l : List Segment} (hne : l ≠ []) {f : Segment → Segment} (hf : ∀ g, (f g).start = g.start)
    (p : Option Nat) : segmentAt (l.map f) p = f (segmentAt l p) := by
  have hhead : (l.map f).headD Segment.reset = f (l.headD Segment.reset) := by
    cases l with
    | nil => exact absurd rfl hne
    | cons x l => rfl
  cases p with
  | none => exact hhead
  | some p =>
    simp only [segmentAt, List.filter_map, Function.comp_def, hf, List.getLast?_map, hhead]
    cases (l.filter fun g => decide (g.start ≤ p)).getLast? <;> rfl

theorem start_injective {l : List Segment} (hsorted : (l.map Segment.start).Pairwise (· < ·)) {g h : Segment}
    (hg : g ∈ l) (hh : h ∈ l) (heq : g.start = h.start) : g = h := by
  have hnodup : (l.map Segment.start).Nodup := hsorted.imp fun hlt => hlt.ne
  exact List.inj_on_of_nodup_map hnodup hg hh heq

theorem segmentAt_edit {l : List Segment} (h : listOk l) {f : EditFields} {g : Segment}
    (hg : segmentStarting l f.start = some g) (htight : limitsWithin (editedSegment f g) g) (p : Option Nat) :
    limitsWithin (segmentAt (l.map fun x => if x.start = f.start then editedSegment f x else x) p) (segmentAt l p) := by
  obtain ⟨first, rest, hl, -⟩ := listOk_cons h
  obtain ⟨-, -, hsorted, -⟩ := h
  have hne : l ≠ [] := by simp [hl]
  rw [segmentAt_map hne (fun x => by split <;> rfl)]
  have hmem := segmentAt_mem hne p
  split
  · next hstart =>
    have hgstart : g.start = f.start := by
      have hfound := List.find?_some hg
      simpa using hfound
    rw [start_injective hsorted hmem (List.mem_of_find?_eq_some hg) (hstart.trans hgstart.symm)]
    exact htight
  · exact limitsWithin_refl _

end Sys2Proof.Machine
end

section
/-! PROOFS. What stands through the night (R188): items that most commands keep (`SameNight`), what the rest may do to
them in SHOW (`Tighter`), and O52. -/

namespace Sys2Proof.Machine

/-- Enablings, configurations, couplings, failsafe levels, the slots' zones and the lists of segments are the same. -/
structure SameNight (s t : State) : Prop where
  zones : ∀ z, (t.zones.get z).enabled = (s.zones.get z).enabled ∧ (t.zones.get z).config = (s.zones.get z).config
  stages : ∀ st, (t.stages.get st).record.failsafe = (s.stages.get st).record.failsafe ∧
    (t.stages.get st).record.coupling = (s.stages.get st).record.coupling
  slots : ∀ a, (t.loop.slots.get a).zone = (s.loop.slots.get a).zone
  tables : ∀ z, (t.tables.get z).segments = (s.tables.get z).segments

section
variable {s t u : State}

theorem SameNight.refl (s : State) : SameNight s s :=
  ⟨fun _ => ⟨rfl, rfl⟩, fun _ => ⟨rfl, rfl⟩, fun _ => rfl, fun _ => rfl⟩

theorem SameNight.trans (h : SameNight s t) (k : SameNight t u) : SameNight s u :=
  ⟨fun z => ⟨(k.zones z).1.trans (h.zones z).1, (k.zones z).2.trans (h.zones z).2⟩,
    fun st => ⟨(k.stages st).1.trans (h.stages st).1, (k.stages st).2.trans (h.stages st).2⟩,
    fun a => (k.slots a).trans (h.slots a), fun z => (k.tables z).trans (h.tables z)⟩

/-- What keeps accounts, records, loop and tables keeps the night. -/
theorem SameNight.framed (hzones : t.zones = s.zones)
    (hrecords : ∀ st, (t.stages.get st).record = (s.stages.get st).record) (hloop : t.loop = s.loop)
    (htables : t.tables = s.tables) : SameNight s t :=
  ⟨fun z => by simp [hzones], fun st => by simp [hrecords], fun a => by rw [hloop], fun z => by rw [htables]⟩

theorem SameNight.foldl {α : Type} {f : State → α → State} (hf : ∀ s x, SameNight s (f s x)) (l : List α) (s : State) :
    SameNight s (l.foldl f s) :=
  List.foldlRecOn l f (motive := fun t => SameNight s t) (.refl s) fun _ ht x _ => ht.trans (hf _ x)

/-! ## One block at a time -/

theorem sameNight_onZone {z : ZoneId} {f : Zone → Zone}
    (hf : (f (s.zones.get z)).enabled = (s.zones.get z).enabled ∧ (f (s.zones.get z)).config = (s.zones.get z).config) :
    SameNight s (s.onZone z f) := by
  refine ⟨fun x => ?_, fun _ => ⟨rfl, rfl⟩, fun _ => rfl, fun _ => rfl⟩
  rw [onZone_zones, Bank8.get_modify]
  split
  · next hx => rw [hx]; exact hf
  · exact ⟨rfl, rfl⟩

theorem sameNight_changeStage {st : StageId} {f : Stage → Stage}
    (hf : (f (s.stages.get st)).record.failsafe = (s.stages.get st).record.failsafe ∧
      (f (s.stages.get st)).record.coupling = (s.stages.get st).record.coupling) :
    SameNight s (s.changeStage st f) := by
  refine ⟨fun z => by simp, fun i => ?_, fun a => by simp, fun z => by simp⟩
  rw [changeStage_stages, Bank4.get_modify]
  split
  · next hi => rw [hi]; exact hf
  · exact ⟨rfl, rfl⟩

theorem sameNight_curfewMoved (h : CurfewMoved s.stages t.stages)
    (hframe : t.zones = s.zones ∧ t.loop = s.loop ∧ t.tables = s.tables) : SameNight s t :=
  .framed hframe.1 (fun st => (h st).keeps.1) hframe.2.1 hframe.2.2

/-- A move of the loop that gives and takes no zone. -/
theorem sameNight_loop (hloop : ∀ a, (t.loop.slots.get a).zone = (s.loop.slots.get a).zone)
    (hframe : t.zones = s.zones ∧ t.stages = s.stages ∧ t.tables = s.tables) : SameNight s t :=
  ⟨fun z => by simp [hframe.1], fun st => by simp [hframe.2.1], hloop, fun z => by rw [hframe.2.2]⟩

theorem sameNight_onLoop {f : Loop → Loop} (hf : ∀ a, ((f s.loop).slots.get a).zone = (s.loop.slots.get a).zone) :
    SameNight s (s.onLoop f) :=
  sameNight_loop hf ⟨rfl, rfl, rfl⟩

theorem sameNight_arbitrate (s : State) : SameNight s s.arbitrate :=
  sameNight_loop (fun a => (arbitrate_slots s.loop a).2.1) (by simp)

theorem sameNight_reevaluate (s : State) (z : ZoneId) : SameNight s (s.reevaluate z) := by
  refine ⟨fun z => by simp, fun st => by simp, fun a => by simp, fun x => ?_⟩
  rw [reevaluate_tables, Bank8.get_set]
  split
  · next hx => rw [hx]
  · rfl

theorem sameNight_closeZone (s : State) (z : ZoneId) (b : Bank4 Bool) (aw : Awaiting) (r : Option MeasurementRecord) :
    SameNight s (s.closeZone z b aw r) := by
  obtain ⟨kconfig, kenabled, -⟩ := close_keeps (s.zones.get z) s.now (limitsInForce s z) aw r
  refine ⟨fun x => ?_, fun st => by simp, fun a => by simp, fun x => by simp⟩
  rw [closeZone_zones, Bank8.get_set]
  split
  · next hx => rw [hx]; exact ⟨kenabled, kconfig⟩
  · exact ⟨rfl, rfl⟩

/-! ## Marks -/

theorem sameNight_closingDeadline (s : State) (z : ZoneId) (b : Bank4 Bool) (e : Nat) (m : Option Nat) :
    SameNight s (s.closingDeadline z b e m) := by
  simp only [State.closingDeadline]
  split
  · refine SameNight.trans ?_ (sameNight_onZone ⟨rfl, rfl⟩)
    split
    · split
      · exact sameNight_closeZone s z b _ none
      · exact .refl s
    · exact .refl s
  · exact .refl s

theorem sameNight_markTask (s : State) (o : Interleaving) (e : Nat) (m : Option Nat) (task : Task) :
    SameNight s (s.markTask o e m task) := by
  cases task with
  | zone z => exact sameNight_closingDeadline s z _ _ _
  | table z =>
    simp only [State.markTask]
    split
    · exact .refl s
    · exact sameNight_reevaluate s z
  | grants => exact sameNight_curfewMoved (curfewMoved_grantMarks (.refl _)) (by simp [State.markTask])
  | floor st => exact .refl s

theorem sameNight_issueMark (s : State) : SameNight s s.issueMark := by
  unfold State.issueMark
  have htaken : SameNight s s.takeOrder.2 := .framed (by simp) (fun st => by simp) (by simp) (by simp)
  generalize s.takeOrder = r at htaken ⊢
  obtain ⟨o, u⟩ := r
  dsimp only at htaken ⊢
  refine htaken.trans (SameNight.trans ?_ (SameNight.foldl (fun t task => sameNight_markTask t o _ _ task) _ _))
  exact SameNight.trans (t := (u.onTimeBase (TimeBase.mark u.now)).onLoop fun k => { k with pendingMark := some _ })
    ⟨fun _ => ⟨rfl, rfl⟩, fun _ => ⟨rfl, rfl⟩, fun _ => rfl, fun _ => rfl⟩ (sameNight_arbitrate _)

theorem sameNight_clockMoved (h : ClockMoved s t) : SameNight s t := by
  obtain ⟨u, hu, ht⟩ := h
  obtain ⟨-, htables, hzones, hstages, -, -, -, -, -, hloop, -⟩ := hu.frame
  have hset : SameNight s u := .framed hzones (fun st => by rw [hstages]) hloop htables
  rcases ht with rfl | rfl
  · exact hset
  · exact hset.trans (sameNight_issueMark u)

/-! ## The monitor loop -/

theorem onSlot_zone {k : Loop} {a b : SlotId} {f : UnitSlot → UnitSlot}
    (hf : ∀ u, (f u).zone = u.zone) :
    ((k.onSlot a f).slots.get b).zone = (k.slots.get b).zone := by
  rw [(onSlot_keeps k a f).1, Bank8.get_modify]
  split
  · exact hf _
  · rfl

theorem passOn_slots (k : Loop) (a : SlotId) : (k.passOn a).slots = k.slots := by
  unfold Loop.passOn
  split <;> rfl

theorem lookAtLatn_slots (k : Loop) : k.lookAtLatn.slots = k.slots := by
  unfold Loop.lookAtLatn
  split <;> rfl

theorem fail_zone (now : Nat) (u : UnitSlot) : (u.fail now).zone = u.zone := by
  simp only [UnitSlot.fail]
  split <;> rfl

theorem attemptFails_zone (now : Nat) (t : Transaction) (k : Loop) (b : SlotId) :
    ((k.attemptFails now t).1.slots.get b).zone = (k.slots.get b).zone := by
  cases t with
  | identify a probe =>
    cases probe with
    | true => exact onSlot_zone fun _ => rfl
    | false => exact onSlot_zone (fail_zone now)
  | status a =>
    simp only [Loop.attemptFails]
    split
    · rw [passOn_slots]; exact onSlot_zone (fail_zone now)
    · exact onSlot_zone (fail_zone now)
  | fetch a n =>
    simp only [Loop.attemptFails]
    split
    · rw [passOn_slots]; exact onSlot_zone (fail_zone now)
    · exact onSlot_zone (fail_zone now)
  | mark tag => rfl
  | loopReset => rfl

theorem fetchTaken_zone (k : Loop) (a : SlotId) (isRecord : Bool) (b : SlotId) :
    ((k.fetchTaken a isRecord).slots.get b).zone = (k.slots.get b).zone := by
  have htaken : ((k.onSlot a fun u => { u with failed := 0 }).slots.get b).zone = (k.slots.get b).zone :=
    onSlot_zone fun _ => rfl
  simp only [Loop.fetchTaken]
  split
  · exact htaken
  · split
    · split
      · rw [passOn_slots]; exact htaken
      · exact htaken
    · rw [passOn_slots]; exact htaken

theorem sameNight_loopMove {f : Loop → Loop × Bool}
    (hf : ∀ b, ((f s.loop).1.slots.get b).zone = (s.loop.slots.get b).zone) : SameNight s (s.loopMove f) :=
  sameNight_loop (by simpa [State.loopMove] using hf) (by simp)

theorem sameNight_handRecord (s : State) (a : SlotId) (r : MeasurementRecord) : SameNight s (s.handRecord a r) := by
  have hflag : ∀ v, SameNight s (s.onLoop (Loop.onSlot a (UnitSlot.flag v))) := fun v =>
    sameNight_loop (fun _ => onSlot_zone fun u => by cases v <;> rfl) ⟨rfl, rfl, rfl⟩
  simp only [State.handRecord]
  split
  · exact .refl s
  · split
    · have hordered : ∀ u : State, SameNight u u.takeOrder.2 := fun u =>
        .framed (by simp) (fun st => by simp) (by simp) (by simp)
      exact ((hflag _).trans (hordered _)).trans (sameNight_closeZone _ _ _ _ _)
    · exact hflag _

theorem sameNight_acceptReply (s : State) (t : Transaction) (r : Reply) : SameNight s (s.acceptReply t r) := by
  unfold State.acceptReply
  split
  case h_1 =>
    refine sameNight_loopMove fun b => ?_
    unfold Loop.identified
    split
    · rw [lookAtLatn_slots]; exact onSlot_zone fun _ => rfl
    · exact onSlot_zone fun _ => rfl
  case h_2 =>
    refine sameNight_loopMove fun b => ?_
    simp only [Loop.probed]
    split <;> exact onSlot_zone fun _ => rfl
  case h_3 =>
    refine sameNight_loopMove fun b => ?_
    simp only [Loop.statusTaken]
    split
    · rw [passOn_slots]; exact onSlot_zone fun _ => rfl
    · exact onSlot_zone fun _ => rfl
  case h_4 => exact sameNight_onLoop (fetchTaken_zone s.loop _ _)
  case h_5 => exact (sameNight_onLoop (fetchTaken_zone s.loop _ _)).trans (sameNight_handRecord _ _ _)
  case h_6 => exact .refl s

theorem sameNight_free (s : State) : SameNight s (s.onLoop Loop.free) := sameNight_loop (fun _ => rfl) ⟨rfl, rfl, rfl⟩

theorem sameNight_failAttempt (s : State) : SameNight s s.failAttempt := by
  unfold State.failAttempt
  split
  · exact .refl s
  · split
    · exact .refl s
    · refine (sameNight_free s).trans (SameNight.trans ?_ (sameNight_arbitrate _))
      split
      · exact .refl _
      · exact sameNight_loopMove (attemptFails_zone _ _ _)

theorem sameNight_completeReply (s : State) (r : Option Reply) : SameNight s (s.completeReply r) := by
  unfold State.completeReply
  split
  · split
    · refine (sameNight_free s).trans (SameNight.trans ?_ (sameNight_arbitrate _))
      split
      · exact .refl _
      · exact sameNight_acceptReply _ _ _
    · exact sameNight_failAttempt s
  · exact sameNight_failAttempt s

theorem stall_zone (now : Nat) (k : Loop) (b : SlotId) : ((k.stall now).1.slots.get b).zone = (k.slots.get b).zone := by
  by_cases hreset : k.flight.map Flight.transaction = some .loopReset
  · rw [stall_of_reset now hreset, Bank8.get_map, UnitSlot.resetStall_eq]
    split <;> rfl
  · have hstall : ∀ u : UnitSlot, u.stall.zone = u.zone := fun u => by unfold UnitSlot.stall; split <;> rfl
    rw [stall_get_of_not_reset now hreset, abandonProbe_get, hstall]
    split <;> rfl

theorem sameNight_reseekExpires (s : State) (a : SlotId) : SameNight s (s.reseekExpires a) := by
  unfold State.reseekExpires
  split
  · refine SameNight.trans ?_ (sameNight_arbitrate _)
    exact sameNight_loop (fun _ => onSlot_zone fun _ => rfl) ⟨rfl, rfl, rfl⟩
  · exact .refl s

/-! ## Stages and tables -/

theorem sameNight_recomputeTarget (s : State) (st : StageId) : SameNight s (s.recomputeTarget st) :=
  .framed (by simp) (fun i => by simp) (by simp) (by simp)

theorem sameNight_soonTestIf (s : State) (c : Bool) (st : StageId) :
    SameNight s (if c then s.soonTest st else s) := by
  split
  · exact .framed (by simp) (fun i => by simp) (by simp) (by simp)
  · exact .refl s

theorem sameNight_rampExpires (s : State) (st : StageId) : SameNight s (s.rampExpires st) := by
  unfold State.rampExpires
  split
  · exact .refl s
  · exact SameNight.trans (t := s.advanceTo _) (.framed rfl (fun _ => rfl) rfl rfl) (sameNight_changeStage (by simp))

theorem sameNight_settleExpires (s : State) (z : ZoneId) : SameNight s (s.settleExpires z) := by
  unfold State.settleExpires
  split
  · exact .refl s
  · exact SameNight.trans (t := s.advanceTo _) (.framed rfl (fun _ => rfl) rfl rfl) (sameNight_onZone ⟨rfl, rfl⟩)

theorem sameNight_setTimeTask (s : State) (b : Bool) (task : Task) : SameNight s (s.setTimeTask b task) := by
  cases task with
  | zone z => exact .refl s
  | table z => exact sameNight_reevaluate s z
  | grants => exact .refl s
  | floor st =>
    simp only [State.setTimeTask]
    split
    · exact sameNight_recomputeTarget s st
    · exact .refl s

theorem sameNight_takeTime (s : State) (time : Nat) : SameNight s (s.takeTime time) := by
  unfold State.takeTime
  have htaken : SameNight s s.takeOrder.2 := .framed (by simp) (fun st => by simp) (by simp) (by simp)
  generalize s.takeOrder = r at htaken ⊢
  obtain ⟨o, u⟩ := r
  refine htaken.trans (SameNight.trans ?_ (SameNight.foldl (fun t task => sameNight_setTimeTask t _ task) _ _))
  exact .framed rfl (fun _ => rfl) rfl rfl

theorem sameNight_takeDesk (s : State) (st : StageId) (f : SetDeskFields) : SameNight s (s.takeDesk st f) := by
  refine SameNight.trans ?_ (sameNight_soonTestIf _ _ st)
  have hstored : SameNight s ((s.onStage st fun g => { g with record := g.record.writeDesk f }).onLink (.desk st)
      (LinkInterface.write (f.enables.map widenMask) f.priorities)) := by
    refine ⟨fun _ => ⟨rfl, rfl⟩, fun i => ?_, fun _ => rfl, fun _ => rfl⟩
    rw [onLink_stages, onStage_stages, Bank4.get_modify]
    split <;> exact ⟨rfl, rfl⟩
  split
  · exact hstored.trans (sameNight_recomputeTarget _ st)
  · exact hstored

/-! ## What SHOW takes -/

/-- Nothing has been loosened. -/
structure Tighter (s t : State) : Prop where
  zones : ∀ z, ((s.zones.get z).enabled = true → (t.zones.get z).enabled = true) ∧
    (t.zones.get z).config = { (t.zones.get z).config with
      window := (s.zones.get z).config.window, guardBand := (s.zones.get z).config.guardBand
      fastMargin := (s.zones.get z).config.fastMargin, releaseMargin := (s.zones.get z).config.releaseMargin
      hysteresis := (s.zones.get z).config.hysteresis, fallback := (s.zones.get z).config.fallback }
  stages : ∀ st, (s.stages.get st).record.failsafe ≤ (t.stages.get st).record.failsafe ∧
    ∀ z, (s.stages.get st).record.coupling.get z ≤ (t.stages.get st).record.coupling.get z
  slots : ∀ a, (t.loop.slots.get a).zone = (s.loop.slots.get a).zone
  tables : tablesOk s → ∀ z p,
    limitsWithin (segmentAt (t.tables.get z).segments p) (segmentAt (s.tables.get z).segments p)

theorem SameNight.tighter (h : SameNight s t) : Tighter s t :=
  ⟨fun z => by simp [h.zones z], fun st => by simp [h.stages st], h.slots,
    fun _ z p => by rw [h.tables]; exact limitsWithin_refl _⟩

theorem sameNight_takeChangeMode (s : State) (st : StageId) (m : Option Nat) :
    SameNight s (s.takeChangeMode st m) := by
  cases m with
  | none => exact .refl s
  | some n =>
    unfold State.takeChangeMode
    exact sameNight_changeStage (by simp)

theorem sameNight_takeFloor (s : State) (st : StageId) (f : SetStageFields) : SameNight s (s.takeFloor st f) := by
  unfold State.takeFloor
  split
  · exact sameNight_recomputeTarget s st
  · exact .refl s

/-- What tightens first and then keeps the night has tightened. -/
theorem Tighter.trans_same (h : Tighter s t) (k : SameNight t u) : Tighter s u := by
  refine ⟨fun z => ?_, fun st => ?_, fun a => (k.slots a).trans (h.slots a), fun hok z p => ?_⟩
  · rw [(k.zones z).1, (k.zones z).2]
    exact h.zones z
  · rw [(k.stages st).1, (k.stages st).2]
    exact h.stages st
  · rw [k.tables]
    exact h.tables hok z p

theorem Tighter.of_same (h : SameNight s t) (k : Tighter t u) (htables : t.tables = s.tables) (hminute : t.minute = s.minute) :
    Tighter s u := by
  refine ⟨fun z => ?_, fun st => ?_, fun a => (k.slots a).trans (h.slots a), fun hok z p => ?_⟩
  · rw [← (h.zones z).1, ← (h.zones z).2]
    exact k.zones z
  · rw [← (h.stages st).1, ← (h.stages st).2]
    exact k.stages st
  · rw [← h.tables]
    exact k.tables (tablesOk_congr htables hminute hok) z p

/-- A record of a stage may rise in failsafe and couplings. -/
theorem tighter_onStage {st : StageId} {f : Stage → Stage}
    (hf : (s.stages.get st).record.failsafe ≤ (f (s.stages.get st)).record.failsafe ∧
      ∀ z, (s.stages.get st).record.coupling.get z ≤ (f (s.stages.get st)).record.coupling.get z) :
    Tighter s (s.onStage st f) := by
  refine ⟨fun _ => ⟨id, rfl⟩, fun i => ?_, fun _ => rfl, fun _ _ _ => limitsWithin_refl _⟩
  rw [onStage_stages, Bank4.get_modify]
  split
  · next hi => rw [hi]; exact hf
  · exact ⟨le_rfl, fun _ => le_rfl⟩

theorem tighter_setStage (hshow : s.mode = .show) {st : StageId} {f : SetStageFields}
    (h : stageRefusal s st f = none) : Tighter s (s.takeStageRecord st f) := by
  have hfailsafe : (s.stages.get st).record.failsafe ≤ writeField 0 96 f.failsafe (s.stages.get st).record.failsafe := by
    unfold stageRefusal at h
    rw [hshow] at h
    cases hgiven : f.failsafe with
    | none => exact le_rfl
    | some n =>
      by_contra hfalls
      have hless : clampTo 0 96 n < (s.stages.get st).record.failsafe := Nat.not_le.mp hfalls
      simp only [hgiven, Mode.isShow, Option.map_some, Option.getD_some, decide_eq_true hless, Bool.and_true] at h
      split at h <;> simp at h
  unfold State.takeStageRecord
  have htaken : SameNight s s.takeOrder.2 ∧ s.takeOrder.2.tables = s.tables ∧ s.takeOrder.2.minute = s.minute ∧
      s.takeOrder.2.stages = s.stages :=
    ⟨.framed (by simp) (fun st => by simp) (by simp) (by simp), by simp, by simp [State.minute], by simp⟩
  generalize s.takeOrder = r at htaken ⊢
  obtain ⟨o, u⟩ := r
  obtain ⟨hsame, htables, hminute, hstages⟩ := htaken
  dsimp only at hsame htables hminute hstages ⊢
  have hstored : Tighter u (u.onStage st fun g => { g with record := g.record.write f }) := by
    refine tighter_onStage ⟨?_, fun _ => le_rfl⟩
    rw [hstages]
    exact hfailsafe
  refine (Tighter.of_same hsame hstored htables hminute).trans_same (SameNight.trans ?_ (sameNight_soonTestIf _ _ st))
  split
  · exact (sameNight_takeChangeMode _ st _).trans (sameNight_takeFloor _ st f)
  · exact (sameNight_takeFloor _ st f).trans (sameNight_takeChangeMode _ st _)

theorem tighter_setCoupling {st : StageId} {z : ZoneId} {v : Nat}
    (h : (s.stages.get st).record.coupling.get z ≤ v) : Tighter s (s.takeCoupling st z v) := by
  have hstored : Tighter s (s.onStage st fun g =>
      { g with record := { g.record with coupling := g.record.coupling.set z v } }) := by
    refine tighter_onStage ⟨le_rfl, fun x => ?_⟩
    rw [Bank8.get_set]
    split
    · next hx => rw [hx]; exact h
    · exact le_rfl
  have hmoved := hstored.trans_same (sameNight_recomputeTarget _ st)
  unfold State.takeCoupling
  dsimp only
  split
  · exact hmoved
  · refine hmoved.trans_same (sameNight_curfewMoved ?_ (by simp))
    rw [(recomputeOnsets_frame _).2.2.2.2.2.1]
    exact curfewMoved_couplingMove st z (.refl _)

theorem tighter_setZone {z : ZoneId} {f : SetZoneFields} (h : lockedInShow f = false) :
    Tighter s (s.onZone z fun zn => { zn with config := zn.config.write f }) := by
  refine ⟨fun x => ?_, fun _ => ⟨le_rfl, fun _ => le_rfl⟩, fun _ => rfl, fun _ _ _ => limitsWithin_refl _⟩
  rw [onZone_zones, Bank8.get_modify]
  split
  · refine ⟨id, ?_⟩
    simp only [lockedInShow, Bool.or_eq_false_iff, Option.isSome_eq_false_iff, Option.isNone_iff_eq_none] at h
    obtain ⟨⟨⟨⟨⟨⟨hw, hg⟩, hf⟩, hr⟩, hh⟩, hb⟩, hl⟩ := h
    simp [ZoneConfig.write, writeField, hw, hg, hf, hr, hh, hb, hl]
  · exact ⟨id, rfl⟩

theorem tighter_enableZone (z : ZoneId) : Tighter s (s.enableZoneNow z) := by
  have hzones : (s.enableZoneNow z).zones = s.zones.modify z Zone.enable := by
    unfold State.enableZoneNow
    dsimp only
    split <;> simp
  have hothers : (∀ i, ((s.enableZoneNow z).stages.get i).record = (s.stages.get i).record) ∧
      (s.enableZoneNow z).loop = s.loop ∧ (s.enableZoneNow z).tables = s.tables := by
    refine ⟨fun i => ?_, ?_, ?_⟩
    all_goals unfold State.enableZoneNow; dsimp only; split <;> simp
  obtain ⟨hrecords, hloop, htables⟩ := hothers
  refine ⟨fun x => ?_, fun i => by simp [hrecords], fun a => by rw [hloop], fun _ x p => ?_⟩
  · rw [hzones, Bank8.get_modify]
    split
    · exact ⟨fun _ => rfl, rfl⟩
    · exact ⟨id, rfl⟩
  · rw [htables]
    exact limitsWithin_refl _

/-- A new list of segments for one zone. -/
theorem tighter_segments {z : ZoneId} {l : List Segment → List Segment}
    (h : listOk (s.tables.get z).segments → ∀ p,
      limitsWithin (segmentAt (l (s.tables.get z).segments) p) (segmentAt (s.tables.get z).segments p)) :
    Tighter s ((s.onTable z fun t => { t with segments := l t.segments }).reevaluate z) := by
  refine Tighter.trans_same (t := s.onTable z _)
    ⟨fun _ => ⟨id, rfl⟩, fun _ => ⟨le_rfl, fun _ => le_rfl⟩, fun _ => rfl, fun hok x p => ?_⟩ (sameNight_reevaluate _ z)
  rw [onTable_tables, Bank8.get_modify]
  split
  · next hx => rw [hx]; exact h (tableOk_iff.mp (hok z)).1 p
  · exact limitsWithin_refl _

theorem insertRefusal_show {z : ZoneId} {f : InsertFields} (hshow : s.mode = .show) (h : insertRefusal s z f = none) :
    limitsWithin (insertedSegment f) (predecessor (s.tables.get z).segments (insertedSegment f).start) := by
  simp only [insertRefusal, hshow] at h
  split at h
  · cases h
  · split at h
    · cases h
    · split at h
      · cases h
      · split at h
        · cases h
        · next htight =>
          have htakes : insertTightens s.minute (s.tables.get z).segments (insertedSegment f) = true := by
            simpa [Mode.isShow] using htight
          exact limitsWithin_of_noLooser ((Bool.and_eq_true _ _).mp htakes).2

theorem editRefusal_show {f : EditFields} {g : Segment} (hshow : s.mode = .show) (h : editRefusal s f g = none) :
    limitsWithin (editedSegment f g) g := by
  simp only [editRefusal, hshow] at h
  split at h
  · cases h
  · split at h
    · cases h
    · next htight => exact limitsWithin_of_noLooser (by simpa [Mode.isShow] using htight)

/-! ## Every change -/

theorem Change.tightens (h : Change s t) (hshow : s.mode = .show) : Tighter s t := by
  have hsetup : s.mode ≠ .setup := by simp [hshow]
  cases h
  case expectedPoint => exact (sameNight_clockMoved (expectedPoint_clockMoved s)).tighter
  case pulse m => exact (sameNight_clockMoved (pulseAt_clockMoved s m)).tighter
  case windowEnd => exact (sameNight_clockMoved (windowEnd_clockMoved s)).tighter
  case lockLost => exact (sameNight_clockMoved (lockLost_clockMoved s)).tighter
  case toInternal h => exact (sameNight_clockMoved (toInternal_clockMoved s)).tighter
  case toPps h => exact (sameNight_clockMoved (toPps_clockMoved s)).tighter
  case latnFalls =>
    exact ((sameNight_onLoop fun _ => rfl).trans (sameNight_arbitrate _)).tighter
  case latnRises =>
    exact (((sameNight_onLoop fun _ => rfl).trans (sameNight_onLoop fun _ => by rw [lookAtLatn_slots])).trans
      (sameNight_arbitrate _)).tighter
  case markSent tag h => exact ((sameNight_free s).trans (sameNight_arbitrate _)).tighter
  case loopResetDone h =>
    exact (((sameNight_onLoop fun _ => rfl).trans (sameNight_onLoop fun _ => by rw [lookAtLatn_slots])).trans
      (sameNight_arbitrate _)).tighter
  case completeReply r => exact (sameNight_completeReply s r).tighter
  case failAttempt => exact (sameNight_failAttempt s).tighter
  case stall => exact ((sameNight_loopMove (stall_zone s.now s.loop)).trans (sameNight_arbitrate _)).tighter
  case reseekExpires a => exact (sameNight_reseekExpires s a).tighter
  case settleExpires z => exact (sameNight_settleExpires s z).tighter
  case rampExpires st => exact (sameNight_rampExpires s st).tighter
  case setDesk st f h => exact (sameNight_takeDesk s st f).tighter
  case encore st m =>
    exact (sameNight_curfewMoved (curfewMoved_serveEncoreAsk st _ (.refl _)) (by simp)).tighter
  case encoreEnd st => exact (sameNight_curfewMoved (curfewMoved_serveEncoreEnd st (.refl _)) (by simp)).tighter
  case setZone z f h => exact tighter_setZone (h hshow)
  case enableZone z h => exact tighter_enableZone z
  case disableZone z hmode h => exact absurd hmode hsetup
  case readZone z => exact (sameNight_onZone ⟨rfl, rfl⟩).tighter
  case insertSegment z f h =>
    exact tighter_segments (l := placeSegment (insertedSegment f)) fun hlist p =>
      segmentAt_place hlist (insertRefusal_none h).2 (insertRefusal_show hshow h) p
  case editSegment z f g hg h =>
    exact tighter_segments (l := List.map fun x => if x.start = f.start then editedSegment f x else x) fun hlist p =>
      segmentAt_edit hlist hg (editRefusal_show hshow h) p
  case deleteSegment z start hstart hmode => exact absurd hmode hsetup
  case setCoupling st z v hv h => exact tighter_setCoupling (h hshow)
  case setStage st f h => exact tighter_setStage hshow h
  case muteNow st => exact (sameNight_changeStage ⟨rfl, rfl⟩).tighter
  case fade st => exact (sameNight_changeStage (by simp)).tighter
  case release st => exact (sameNight_changeStage (by simp)).tighter
  case assignMonitor a z h => exact absurd (assignRefusal_none h).2.2 hsetup
  case unassignMonitor a h hmode => exact absurd hmode hsetup
  case readMonitor l =>
    refine (sameNight_onLoop fun a => ?_).tighter
    exact List.foldlRecOn l _ (motive := fun k : Loop => (k.slots.get a).zone = (s.loop.slots.get a).zone) rfl
      fun _ hk _ _ => (onSlot_zone (f := UnitSlot.clearFlags) fun _ => rfl).trans hk
  case setTime time h => exact (sameNight_takeTime s time).tighter
  case endShow =>
    exact (sameNight_curfewMoved (s := s) (curfewMoved_endShowGrants (s := { s with mode := .setup }) (.refl _))
      (by simp)).tighter
  case restart hmode => exact absurd hmode hsetup
  all_goals exact (SameNight.framed (by simp) (fun st => by simp) (by simp) (by simp)).tighter

theorem LinkOnly.sameNight (h : LinkOnly s t) :
    SameNight s t ∧ t.tables = s.tables ∧ t.minute = s.minute ∧ t.mode = s.mode := by
  obtain ⟨k, r, -, rfl⟩ := h
  exact ⟨.framed rfl (fun _ => rfl) rfl rfl, rfl, rfl, rfl⟩

/-- Settles O52: in SHOW the guarded requests refuse what loosens, and every other change keeps the night. -/
theorem showKeepsTheNightTight : Obligations.ShowKeepsTheNightTight := by
  unfold Obligations.ShowKeepsTheNightTight
  intro c s hshow hpower
  obtain ⟨t, ht, u, v, hu, hchange, hv⟩ := command_change s hpower
  obtain ⟨hsame, htables, hminute, hmode⟩ := hu.sameNight
  have htight : Tighter s t :=
    (Tighter.of_same hsame (hchange.tightens (hmode.trans hshow)) htables hminute).trans_same hv.sameNight.1
  exact ⟨t, ht, fun z _ hbefore => hbefore ▸ htight.zones z, htight.stages, fun a => .inl (htight.slots a),
    htight.tables⟩

end

end Sys2Proof.Machine
end

section
/-! PROOFS. The block and its queue (O1 to O4), and how a request on an idle link completes. -/

namespace Sys2Proof.Machine

/-! ## Requests on an idle link (R161) -/

/-- A request that reaches an idle link is served, and its reply is being sent. -/
theorem exec_request {c : Instr} {l : LinkId} {r : Request} {s u : State} {payload : List Byte}
    (hrequest : requestOf c = some (l, r)) (hidle : idle l s) (hserve : serveRequest l r s = (u, payload)) :
    exec c s = .next (u.send l (replyFrame r payload)) := by
  rw [exec_of_requestOf hrequest, requestReaches_idle _ _ _ hidle, State.takeRequest, hserve]

theorem completes_of {c : Instr} {l : LinkId} {r : Request} {s u : State} {kind : Byte} {payload : List Byte}
    (hrequest : requestOf c = some (l, r)) (hidle : idle l s) (hserve : serveRequest l r s = (u, payload))
    (hkind : replyKind (isUnknown r) (requestKind r) = kind) : completes c l s u kind payload := by
  rw [completes, exec_request hrequest hidle hserve, replyFrame, hkind]

theorem leadsTo_of {c : Instr} {l : LinkId} {s u : State} {kind : Byte} {payload : List Byte} {P : State → Prop}
    (h : completes c l s u kind payload) (hP : P (u.send l (messageFrame kind payload))) : leadsTo c s P :=
  ⟨_, h, hP⟩

/-- Settles O1: the front command's meaning is what `step` runs. -/
theorem stepRunsFrontCommand : Obligations.StepRunsFrontCommand := by
  unfold Obligations.StepRunsFrontCommand
  intro c rest s hfront
  rw [step, hfront]

/-! ## The timer that falls due first (log entry 4) -/

theorem earliest_least (l : List Due) (d : Due) :
    earliest d l ∈ d :: l ∧ ∀ e ∈ d :: l, (earliest d l).1 ≤ e.1 := by
  induction l generalizing d with
  | nil => simp [earliest]
  | cons x l ih =>
    obtain ⟨hmem, hleast⟩ := ih (if x.1 < d.1 then x else d)
    have hpick : (if x.1 < d.1 then x else d) = x ∨ (if x.1 < d.1 then x else d) = d := by
      split
      · exact .inl rfl
      · exact .inr rfl
    have hle : (if x.1 < d.1 then x else d).1 ≤ x.1 ∧ (if x.1 < d.1 then x else d).1 ≤ d.1 := by
      split <;> constructor <;> omega
    have hfold : earliest d (x :: l) = earliest (if x.1 < d.1 then x else d) l := rfl
    rw [hfold]
    refine ⟨?_, fun e he => ?_⟩
    · rcases List.mem_cons.mp hmem with heq | hin
      · rw [heq]
        rcases hpick with h | h <;> simp [h]
      · exact List.mem_cons_of_mem _ (List.mem_cons_of_mem _ hin)
    · have hfirst := hleast _ List.mem_cons_self
      rcases List.mem_cons.mp he with rfl | he
      · exact hfirst.trans hle.2
      · rcases List.mem_cons.mp he with rfl | he
        · exact hfirst.trans hle.1
        · exact hleast e (List.mem_cons_of_mem _ he)

/-- Settles O2: a fold that keeps the earlier of two due moments ends at the least. -/
theorem idleStepTakesEarliestTimer : Obligations.IdleStepTakesEarliestTimer := by
  unfold Obligations.IdleStepTakesEarliestTimer
  intro s hqueue
  refine ⟨by rw [step, hqueue], earliest_least s.otherDues s.timeBase.due⟩

/-! ## What no command touches -/

/-- What a command that is no event of a timer leaves: the queue, and the moment. -/
def stillHere (s t : State) : Prop := t.pending = s.pending ∧ t.now = s.now

theorem LinkOnly.still {s t : State} (h : LinkOnly s t) : stillHere s t := by
  obtain ⟨k, r, -, rfl⟩ := h
  exact ⟨rfl, rfl⟩

theorem stillHere.trans {s t u : State} (h : stillHere s t) (k : stillHere t u) : stillHere s u :=
  ⟨k.1.trans h.1, k.2.trans h.2⟩

theorem linkCommand_still {c : Instr} {l : LinkId} (h : commandLink c = some l) (s : State) :
    ∃ t, exec c s = .next t ∧ stillHere s t := by
  obtain ⟨t, ht, honly | ⟨r, u, hu, hserved⟩⟩ := linkCommand_fate h s
  · exact ⟨t, ht, honly.still⟩
  · obtain ⟨hnow, hpending⟩ := serveRequest_keeps u l r
    exact ⟨t, ht, (hu.still.trans ⟨hpending, hnow⟩).trans hserved.still⟩

/-! ### The events that move time -/

/-- What an event of a timer leaves: the queue; and it never turns time back. -/
def onward (s t : State) : Prop := t.pending = s.pending ∧ s.now ≤ t.now

theorem stillHere.onward {s t : State} (h : stillHere s t) : onward s t := ⟨h.1, h.2.ge⟩

/-- A change at a moment to come, which leaves the moment and the queue as it finds them. -/
theorem onward_of_advanceTo {s t : State} (m : Nat) (hpending : t.pending = s.pending)
    (hnow : t.now = (s.advanceTo m).now) : onward s t :=
  ⟨hpending, hnow ▸ le_max_left _ _⟩

theorem onward_refl (s : State) : onward s s := ⟨rfl, le_rfl⟩

theorem expectedPoint_onward (s : State) : onward s s.expectedPoint := by
  unfold State.expectedPoint
  dsimp only
  split
  · exact onward_of_advanceTo s.timeBase.expected rfl rfl
  · exact onward_of_advanceTo s.timeBase.expected (by simp) (by simp)

theorem windowEnd_onward (s : State) : onward s s.windowEnd := by
  unfold State.windowEnd
  split
  · exact onward_of_advanceTo (s.timeBase.expected + Config.window) (by simp) (by simp)
  · exact onward_refl s

theorem lockLost_onward (s : State) : onward s s.lockLost := by
  unfold State.lockLost
  split
  · exact onward_refl s
  · exact onward_of_advanceTo _ rfl rfl

theorem pulse_onward (s : State) (m : Nat) : onward s (s.advanceTo m).pulse :=
  onward_of_advanceTo m (by simp) (by simp)

theorem reseekExpires_onward (s : State) (a : SlotId) : onward s (s.reseekExpires a) := by
  unfold State.reseekExpires
  split
  · exact onward_of_advanceTo _ rfl rfl
  · exact onward_refl s

theorem settleExpires_onward (s : State) (z : ZoneId) : onward s (s.settleExpires z) := by
  unfold State.settleExpires
  split
  · exact onward_refl s
  · exact onward_of_advanceTo _ rfl rfl

theorem rampExpires_onward (s : State) (st : StageId) : onward s (s.rampExpires st) := by
  unfold State.rampExpires
  split
  · exact onward_refl s
  · next r _ => exact onward_of_advanceTo r.due (by simp) (by simp)

theorem noSignalExpires_onward (s : State) (st : StageId) : onward s (s.noSignalExpires st) := by
  unfold State.noSignalExpires
  split
  · next due _ => exact onward_of_advanceTo due (by simp) (by simp)
  · exact onward_refl s
  · exact onward_refl s

/-! ### The events that come from outside -/

theorem markSent_still (s : State) : ∃ t, exec .markSent s = .next t ∧ stillHere s t := by
  show ∃ t, execMarkSent s = .next t ∧ stillHere s t
  unfold execMarkSent
  split
  · exact ⟨_, rfl, rfl, rfl⟩
  · exact ⟨_, rfl, rfl, rfl⟩

theorem loopResetDone_still (s : State) : ∃ t, exec .loopResetDone s = .next t ∧ stillHere s t := by
  show ∃ t, execLoopResetDone s = .next t ∧ stillHere s t
  unfold execLoopResetDone
  split
  · exact ⟨_, rfl, rfl, rfl⟩
  · exact ⟨_, rfl, rfl, rfl⟩

theorem latnAsserted_still (level : Bool) (s : State) :
    ∃ t, exec (.latnAsserted level) s = .next t ∧ stillHere s t := by
  cases level <;> exact ⟨_, rfl, rfl, rfl⟩

theorem completeReply_still (s : State) (r : Option Reply) : stillHere s (s.completeReply r) :=
  ⟨by simp, by simp⟩

theorem failAttempt_still (s : State) : stillHere s s.failAttempt := ⟨by simp, by simp⟩

theorem stall_still (s : State) : stillHere s (s.loopMove (Loop.stall s.now)).arbitrate :=
  ⟨by simp, by simp⟩

theorem arrival_still (s : State) (st : StageId) (f : Frame) (strobe : Bool) : stillHere s (s.arrival st f strobe) :=
  ⟨by simp, by simp⟩

theorem outputEvent_still (s : State) : stillHere s (s.eachStage State.outputAt) := by
  rw [outputEvent_frame]
  exact ⟨rfl, rfl⟩

/-- What O3 asks of a command's next state. -/
def keepsTime (c : Instr) (s t : State) : Prop :=
  t.pending = s.pending ∧ (c ≠ .powerOn → s.now ≤ t.now) ∧ (movesTime c = false → t.now = s.now)

theorem stillHere.keepsTime {s t : State} (h : stillHere s t) (c : Instr) : keepsTime c s t :=
  ⟨h.1, fun _ => h.2.ge, fun _ => h.2⟩

theorem onward.keepsTime {c : Instr} {s t : State} (h : onward s t) (hmoves : movesTime c = true) : keepsTime c s t :=
  ⟨h.1, fun _ => h.2, fun hstill => nomatch hmoves.symm.trans hstill⟩

theorem leadsTo_of_still {c : Instr} {s : State} (h : ∃ t, exec c s = .next t ∧ stillHere s t) :
    leadsTo c s (keepsTime c s) := by
  obtain ⟨t, ht, hstill⟩ := h
  exact ⟨t, ht, hstill.keepsTime c⟩

theorem event_keepsTime {c : Instr} (h : commandLink c = none) (s : State) : leadsTo c s (keepsTime c s) := by
  cases c
  case powerOn => exact ⟨_, rfl, rfl, fun h => absurd rfl h, fun h => nomatch h⟩
  case expectedPoint => exact ⟨_, rfl, (expectedPoint_onward s).keepsTime rfl⟩
  case ppsPulse m => exact ⟨_, rfl, (pulse_onward s m).keepsTime rfl⟩
  case windowClose => exact ⟨_, rfl, (windowEnd_onward s).keepsTime rfl⟩
  case lockLoss => exact ⟨_, rfl, (lockLost_onward s).keepsTime rfl⟩
  case reseekExpiry a => exact ⟨_, rfl, (reseekExpires_onward s a).keepsTime rfl⟩
  case settleExpiry z => exact ⟨_, rfl, (settleExpires_onward s z).keepsTime rfl⟩
  case rampExpiry st => exact ⟨_, rfl, (rampExpires_onward s st).keepsTime rfl⟩
  case noSignalExpiry st => exact ⟨_, rfl, (noSignalExpires_onward s st).keepsTime rfl⟩
  case latnAsserted level => exact leadsTo_of_still (latnAsserted_still level s)
  case markSent => exact leadsTo_of_still (markSent_still s)
  case loopResetDone => exact leadsTo_of_still (loopResetDone_still s)
  case identifyReply => exact ⟨_, rfl, (completeReply_still s _).keepsTime _⟩
  case statusReply => exact ⟨_, rfl, (completeReply_still s _).keepsTime _⟩
  case fetchReply => exact ⟨_, rfl, (completeReply_still s _).keepsTime _⟩
  case completeReplyFailed => exact ⟨_, rfl, (completeReply_still s _).keepsTime _⟩
  case replyTimeout => exact ⟨_, rfl, (failAttempt_still s).keepsTime _⟩
  case replyBreak => exact ⟨_, rfl, (failAttempt_still s).keepsTime _⟩
  case loopStall => exact ⟨_, rfl, (stall_still s).keepsTime _⟩
  case frameArrival st f b => exact ⟨_, rfl, (arrival_still s st f b).keepsTime _⟩
  case outputFrameEvent => exact ⟨_, rfl, (outputEvent_still s).keepsTime _⟩
  all_goals simp [commandLink, requestOf] at h

/-- Settles O3: a command of a link moves its link and one request's blocks; any other is one event. -/
theorem everyCommandCompletes : Obligations.EveryCommandCompletes := by
  unfold Obligations.EveryCommandCompletes
  intro c s
  cases hlink : commandLink c with
  | none => exact event_keepsTime hlink s
  | some l => exact leadsTo_of_still (linkCommand_still hlink s)

/-! ## Power-on -/

theorem reset_links (l : LinkId) : State.reset.links.get l =
    { receiver := .hunting, transmitter := none, held := none, owed := [], noticeSet := 0#16, enables := 0#16
      priorities := List.replicate (if l = .officer then 9 else 6) 0, alert := false } := by
  cases l with
  | officer => rfl
  | desk st => revert st; decide

/-- Settles O4: every block's values are those of `State.reset`, read off block by block. -/
theorem powerOnGivesPowerOnValues : Obligations.PowerOnGivesPowerOnValues := by
  unfold Obligations.PowerOnGivesPowerOnValues
  intro s
  have htables : ∀ z, State.reset.tables.get z = ⟨[⟨0, .play, 1300, 1300⟩], ⟨0, .play, 1300, 1300⟩⟩ := by decide
  have hzones : ∀ z, State.reset.zones.get z = Zone.reset := by decide
  have hstages : ∀ st, State.reset.stages.get st = Stage.reset := by decide
  have hcurfew : ∀ st, State.reset.curfew.get st = ⟨Bank8.fill false, none, .none, false, 0, none⟩ := by decide
  have hpaths : ∀ st, State.reset.paths.get st = Path.reset := by decide
  have hslots : ∀ a, Loop.reset.slots.get a = UnitSlot.reset := by decide
  refine ⟨s.poweredOn, rfl, rfl, rfl, rfl, rfl, rfl, rfl, fun z => ⟨htables z, hzones z⟩, fun st => ?_, hslots,
    rfl, rfl, rfl, rfl, rfl, rfl, reset_links, rfl, rfl⟩
  have hpath : s.poweredOn.paths.get st = Path.reset := hpaths st
  refine ⟨hstages st, hcurfew st, ?_⟩
  rw [hpath]
  decide

end Sys2Proof.Machine
end

section
/-! PROOFS. Chapter 2 of the spec: the expected point, the window, the loss of the lock, a pulse, SET TIME and SELECT
SOURCE (O9 to O13). -/

namespace Sys2Proof.Machine

/-! ## The mark in the time base and on the loop (R15, R44) -/

theorem mark_eq (now : Nat) (t : TimeBase) :
    t.mark now = { t with
      tag := (t.tag + 1) % 65536
      timeOfDay := if t.state = .unset then t.timeOfDay else (t.timeOfDay + 1) % 86400
      lastMark := now } := by
  cases h : t.state <;> simp [TimeBase.mark, tagPlus, h]

theorem arbitrate_of_flight {k : Loop} (h : k.flight ≠ none) : k.arbitrate = k := by
  cases hflight : k.flight with
  | none => exact absurd hflight h
  | some f => simp [Loop.arbitrate, hflight]

theorem issueMark_loop_of_busy {s : State} (h : s.loop.flight ≠ none) :
    s.issueMark.loop = { s.loop with pendingMark := some s.issueMark.timeBase.tag } := by
  rw [issueMark_timeBase]
  exact (issueMark_loop s).trans (arbitrate_of_flight (k := { s.loop with pendingMark := _ }) h)

/-- A free loop, with no work waiting, sends the MARK at once. -/
theorem issueMark_loop_of_free {s : State} (hbusy : loopBusy s.loop) (h : s.loop.flight = none) :
    s.issueMark.loop = { s.loop with
      pendingMark := none
      flight := some ⟨.mark s.issueMark.timeBase.tag, false⟩
      sent := withCheck ([0#8, 4#8] ++ bytes2 s.issueMark.timeBase.tag) } := by
  obtain ⟨-, -, hscan, -⟩ := hbusy h
  rw [issueMark_timeBase]
  exact (issueMark_loop s).trans (arbitrate_of_pendingMark (k := { s.loop with pendingMark := _ }) h hscan rfl)

/-! ## The expected point and the window (R15, R20) -/

theorem steered_of_pps {t : TimeBase} (hsource : t.source = .pps) (hset : t.state ≠ .unset) : t.steered = true :=
  steered_iff.mpr ⟨hsource, hset⟩

theorem steered_of_internal {t : TimeBase} (h : t.source = .internal ∨ t.state = .unset) : t.steered = false := by
  rcases h with h | h <;> simp [TimeBase.steered, h]

theorem expectedPoint_of_unsteered {s : State} (h : s.timeBase.steered = false) :
    s.expectedPoint = ((s.advanceTo s.timeBase.expected).onTimeBase fun t =>
      { t with expected := t.expected + 1000000 }).issueMark := by
  unfold State.expectedPoint
  exact if_neg (by simp [h])

theorem expectedPoint_of_steered {s : State} (h : s.timeBase.steered = true) :
    s.expectedPoint = s.advanceTo s.timeBase.expected := by
  unfold State.expectedPoint
  exact if_pos h

theorem windowEnd_of_steered {s : State} (h : s.timeBase.steered = true) :
    s.windowEnd = (s.advanceTo (s.timeBase.expected + 1000)).windowCloses := if_pos h

theorem windowEnd_of_unsteered {s : State} (h : s.timeBase.steered = false) : s.windowEnd = s :=
  if_neg (by simp [h])

/-- Settles O9: an unsteered expected point is a mark of the state that has reached it. -/
theorem expectedPointIssuesMark : Obligations.ExpectedPointIssuesMark := by
  unfold Obligations.ExpectedPointIssuesMark
  intro s hbusy hsource
  refine ⟨_, congrArg Host.Outcome.next (expectedPoint_of_unsteered (steered_of_internal hsource)), ?_⟩
  refine ⟨by simp, ?_, ?_, ?_, by simp, by simp⟩
  · rw [issueMark_timeBase, mark_eq]
    rfl
  · exact fun h => issueMark_loop_of_free hbusy h
  · exact fun h => issueMark_loop_of_busy h

/-- Settles O10: the window's close is a mark 1 ms late, and the loss moment needs LOCKED and an empty window. -/
theorem missingPulsesKeepPhaseThenLoseLock : Obligations.MissingPulsesKeepPhaseThenLoseLock := by
  unfold Obligations.MissingPulsesKeepPhaseThenLoseLock
  intro s
  refine ⟨fun hsource hset => ?_, fun h => ?_, fun p hlocked hempty => ?_, fun h => ?_⟩
  · have hsteered := steered_of_pps hsource hset
    refine ⟨congrArg Host.Outcome.next (expectedPoint_of_steered hsteered), _, congrArg Host.Outcome.next (windowEnd_of_steered hsteered), by simp, ?_⟩
    rw [State.windowCloses, issueMark_timeBase, mark_eq]
    simp [hset, Config.second]
  · exact congrArg Host.Outcome.next (windowEnd_of_unsteered (steered_of_internal h))
  · have hmoment : s.timeBase.lossMoment = some (p + 1500000) := by simp [TimeBase.lossMoment, hlocked, hempty, Config.lossDelay]
    show Host.Outcome.next s.lockLost = _
    simp only [State.lockLost, hmoment]
    rfl
  · have hmoment : s.timeBase.lossMoment = none := by
      unfold TimeBase.lossMoment
      split
      · next p hlocked hempty => rcases h with h | h <;> simp_all
      · rfl
    show Host.Outcome.next s.lockLost = _
    simp only [State.lockLost, hmoment]

/-! ## A pulse (R19 to R22) -/

theorem advanceTo_of_le {s : State} {m : Nat} (h : s.now ≤ m) : s.advanceTo m = { s with now := m } := by
  simp [State.advanceTo, Nat.max_eq_right h]

/-- The record of a pulse, in every state (R19). -/
def State.seePulse (s : State) : State := s.onTimeBase fun t => { t with lastPulse := some s.now, firstEmpty := none }

theorem pulse_of_unsteered {s : State} (h : s.timeBase.steered = false) : s.pulse = s.seePulse :=
  if_neg (by simp [h])

theorem pulse_of_inWindow {s : State} (h : s.timeBase.steered = true) (hin : s.timeBase.inWindow s.now = true) :
    s.pulse = s.seePulse.pulseInWindow :=
  (if_pos h).trans (if_pos hin)

theorem pulse_of_short {s : State} (h : s.timeBase.steered = true) (hout : s.timeBase.inWindow s.now = false)
    (hlate : s.timeBase.lastMark + 500000 ≤ s.now) : s.pulse = (s.seePulse.realigned .short).issueMark :=
  (if_pos h).trans ((if_neg (by simp [hout])).trans (if_pos hlate))

theorem pulse_of_long {s : State} (h : s.timeBase.steered = true) (hout : s.timeBase.inWindow s.now = false)
    (hearly : s.now < s.timeBase.lastMark + 500000) : s.pulse = s.seePulse.realigned .long :=
  (if_pos h).trans ((if_neg (by simp [hout])).trans (if_neg (Nat.not_le.mpr hearly)))

theorem inWindow_iff {t : TimeBase} {m : Nat} :
    t.inWindow m = true ↔ t.expected ≤ m + 1000 ∧ m ≤ t.expected + 1000 := by
  rw [TimeBase.inWindow, Bool.and_eq_true, decide_eq_true_iff, decide_eq_true_iff]
  rfl

/-- A pulse in the window counts toward the lock, and locks FREE at the second in a row (R20). -/
def TimeBase.counted (now : Nat) (t : TimeBase) : TimeBase :=
  { t with
    lockCount := min 2 (t.lockCount + 1)
    expected := now + 1000000
    state := if t.state = .free ∧ min 2 (t.lockCount + 1) = 2 then .locked else t.state
    lastEvent := if t.state = .free ∧ min 2 (t.lockCount + 1) = 2 then some .locked else t.lastEvent }

theorem pulseInWindow_timeBase (s : State) :
    s.pulseInWindow.timeBase = (s.timeBase.counted s.now).mark s.now := by
  simp only [State.pulseInWindow, Bool.and_eq_true, decide_eq_true_eq]
  split
  · next h =>
    rw [issueMark_timeBase, TimeBase.counted, if_pos h, if_pos h]
    rfl
  · next h =>
    rw [issueMark_timeBase, TimeBase.counted, if_neg h, if_neg h]
    rfl

theorem raiseOfficer_notice (s : State) (k : OfficerNotice) : noticeAt .officer k.position (s.raiseOfficer k) = true := by
  rw [noticeAt_raiseOfficer_self _ _ (by cases k <;> decide)]
  simp

/-- What raises TIME_EVENT and then only raises further kinds leaves it pending. -/
theorem noticeAt_of_timeEvent {s t : State} {e : TimeEvent} (h : Raises (s.timeEvent e).links t.links) :
    noticeAt .officer 6 t = true :=
  h.noticeAt (raiseOfficer_notice _ .timeEvent)

/-- A pulse that does not lie behind comes at its moment (log entry 3). -/
theorem exec_ppsPulse {s : State} {m : Nat} (hm : s.now ≤ m) :
    exec (.ppsPulse m) s = .next ({ s with now := m } : State).pulse :=
  congrArg (fun u : State => Host.Outcome.next u.pulse) (advanceTo_of_le hm)

/-- Settles O11: a pulse is seen, and then it is in the window, cuts the second short or lengthens it. -/
theorem pulseFollowsWhereItFalls : Obligations.PulseFollowsWhereItFalls := by
  unfold Obligations.PulseFollowsWhereItFalls
  intro s m hm
  generalize hu : ({ s with now := m } : State) = u
  have hpulse : exec (.ppsPulse m) s = .next u.pulse := hu ▸ exec_ppsPulse hm
  have htime : u.timeBase = s.timeBase := by rw [← hu]
  have hnow : u.now = m := by rw [← hu]
  refine ⟨fun h => ?_, fun hsource hset => ?_⟩
  · rw [hpulse, pulse_of_unsteered (htime ▸ steered_of_internal h), ← hu]
    rfl
  · have hsteered : u.timeBase.steered = true := htime ▸ steered_of_pps hsource hset
    refine ⟨fun hin => ?_, fun hout => ?_⟩
    · have hinside : u.timeBase.inWindow u.now = true := by rwa [htime, hnow, inWindow_iff]
      refine ⟨_, hpulse.trans (congrArg _ (pulse_of_inWindow hsteered hinside)), ?_⟩
      have hstill : (if s.timeBase.state = .free ∧ min 2 (s.timeBase.lockCount + 1) = 2 then .locked
          else s.timeBase.state) ≠ LockState.unset := by
        split
        · simp
        · exact hset
      beta_reduce
      rw [pulseInWindow_timeBase, mark_eq]
      simp only [State.seePulse, onTimeBase_now, onTimeBase_timeBase, TimeBase.counted, htime, hnow, if_neg hstill]
    · have houtside : u.timeBase.inWindow u.now = false := by rwa [htime, hnow, Bool.eq_false_iff, ne_eq, inWindow_iff]
      refine ⟨fun hlate => ?_, fun hearly => ?_⟩
      · have hfar : u.timeBase.lastMark + 500000 ≤ u.now := by rwa [htime, hnow]
        refine ⟨_, hpulse.trans (congrArg _ (pulse_of_short hsteered houtside hfar)),
          noticeAt_of_timeEvent (raises_issueMark (.refl _)), ?_⟩
        rw [issueMark_timeBase, mark_eq]
        simp [State.realigned, State.timeEvent, State.seePulse, Config.second, htime, hnow]
      · have hnear : u.now < u.timeBase.lastMark + 500000 := by rwa [htime, hnow]
        rw [hpulse, pulse_of_long hsteered houtside hnear, ← hu]
        rfl

/-! ## SET TIME (R17) -/

theorem dayDistance_eq (a b : Nat) :
    dayDistance a b = min ((a : Int) - b).natAbs (86400 - ((a : Int) - b).natAbs) := by
  have h : max a b - min a b = ((a : Int) - b).natAbs := by omega
  rw [dayDistance, h]

/-- The segment in force is the one the programme minute gives (R28). -/
def inStep (z : ZoneId) (s : State) : Prop :=
  (s.tables.get z).inForce = segmentAt (s.tables.get z).segments s.minute

theorem inStep_congr {z : ZoneId} {s t : State} (htables : t.tables = s.tables) (hminute : t.minute = s.minute)
    (h : inStep z s) : inStep z t := by
  rwa [inStep, htables, hminute]

theorem inStep_reevaluate {z i : ZoneId} {s : State} (h : z ≠ i → inStep i s) : inStep i (s.reevaluate z) := by
  rw [inStep, reevaluate_minute, reevaluate_tables, Bank8.get_set]
  split
  · rfl
  · next hne => exact h (Ne.symm hne)

theorem inStep_setTimeTask {leaves : Bool} {task : Task} {i : ZoneId} {s : State} (h : inStep i s) :
    inStep i (s.setTimeTask leaves task) := by
  cases task with
  | zone z => exact h
  | table z => exact inStep_reevaluate fun _ => h
  | grants => exact h
  | floor st =>
    simp only [State.setTimeTask]
    split
    · exact inStep_congr (by simp) (by simp [State.minute]) h
    · exact h

theorem takeTime_segments (s : State) (time : Nat) (z : ZoneId) :
    ((s.takeTime time).tables.get z).segments = (s.tables.get z).segments := by
  unfold State.takeTime
  have htables : s.takeOrder.2.tables = s.tables := by simp
  generalize s.takeOrder = r at htables ⊢
  obtain ⟨o, u⟩ := r
  rw [← htables]
  exact foldl_keeps (fun t => (t.tables.get z).segments) _ (fun _ task => setTimeTask_segments task z) _ _

theorem takeTime_inStep (s : State) (time : Nat) (z : ZoneId) : inStep z (s.takeTime time) := by
  unfold State.takeTime
  generalize s.takeOrder = r
  obtain ⟨o, u⟩ := r
  exact foldl_establishes (P := fun _ => True) (Q := inStep z) (mem_sequence o (.table z)) trivial
    (fun _ _ _ => trivial) (fun _ _ => inStep_reevaluate fun h => absurd rfl h) fun _ _ => inStep_setTimeTask

/-- A SET TIME that leaves UNSET has every stage recompute its target. -/
theorem takeTime_targetsOk {s : State} (time : Nat) (h : s.timeBase.state = .unset) : targetsOk (s.takeTime time) := by
  unfold State.takeTime
  have htime : s.takeOrder.2.timeBase = s.timeBase := by simp
  generalize s.takeOrder = r at htime ⊢
  obtain ⟨o, u⟩ := r
  dsimp only at htime ⊢
  simp only [htime, h, decide_true]
  intro i
  refine foldl_establishes (P := fun _ => True) (Q := fun t => (t.stages.get i).target = targetOf t i)
    (mem_sequence o (.floor i)) trivial (fun _ _ _ => trivial) (fun t _ => ?_)
    fun t task => setTimeTask_keeps_target task
  simp [State.setTimeTask]

theorem takeTime_notice (s : State) (time : Nat) : noticeAt .officer 6 (s.takeTime time) = true := by
  unfold State.takeTime
  exact noticeAt_of_timeEvent (raises_foldl (fun _ task => raises_setTimeTask _ task) _ (.refl _))

/-- Settles O12: the refusals of R17 in their order, or the clock set and every table re-evaluated. -/
theorem setTimeRequest : Obligations.SetTimeRequest := by
  unfold Obligations.SetTimeRequest
  intro s time hidle
  refine ⟨fun hbeyond => ?_, fun hday hshow hfar => ?_, fun hday hnear => ?_⟩
  · have hrefused : timeRefusal s time = some .badValue := if_pos hbeyond
    refine completes_of rfl hidle ?_ rfl
    show serveSetTime time s = _
    rw [serveSetTime, hrefused]
    rfl
  · have hrefused : timeRefusal s time = some .showLock := by
      rw [timeRefusal, if_neg (Nat.not_le.mpr hday), if_pos]
      simpa [hshow, Mode.isShow, dayDistance_eq] using hfar
    refine completes_of rfl hidle ?_ rfl
    show serveSetTime time s = _
    rw [serveSetTime, hrefused]
    rfl
  · have htaken : timeRefusal s time = none := by
      rw [timeRefusal, if_neg (Nat.not_le.mpr hday), if_neg]
      cases hmode : s.mode with
      | setup => simp [Mode.isShow]
      | _ =>
        have hclose := hnear hmode
        simp only [Mode.isShow, dayDistance_eq, Bool.true_and, decide_eq_true_eq]
        omega
    have htime : (s.takeTime time).timeBase = { s.timeBase with
        timeOfDay := time
        state := if s.timeBase.state = .unset then .free else s.timeBase.state
        lastEvent := some .set } := by
      simp [takeTime_timeBase]
    have hminute : (s.takeTime time).minute = some ((time / 60 + 720) % 1440) := by
      rw [State.minute, htime]
      cases s.timeBase.state <;> rfl
    have hserve : serveSetTime time s = (s.takeTime time, timeReply .ok (s.takeTime time)) := by
      rw [serveSetTime, htaken]
    have htables : ∀ z, ((s.takeTime time).tables.get z).segments = (s.tables.get z).segments ∧
        ((s.takeTime time).tables.get z).inForce =
          segmentAt (s.tables.get z).segments (some ((time / 60 + 720) % 1440)) := fun z =>
      ⟨takeTime_segments s time z, hminute ▸ takeTime_segments s time z ▸ takeTime_inStep s time z⟩
    have htargets : s.timeBase.state = .unset → targetsOk (s.takeTime time) := takeTime_targetsOk time
    have hnotice := takeTime_notice s time
    obtain ⟨hnow, hmode, hzones, hpaths, hlist, hloop, -⟩ := takeTime_frame s time
    generalize s.takeTime time = u at hserve htime htables htargets hnotice hnow hmode hzones hpaths hlist hloop
    exact leadsTo_of (completes_of rfl hidle hserve rfl) ⟨htime, htables, htargets, (noticeAt_send _ _ _ _ _).trans hnotice,
      sentReply_send _ _ _ _, hzones, hloop, hpaths, hlist, hmode, hnow⟩

/-! ## SELECT SOURCE (R18, R19) -/

theorem pulsePresent_eq (now : Nat) (t : TimeBase) :
    t.pulsePresent now = true ↔ ∃ p ∈ t.lastPulse, now ≤ p + 2000000 := by
  unfold TimeBase.pulsePresent
  split
  · next h => simp [h]
  · next p h =>
    rw [decide_eq_true_iff, h]
    simp [Config.pulsePresence]

/-- Whether a mark is waiting for the window (R18). -/
def TimeBase.waits (now : Nat) (t : TimeBase) : Bool := t.steered && decide (t.expected ≤ now)

def State.sourceInternal (s : State) : State :=
  (s.onTimeBase fun t =>
    { t with
      source := .internal
      lockCount := 0
      state := if t.state = .locked then .free else t.state
      expected := if s.timeBase.waits s.now then t.expected + 1000000 else t.expected }).timeEvent .source

theorem toInternal_eq (s : State) :
    s.toInternal = if s.timeBase.waits s.now then s.sourceInternal.issueMark else s.sourceInternal := rfl

theorem toInternal_timeBase (s : State) :
    s.toInternal.timeBase =
      if s.timeBase.waits s.now then s.sourceInternal.timeBase.mark s.now else s.sourceInternal.timeBase := by
  rw [toInternal_eq]
  split
  · exact issueMark_timeBase _
  · rfl

theorem toInternal_notice (s : State) : noticeAt .officer 6 s.toInternal = true := by
  rw [toInternal_eq]
  split
  · exact noticeAt_of_timeEvent (raises_issueMark (.refl _))
  · exact raiseOfficer_notice _ .timeEvent

theorem waits_iff {now : Nat} {t : TimeBase} (h : t.source = .pps) :
    t.waits now = true ↔ t.state ≠ .unset ∧ t.expected ≤ now := by
  rw [TimeBase.waits, Bool.and_eq_true, steered_iff, decide_eq_true_iff]
  simp [h]

/-- What a change to INTERNAL makes of the time base, and of the mark that waited for the window. -/
theorem toInternal_parts {s : State} (h : s.timeBase.source = .pps) :
    s.toInternal.timeBase.source = .internal ∧ s.toInternal.timeBase.lockCount = 0 ∧
    s.toInternal.timeBase.lastEvent = some .source ∧
    s.toInternal.timeBase.state = (if s.timeBase.state = .locked then .free else s.timeBase.state) ∧
    (if s.timeBase.state ≠ .unset ∧ s.timeBase.expected ≤ s.now then
      s.toInternal.timeBase.tag = (s.timeBase.tag + 1) % 65536 ∧
        s.toInternal.timeBase.expected = s.timeBase.expected + 1000000
    else s.toInternal.timeBase.tag = s.timeBase.tag ∧ s.toInternal.timeBase.expected = s.timeBase.expected) := by
  rw [toInternal_timeBase]
  by_cases hwaits : s.timeBase.waits s.now = true
  · rw [if_pos hwaits, if_pos ((waits_iff h).mp hwaits), mark_eq]
    exact ⟨rfl, rfl, rfl, rfl, rfl, if_pos hwaits⟩
  · rw [if_neg hwaits, if_neg fun hboth => hwaits ((waits_iff h).mpr hboth)]
    exact ⟨rfl, rfl, rfl, rfl, rfl, if_neg hwaits⟩

theorem serveSelectSource_beyond {n : Nat} (h : 2 ≤ n) (s : State) :
    serveSelectSource n s = (s, timeReply .badValue s) := by
  obtain ⟨m, rfl⟩ := Nat.exists_eq_add_of_le' h
  rfl

/-- Settles O13: one case for each source asked for and each source held. -/
theorem selectSourceRequest : Obligations.SelectSourceRequest := by
  unfold Obligations.SelectSourceRequest
  intro s hidle
  have hserve : ∀ {n : Nat} {u : State} {payload : List Byte}, serveSelectSource n s = (u, payload) →
      completes (.selectSource n) .officer s u 0x9E#8 payload := fun h => completes_of rfl hidle h rfl
  refine ⟨fun n hn => hserve (serveSelectSource_beyond hn s), fun hinternal => ⟨hserve ?_, fun habsent => hserve ?_,
    fun p hp hpresent => ?_⟩, fun hpps => ⟨hserve ?_, ?_⟩⟩
  · simp only [serveSelectSource, hinternal]
    rfl
  · have hgone : s.timeBase.pulsePresent s.now = false := by
      rw [Bool.eq_false_iff, ne_eq, pulsePresent_eq]
      rintro ⟨p, hp, hrecent⟩
      exact absurd (habsent p hp) (by omega)
    simp only [serveSelectSource, hinternal, hgone, Bool.false_eq_true, if_false]
    rfl
  · have hhere : s.timeBase.pulsePresent s.now = true := pulsePresent_eq _ _ |>.mpr ⟨p, hp, hpresent⟩
    refine leadsTo_of (hserve (u := s.toPps) (payload := timeReply .ok s.toPps) ?_) rfl
    simp [serveSelectSource, hinternal, hhere]
  · simp only [serveSelectSource, hpps]
    rfl
  · refine leadsTo_of (hserve (u := s.toInternal) (payload := timeReply .ok s.toInternal) ?_) ?_
    · simp [serveSelectSource, hpps]
    · obtain ⟨hsource, hcount, hevent, hstate, hwaiting⟩ := toInternal_parts hpps
      refine ⟨hsource, hcount, hevent, ?_, hstate, hwaiting⟩
      rw [noticeAt_send]
      exact toInternal_notice s

end Sys2Proof.Machine
end

section
/-! PROOFS. Chapter 2.3 of the spec: INSERT, EDIT and DELETE SEGMENT (O14, O15). -/

namespace Sys2Proof.Machine

/-! ## Requests that name a zone or a stage (R190) -/

theorem zoneOf_val (z : ZoneId) : zoneOf z.val = some z := dif_pos z.isLt

theorem forZone_val (z : ZoneId) (s : State) (serve : ZoneId → Served) : forZone z.val s serve = serve z := by
  rw [forZone, zoneOf_val]

theorem forZone_beyond {n : Nat} (h : 8 ≤ n) (s : State) (serve : ZoneId → Served) :
    forZone n s serve = (s, [4#8]) := by
  have hnone : zoneOf n = none := dif_neg (Nat.not_lt.mpr h)
  rw [forZone, hnone]
  rfl

theorem stageOf_val (st : StageId) : stageOf st.val = some st := dif_pos st.isLt

theorem forStage_val (st : StageId) (s : State) (serve : StageId → Served) : forStage st.val s serve = serve st := by
  rw [forStage, stageOf_val]

theorem forStage_beyond {n : Nat} (h : 4 ≤ n) (s : State) (serve : StageId → Served) :
    forStage n s serve = (s, [4#8]) := by
  have hnone : stageOf n = none := dif_neg (Nat.not_lt.mpr h)
  rw [forStage, hnone]
  rfl

/-! ## A list stored in a table (R26 to R28) -/

/-- A zone's list changed, and its table re-evaluated. -/
def State.storeList (z : ZoneId) (f : List Segment → List Segment) (s : State) : State :=
  (s.onTable z fun t => { t with segments := f t.segments }).reevaluate z

theorem storeList_tables (z : ZoneId) (f : List Segment → List Segment) (s : State) :
    (s.storeList z f).tables =
      s.tables.set z ⟨f (s.tables.get z).segments, segmentAt (f (s.tables.get z).segments) s.minute⟩ := by
  rw [State.storeList, reevaluate_tables]
  simp [Bank8.modify, State.minute]

/-- What INSERT, EDIT and DELETE SEGMENT leave where they are taken. -/
def listStored (z : ZoneId) (l : List Segment) (s t : State) : Prop :=
  (t.tables.get z).segments = l ∧ (t.tables.get z).inForce = segmentAt (t.tables.get z).segments s.minute ∧
  t.tables = s.tables.set z (t.tables.get z)

theorem storeList_stored (z : ZoneId) (f : List Segment → List Segment) (s : State) :
    listStored z (f (s.tables.get z).segments) s (s.storeList z f) := by
  rw [listStored, storeList_tables]
  simp

theorem storeList_frame (z : ZoneId) (f : List Segment → List Segment) (s : State) :
    (s.storeList z f).zones = s.zones ∧ (s.storeList z f).timeBase = s.timeBase ∧
    (s.storeList z f).exceedances = s.exceedances ∧ (s.storeList z f).loop = s.loop ∧
    (s.storeList z f).paths = s.paths ∧ (s.storeList z f).mode = s.mode ∧ (s.storeList z f).now = s.now := by
  simp [State.storeList]

/-- A request that stores a list completes, and nothing but its table, the stages and the curfew unit moves. -/
theorem leadsTo_of_stored {c : Instr} {r : Request} {s u : State} {z : ZoneId} {g : Segment} {l : List Segment}
    {kind : Byte} (hrequest : requestOf c = some (.officer, r)) (hidle : idle .officer s)
    (hserve : serveRequest .officer r s = (u, segmentReply .ok u z (some g)))
    (hkind : replyKind (isUnknown r) (requestKind r) = kind) (hstored : listStored z l s u)
    (hframe : u.zones = s.zones ∧ u.timeBase = s.timeBase ∧ u.exceedances = s.exceedances ∧ u.loop = s.loop ∧
      u.paths = s.paths ∧ u.mode = s.mode ∧ u.now = s.now) :
    leadsTo c s fun t =>
      (t.tables.get z).segments = l ∧ (t.tables.get z).inForce = segmentAt (t.tables.get z).segments s.minute ∧
      t.tables = s.tables.set z (t.tables.get z) ∧
      sentReply .officer t = some (kind, segmentReply .ok t z (some g)) ∧
      t.zones = s.zones ∧ t.timeBase = s.timeBase ∧ t.exceedances = s.exceedances ∧ t.loop = s.loop ∧
      t.paths = s.paths ∧ t.mode = s.mode ∧ t.now = s.now := by
  obtain ⟨hlist, hforce, htables⟩ := hstored
  exact leadsTo_of (completes_of hrequest hidle hserve hkind)
    ⟨hlist, hforce, htables, sentReply_send _ _ _ _, hframe⟩

/-! ## The segments (R26, R27) -/

theorem clampTo_zero (hi n : Nat) : clampTo 0 hi n = min hi n := Nat.zero_max _

theorem segmentStarting_none {l : List Segment} {n : Nat} (h : ∀ x ∈ l, x.start ≠ n) : segmentStarting l n = none :=
  Option.isNone_iff_eq_none.mp (by simpa [segmentStarting] using h)

theorem segmentStarting_isSome {l : List Segment} {n : Nat} (h : ∃ x ∈ l, x.start = n) :
    (segmentStarting l n).isSome = true := by
  simpa [segmentStarting] using h

theorem insertedSegment_eq (f : InsertFields) :
    insertedSegment f = ⟨min 1439 f.start,
      if f.kind = 0 then .play
      else .curfew (clampTo 400 1300 (f.encoreBroad.getD f.broad)) (clampTo 400 1300 (f.encoreLow.getD f.low)),
      clampTo 400 1300 f.broad, clampTo 400 1300 f.low⟩ := by
  have hgetD : ∀ (o : Option Nat) (n : Nat), (o.map clampLevel).getD (clampLevel n) = clampTo 400 1300 (o.getD n) := by
    intro o n
    cases o <;> rfl
  simp only [insertedSegment, hgetD, clampTo_zero]
  rfl

/-- Where no segment has the new one's start, its predecessor is the segment in force at that minute (R32). -/
theorem predecessor_eq {l : List Segment} {n : Nat} (h : ∀ x ∈ l, x.start ≠ n) :
    predecessor l n = segmentAt l (some n) := by
  have hfilter : (l.filter fun x => decide (x.start < n)) = l.filter fun x => decide (x.start ≤ n) :=
    List.filter_congr fun x hx => by
      have := h x hx
      exact decide_eq_decide.mpr (by omega)
  rw [predecessor, segmentAt, hfilter]

/-- No limit of the new segment is above the old one's (R32). -/
theorem noLooser_iff {new old : Segment} :
    new.noLooser old = true ↔ new.broad ≤ old.broad ∧ new.low ≤ old.low ∧
      ∀ eb el, new.kind = .curfew eb el → eb ≤ old.ceiling.broad ∧ el ≤ old.ceiling.low := by
  unfold Segment.noLooser
  cases hkind : new.kind <;> simp [and_assoc]

theorem not_noLooser_iff {new old : Segment} :
    new.noLooser old = false ↔ old.broad < new.broad ∨ old.low < new.low ∨
      ∃ eb el, new.kind = .curfew eb el ∧ (old.ceiling.broad < eb ∨ old.ceiling.low < el) := by
  rw [Bool.eq_false_iff, ne_eq, noLooser_iff]
  cases hkind : new.kind with
  | play => simp; omega
  | curfew eb el => simp; omega

/-! ## INSERT SEGMENT (R26, R32) -/

section
variable {s : State} {z : ZoneId} {f : InsertFields}

theorem insertRefusal_badValue (h : f.spareBits = true ∨ 2 ≤ f.kind) : insertRefusal s z f = some .badValue := by
  refine if_pos ?_
  rcases h with h | h
  · simp [h]
  · simp [segmentKindKnown]
    omega

variable (hfit : f.spareBits = false) (hkind : f.kind ≤ 1)
include hfit hkind

theorem insertRefusal_of_known : insertRefusal s z f =
    if (segmentStarting (s.tables.get z).segments (insertedSegment f).start).isSome then some .duplicate
    else if 8 ≤ (s.tables.get z).segments.length then some .full
    else if s.mode.isShow && !insertTightens s.minute (s.tables.get z).segments (insertedSegment f) then some .showLock
    else none :=
  if_neg (by simp [hfit, segmentKindKnown, hkind])

theorem insertRefusal_duplicate (h : ∃ x ∈ (s.tables.get z).segments, x.start = (insertedSegment f).start) :
    insertRefusal s z f = some .duplicate := by
  rw [insertRefusal_of_known hfit hkind, if_pos (segmentStarting_isSome h)]

variable (hnew : ∀ x ∈ (s.tables.get z).segments, x.start ≠ (insertedSegment f).start)
include hnew

theorem insertRefusal_of_new : insertRefusal s z f =
    if 8 ≤ (s.tables.get z).segments.length then some .full
    else if s.mode.isShow && !insertTightens s.minute (s.tables.get z).segments (insertedSegment f) then some .showLock
    else none := by
  rw [insertRefusal_of_known hfit hkind, segmentStarting_none hnew]
  rfl

omit hfit hkind in
theorem insertTightens_iff : insertTightens s.minute (s.tables.get z).segments (insertedSegment f) = true ↔
    (∃ p ∈ s.minute, p < (insertedSegment f).start) ∧
    (insertedSegment f).noLooser (segmentAt (s.tables.get z).segments (some (insertedSegment f).start)) = true := by
  unfold insertTightens
  rw [Bool.and_eq_true, predecessor_eq hnew]
  cases s.minute <;> simp

theorem insertRefusal_showLock (hroom : (s.tables.get z).segments.length < 8) (hshow : s.mode = .show)
    (h : (∀ p ∈ s.minute, (insertedSegment f).start ≤ p) ∨
      (insertedSegment f).noLooser (segmentAt (s.tables.get z).segments (some (insertedSegment f).start)) = false) :
    insertRefusal s z f = some .showLock := by
  have hlooser : insertTightens s.minute (s.tables.get z).segments (insertedSegment f) = false := by
    rw [Bool.eq_false_iff, ne_eq, insertTightens_iff hnew]
    rintro ⟨⟨p, hp, hlater⟩, htight⟩
    rcases h with h | h
    · exact absurd (h p hp) (Nat.not_le.mpr hlater)
    · exact absurd (htight.symm.trans h) (by decide)
  rw [insertRefusal_of_new hfit hkind hnew, if_neg (Nat.not_le.mpr hroom), hshow, hlooser]
  rfl

theorem insertRefusal_taken (hroom : (s.tables.get z).segments.length < 8)
    (h : s.mode = .show → (∃ p ∈ s.minute, p < (insertedSegment f).start) ∧
      (insertedSegment f).noLooser (segmentAt (s.tables.get z).segments (some (insertedSegment f).start)) = true) :
    insertRefusal s z f = none := by
  rw [insertRefusal_of_new hfit hkind hnew, if_neg (Nat.not_le.mpr hroom)]
  refine if_neg ?_
  cases hmode : s.mode with
  | setup => simp [Mode.isShow]
  | _ => simp [(insertTightens_iff hnew).mpr (h hmode)]

end

/-- Settles O14: `insertRefusal` answers each clause, and a list taken is stored and re-evaluated. -/
theorem insertSegmentRequest : Obligations.InsertSegmentRequest := by
  unfold Obligations.InsertSegmentRequest
  intro s f hidle g hg
  rw [← insertedSegment_eq] at hg
  subst hg
  refine ⟨fun n hn => completes_of rfl hidle (forZone_beyond hn _ _) rfl, ?_⟩
  rintro z l rfl q rfl
  have hrefused : ∀ {code : ReplyCode}, insertRefusal s z f = some code →
      completes (.insertSegment z.val f) .officer s s 0x94#8
        (segmentReply code s z (segmentStarting (s.tables.get z).segments (insertedSegment f).start)) := by
    intro code hcode
    refine completes_of rfl hidle ?_ rfl
    show serveInsertSegment z.val f s = _
    rw [serveInsertSegment, forZone_val, hcode]
  refine ⟨fun h => hrefused (insertRefusal_badValue h), fun hfit hkind => ⟨fun h =>
    hrefused (insertRefusal_duplicate hfit hkind h), fun hnew => ?_⟩⟩
  have hnone := segmentStarting_none hnew
  rw [hnone] at hrefused
  refine ⟨fun hfull => hrefused ?_, fun hroom => ⟨fun hshow hlooser => hrefused ?_, fun htight => ?_⟩⟩
  · rw [insertRefusal_of_new hfit hkind hnew, if_pos hfull]
  · exact insertRefusal_showLock hfit hkind hnew hroom hshow (hlooser.imp_right not_noLooser_iff.mpr)
  · have htaken := insertRefusal_taken hfit hkind hnew hroom fun hshow => (htight hshow).imp_right noLooser_iff.mpr
    have hserve : serveInsertSegment z.val f s =
        (s.storeList z (placeSegment (insertedSegment f)),
          segmentReply .ok (s.storeList z (placeSegment (insertedSegment f))) z (some (insertedSegment f))) := by
      rw [serveInsertSegment, forZone_val, htaken]
      rfl
    exact leadsTo_of_stored rfl hidle hserve rfl (storeList_stored z _ s) (storeList_frame z _ s)

/-! ## EDIT SEGMENT and DELETE SEGMENT (R27, R32) -/

theorem editedSegment_eq (f : EditFields) (g : Segment) :
    editedSegment f g = ⟨g.start,
      if f.kind = some 0 then .play
      else match g.kind with
        | .play =>
          if f.kind = none then .play
          else .curfew
            ((f.encoreBroad.map (clampTo 400 1300)).getD ((f.broad.map (clampTo 400 1300)).getD g.broad))
            ((f.encoreLow.map (clampTo 400 1300)).getD ((f.low.map (clampTo 400 1300)).getD g.low))
        | .curfew eb el =>
          .curfew ((f.encoreBroad.map (clampTo 400 1300)).getD eb)
            ((f.encoreLow.map (clampTo 400 1300)).getD el),
      (f.broad.map (clampTo 400 1300)).getD g.broad, (f.low.map (clampTo 400 1300)).getD g.low⟩ := by
  have hclamp : clampLevel = clampTo 400 1300 := rfl
  unfold editedSegment
  rw [hclamp]
  rcases hkind : f.kind with _ | _ | n <;> rcases hold : g.kind with _ | ⟨eb, el⟩ <;> simp

section
variable {s : State} {f : EditFields} {g : Segment}

theorem editRefusal_badValue (h : f.spareBits = true ∨ ∃ n ∈ f.kind, 2 ≤ n) : editRefusal s f g = some .badValue := by
  refine if_pos ?_
  rcases h with h | ⟨n, hn, hbeyond⟩
  · simp [h]
  · rw [Option.mem_def.mp hn]
    simp [segmentKindKnown]
    omega

variable (hfit : f.spareBits = false) (hkind : ∀ n ∈ f.kind, n ≤ 1)
include hfit hkind

theorem editRefusal_of_known :
    editRefusal s f g = if s.mode.isShow && !(editedSegment f g).noLooser g then some .showLock else none := by
  refine if_neg ?_
  cases h : f.kind with
  | none => simp [hfit]
  | some n => simp [hfit, segmentKindKnown, hkind n h]

theorem editRefusal_showLock (hshow : s.mode = .show) (h : (editedSegment f g).noLooser g = false) :
    editRefusal s f g = some .showLock := by
  rw [editRefusal_of_known hfit hkind, hshow, h]
  rfl

theorem editRefusal_taken (h : s.mode = .show → (editedSegment f g).noLooser g = true) : editRefusal s f g = none := by
  rw [editRefusal_of_known hfit hkind]
  refine if_neg ?_
  cases hmode : s.mode with
  | setup => simp [Mode.isShow]
  | _ => simp [h hmode]

end

theorem segmentStarting_some {l : List Segment} {n : Nat} {g : Segment} (h : segmentStarting l n = some g) :
    g ∈ l ∧ g.start = n :=
  ⟨List.mem_of_find?_eq_some h, by simpa using List.find?_some (p := fun x : Segment => decide (x.start = n)) h⟩

/-- A segment's start names it, so only that segment is changed in place. -/
theorem edit_in_place {l : List Segment} (hnodup : (l.map Segment.start).Nodup) {f : EditFields} {g : Segment}
    (hg : segmentStarting l f.start = some g) :
    (l.map fun h => if h.start = f.start then editedSegment f h else h) =
      l.map fun h => if h.start = f.start then editedSegment f g else h := by
  obtain ⟨hmem, hstart⟩ := segmentStarting_some hg
  refine List.map_congr_left fun x hx => ?_
  split
  · next heq => rw [List.inj_on_of_nodup_map hnodup hx hmem (heq.trans hstart.symm)]
  · rfl

section
variable {s : State} {z : ZoneId}

theorem editSegment_clauses (hidle : idle .officer s) (f : EditFields) {l : List Segment}
    (hl : l = (s.tables.get z).segments) :
    ((∀ h ∈ l, h.start ≠ f.start) →
      completes (.editSegment z.val f) .officer s s 0x95#8 (segmentReply .noSuch s z none)) ∧
    ∀ g : Segment, segmentStarting l f.start = some g →
      (∀ code, editRefusal s f g = some code →
        completes (.editSegment z.val f) .officer s s 0x95#8 (segmentReply code s z (some g))) ∧
      (editRefusal s f g = none →
        leadsTo (.editSegment z.val f) s fun t =>
          ((l.map Segment.start).Nodup →
            (t.tables.get z).segments = l.map fun h => if h.start = f.start then editedSegment f g else h) ∧
          (t.tables.get z).inForce = segmentAt (t.tables.get z).segments s.minute ∧
          t.tables = s.tables.set z (t.tables.get z) ∧
          sentReply .officer t = some (0x95#8, segmentReply .ok t z (some (editedSegment f g))) ∧
          t.zones = s.zones ∧ t.timeBase = s.timeBase ∧ t.exceedances = s.exceedances ∧
          t.loop = s.loop ∧ t.paths = s.paths ∧ t.mode = s.mode ∧ t.now = s.now) := by
  subst hl
  refine ⟨fun hnew => completes_of rfl hidle ?_ rfl, fun g hg => ⟨fun code hcode => completes_of rfl hidle ?_ rfl,
    fun htaken => ?_⟩⟩
  · show serveEditSegment z.val f s = _
    rw [serveEditSegment, forZone_val, segmentStarting_none hnew]
  · show serveEditSegment z.val f s = _
    simp only [serveEditSegment, forZone_val, hg, hcode]
  · have hserve : serveEditSegment z.val f s =
        (s.storeList z (List.map fun h => if h.start = f.start then editedSegment f h else h),
          segmentReply .ok (s.storeList z (List.map fun h => if h.start = f.start then editedSegment f h else h)) z
            (some (editedSegment f g))) := by
      simp only [serveEditSegment, forZone_val, hg, htaken]
      rfl
    obtain ⟨t, ht, hlist, hrest⟩ := leadsTo_of_stored (c := .editSegment z.val f) rfl hidle hserve rfl
      (storeList_stored z _ s) (storeList_frame z _ s)
    exact ⟨t, ht, fun hnodup => hlist.trans (edit_in_place hnodup hg), hrest⟩

theorem deleteSegment_clauses (hidle : idle .officer s) (start : Nat) {l : List Segment}
    (hl : l = (s.tables.get z).segments) :
    ((∀ h ∈ l, h.start ≠ start) →
      completes (.deleteSegment z.val start) .officer s s 0x96#8 (segmentReply .noSuch s z none)) ∧
    ∀ g : Segment, segmentStarting l start = some g →
      (start = 0 →
        completes (.deleteSegment z.val start) .officer s s 0x96#8 (segmentReply .badValue s z (some g))) ∧
      (start ≠ 0 → s.mode = .show →
        completes (.deleteSegment z.val start) .officer s s 0x96#8 (segmentReply .showLock s z (some g))) ∧
      (start ≠ 0 → s.mode = .setup →
        leadsTo (.deleteSegment z.val start) s fun t =>
          (t.tables.get z).segments = (l.filter fun h => h.start ≠ start) ∧
          (t.tables.get z).inForce = segmentAt (t.tables.get z).segments s.minute ∧
          t.tables = s.tables.set z (t.tables.get z) ∧
          sentReply .officer t = some (0x96#8, segmentReply .ok t z (some g)) ∧
          t.zones = s.zones ∧ t.timeBase = s.timeBase ∧ t.exceedances = s.exceedances ∧
          t.loop = s.loop ∧ t.paths = s.paths ∧ t.mode = s.mode ∧ t.now = s.now) := by
  subst hl
  refine ⟨fun hnew => completes_of rfl hidle ?_ rfl, fun g hg => ⟨fun hzero => completes_of rfl hidle ?_ rfl,
    fun hstart hshow => completes_of rfl hidle ?_ rfl, fun hstart hsetup => ?_⟩⟩
  · show serveDeleteSegment z.val start s = _
    rw [serveDeleteSegment, forZone_val, segmentStarting_none hnew]
  · show serveDeleteSegment z.val start s = _
    simp only [serveDeleteSegment, forZone_val, hg, if_pos hzero]
  · show serveDeleteSegment z.val start s = _
    simp only [serveDeleteSegment, forZone_val, hg, if_neg hstart, hshow, Mode.isShow, if_true]
  · have hserve : serveDeleteSegment z.val start s =
        (s.storeList z (List.filter fun h => decide (h.start ≠ start)),
          segmentReply .ok (s.storeList z (List.filter fun h => decide (h.start ≠ start))) z (some g)) := by
      simp only [serveDeleteSegment, forZone_val, hg, if_neg hstart, hsetup, Mode.isShow, Bool.false_eq_true, if_false]
      rfl
    exact leadsTo_of_stored rfl hidle hserve rfl (storeList_stored z _ s) (storeList_frame z _ s)

end

/-- Settles O15: `editRefusal` answers each clause of EDIT; a list taken is stored and re-evaluated. -/
theorem editAndDeleteSegmentRequests : Obligations.EditAndDeleteSegmentRequests := by
  unfold Obligations.EditAndDeleteSegmentRequests
  intro s f start hidle
  refine ⟨⟨fun n hn => completes_of rfl hidle (forZone_beyond hn _ _) rfl, fun z l hl => ?_⟩,
    fun n hn => completes_of rfl hidle (forZone_beyond hn _ _) rfl, fun z l hl => deleteSegment_clauses hidle start hl⟩
  obtain ⟨hnoSuch, hnamed⟩ := editSegment_clauses hidle f hl
  refine ⟨hnoSuch, fun g hg e he => ?_⟩
  obtain rfl : e = editedSegment f g := he.trans (editedSegment_eq f g).symm
  obtain ⟨hrefused, htaken⟩ := hnamed g hg
  exact ⟨fun h => hrefused _ (editRefusal_badValue h), fun hfit hkind =>
    ⟨fun hshow hlooser => hrefused _ (editRefusal_showLock hfit hkind hshow (not_noLooser_iff.mpr hlooser)),
      fun htight => htaken (editRefusal_taken hfit hkind fun hshow => noLooser_iff.mpr (htight hshow))⟩⟩

end Sys2Proof.Machine
end

section
/-! PROOFS. The reads (O16): the lengths of their layouts, and what READ ZONE and READ MONITOR clear. -/

namespace Sys2Proof.Machine

/-! ## Lengths of the layouts (R153, R165, R178, R179, R192, R193) -/

theorem stageStatusReply_length (s : State) (st : StageId) : (stageStatusReply s st).length = 20 := rfl

theorem length_flatMap_const {α β : Type} {f : α → List β} {n : Nat} (hf : ∀ a, (f a).length = n) (l : List α) :
    (l.flatMap f).length = n * l.length := by
  simp [List.length_flatMap, hf, mul_comm]

theorem headroomBytes_length (zn : Zone) (limits : Pair Nat) (m : Metric) : (headroomBytes zn limits m).length = 2 := by
  unfold headroomBytes
  split <;> rfl

theorem zoneViewEntry_length (s : State) (z : ZoneId) : (zoneViewEntry s z).length = 10 := by
  simp [zoneViewEntry, headroomBytes_length]

theorem zoneViewReply_length (s : State) (st : StageId) :
    (zoneViewReply s st).length = 2 + 10 * (allZones.filter (reaches s st)).length := by
  simp only [zoneViewReply, List.length_append, length_flatMap_const (zoneViewEntry_length s)]
  rfl

theorem noticesReply_length {s : State} {l : LinkId} (h : (s.links.get l).priorities.length = linkKinds l) :
    (noticesReply s l).length = if l = .officer then 15 else 10 := by
  cases l with
  | officer => simp [noticesReply, maskBytes, bytes2, h, linkKinds]
  | desk st => simp [noticesReply, maskBytes, h, linkKinds]

theorem segmentEntry_length (g : Segment) : (segmentEntry g).length = 11 := by
  unfold segmentEntry
  split <;> rfl

theorem scheduleReply_length (s : State) (z : ZoneId) :
    (scheduleReply s z).length = 11 + 11 * (s.tables.get z).segments.length := by
  simp only [scheduleReply, List.length_append, length_flatMap_const segmentEntry_length]
  rfl

theorem slotEntry_length (a : SlotId) (u : UnitSlot) : (slotEntry a u).length = 11 := rfl

theorem monitorReply_length (s : State) (l : List SlotId) : (monitorReply s l).length = 3 + 11 * l.length := by
  simp only [monitorReply, List.length_append, length_flatMap_const fun a => slotEntry_length a _]
  rfl

/-! ## What READ MONITOR clears (R54) -/

theorem onSlot_all (k : Loop) (f : UnitSlot → UnitSlot) :
    allSlots.foldl (fun k a => k.onSlot a f) k = { k with slots := k.slots.map f } := rfl

theorem slotAt_address (a : SlotId) : slotAt (a.val + 1) = some a := by
  revert a
  decide

theorem slotsNamed_address (a : SlotId) : slotsNamed (a.val + 1) = some [a] := by
  rw [slotsNamed, if_neg (Nat.succ_ne_zero _), slotAt_address]
  rfl

theorem slotAt_beyond {n : Nat} (h : 9 ≤ n) : slotAt n = none :=
  dif_neg (by omega)

theorem slotsNamed_beyond {n : Nat} (h : 9 ≤ n) : slotsNamed n = none := by
  rw [slotsNamed, if_neg (by omega), slotAt_beyond h]
  rfl

theorem serveReadMonitor_all (s : State) :
    serveReadMonitor 0 s =
      ({ s with loop := { s.loop with slots := s.loop.slots.map UnitSlot.clearFlags } }, monitorReply s allSlots) := rfl

theorem serveReadMonitor_named {s : State} {n : Nat} {l : List SlotId} (h : slotsNamed n = some l) :
    serveReadMonitor n s =
      (s.onLoop fun k => l.foldl (fun k a => k.onSlot a UnitSlot.clearFlags) k, monitorReply s l) := by
  rw [serveReadMonitor, h]

/-- Settles O16: each read leaves the state its service gives, with its layout's length. -/
theorem readsAnswerAndClear : Obligations.ReadsAnswerAndClear := by
  unfold Obligations.ReadsAnswerAndClear
  intro s
  refine ⟨fun d hidle => ?desk, fun l hidle => ?notices, fun hidle => ?plain, fun hidle => ?clearing⟩
  case desk =>
    exact ⟨completes_of rfl hidle rfl rfl, completes_of rfl hidle rfl rfl, stageStatusReply_length s d,
      zoneViewReply_length s d⟩
  case notices =>
    refine ⟨?_, noticesReply_length⟩
    cases l <;> exact completes_of rfl hidle rfl rfl
  case plain =>
    refine ⟨fun z => ⟨completes_of rfl hidle (forZone_val z _ _) rfl, scheduleReply_length s z⟩,
      fun n hn => completes_of rfl hidle (forZone_beyond hn _ _) rfl, fun i n => completes_of rfl hidle ?_ rfl⟩
    show serveReadRecords i n s = _
    rw [serveReadRecords, clampTo_zero]
  case clearing =>
    refine ⟨fun n hn => completes_of rfl hidle (forZone_beyond hn _ _) rfl, ?_,
      fun n hn => completes_of rfl hidle ?_ rfl, fun a => ⟨completes_of rfl hidle
        (serveReadMonitor_named (slotsNamed_address a)) rfl, monitorReply_length s [a]⟩,
      completes_of rfl hidle (serveReadMonitor_all s) rfl, monitorReply_length s allSlots⟩
    · rintro z zn rfl
      exact ⟨completes_of rfl hidle (forZone_val z _ _) rfl, rfl⟩
    · show serveReadMonitor n s = _
      rw [serveReadMonitor, slotsNamed_beyond hn]
      rfl

end Sys2Proof.Machine
end

section
/-! PROOFS. The monitor loop's arbiter (O17) and the ends of its broadcasts (O18): where a scan stands, case by case,
and the transaction each class begins. -/

namespace Sys2Proof.Machine

/-! ## Where a scan stands (R45 to R47) -/

section
variable {k : Loop} {c : Scan}

/-- The scan's position may be worked out: it waits for no identification transaction. -/
def mayPassOn (k : Loop) : Prop := k.identifyFirst = false ∨ k.identification = none

theorem settleScan_waiting (hscan : k.scan = some c) (hfirst : k.identifyFirst = true)
    (hwork : k.identification ≠ none) : k.settleScan = k := by
  simp [Loop.settleScan, hscan, hfirst, Option.isSome_iff_ne_none, hwork]

theorem settleScan_of_mayPassOn (hscan : k.scan = some c) (hpass : mayPassOn k) :
    k.settleScan = match k.scanNext c with
      | some (a, p) => { k with identifyFirst := false, scan := some ⟨a.val, p⟩ }
      | none => { k with identifyFirst := false }.endScan := by
  have hclear : (k.identifyFirst && k.identification.isSome) = false := by
    rcases hpass with h | h <;> simp [h]
  unfold Loop.settleScan
  simp only [hscan, hclear, Bool.false_eq_true, if_false]
  rw [scanNext_congr (j := { k with identifyFirst := false, scan := _ }) c rfl]
  rfl

theorem settleScan_standing (hscan : k.scan = some c) (hpass : mayPassOn k) {a : SlotId} {p : ScanPhase}
    (hnext : k.scanNext c = some (a, p)) : k.settleScan = { k with scan := some ⟨a.val, p⟩, identifyFirst := false } := by
  rw [settleScan_of_mayPassOn hscan hpass, hnext]

theorem settleScan_ended (hscan : k.scan = some c) (hpass : mayPassOn k) (hnext : k.scanNext c = none) :
    k.settleScan = { k with identifyFirst := false }.endScan := by
  rw [settleScan_of_mayPassOn hscan hpass, hnext]

/-- An ended scan is over where no unit holds LATN or no slot is ACTIVE. -/
theorem endScan_over (h : k.latn = false ∨ ∀ a, k.slotState a ≠ .active) : k.endScan = { k with scan := none } := by
  unfold Loop.endScan
  dsimp only
  split
  · next a hlatn ha =>
    rcases h with h | h
    · exact absurd (hlatn.symm.trans h) (by decide)
    · exact absurd (activeFrom_some_iff.mp ha).1.2 (h a)
  · rfl

theorem endScan_followOn (hlatn : k.latn = true) {a : SlotId} (ha : k.activeFrom 0 = some a) :
    k.endScan = ({ k with scan := none } : Loop).followOn a := by
  have hended : ({ k with scan := none } : Loop).latn = true ∧ ({ k with scan := none } : Loop).activeFrom 0 = some a :=
    ⟨hlatn, ha⟩
  unfold Loop.endScan
  generalize ({ k with scan := none } : Loop) = j at hended ⊢
  simp only [hended.1, hended.2]

theorem followOn_of_none (h : k.identification = none) (a : SlotId) : k.followOn a = { k with scan := some ⟨a.val, .status⟩ } := by
  simp [Loop.followOn, h]

theorem followOn_of_work (h : k.identification ≠ none) (a : SlotId) :
    k.followOn a = { k with scan := some ⟨0, .status⟩, identifyFirst := true } := by
  simp [Loop.followOn, Option.isSome_iff_ne_none, h]

theorem scanNext_status_of_first {a : SlotId} (hphase : c.phase = .status) (hfrom : c.slot ≤ a.val)
    (ha : k.slotState a = .active) (hfirst : ∀ b : SlotId, c.slot ≤ b.val → b < a → k.slotState b ≠ .active) :
    k.scanNext c = some (a, .status) := by
  simp [Loop.scanNext, hphase, activeFrom_some_iff.mpr ⟨⟨hfrom, ha⟩, hfirst⟩]

theorem scanNext_fetch_of_here {a : SlotId} {r : Nat} {again : Option Nat} (hphase : c.phase = .fetch r again)
    (hhere : a.val = c.slot) (ha : k.slotState a = .active) (hr : 0 < r) : k.scanNext c = some (a, c.phase) := by
  have hfirst : k.activeFrom c.slot = some a :=
    activeFrom_some_iff.mpr ⟨⟨hhere.ge, ha⟩, fun b hb hlt => absurd (Fin.lt_def.mp hlt) (by omega)⟩
  simp [Loop.scanNext, hphase, hfirst, hhere, hr]

/-- A scan passes a slot with no fetches left, or that is no longer ACTIVE. -/
theorem scanNext_fetch_of_past {r : Nat} {again : Option Nat} (hphase : c.phase = .fetch r again)
    (h : r = 0 ∨ ∀ a : SlotId, a.val = c.slot → k.slotState a ≠ .active) :
    k.scanNext c = k.scanNext ⟨c.slot + 1, .status⟩ := by
  unfold Loop.scanNext
  rw [hphase]
  dsimp only
  split
  · next a ha =>
    refine if_neg ?_
    obtain ⟨⟨-, hactive⟩, -⟩ := activeFrom_some_iff.mp ha
    rcases h with h | h
    · simp [h]
    · have hnot : a.val ≠ c.slot := fun hhere => h a hhere hactive
      simp [hnot]
  · next hnone =>
    have hlater : k.activeFrom (c.slot + 1) = none :=
      activeFrom_none_iff.mpr fun a ha => activeFrom_none_iff.mp hnone a (by omega)
    rw [hlater]
    rfl

theorem scanNext_none (h : ∀ a : SlotId, c.slot ≤ a.val → k.slotState a ≠ .active) : k.scanNext c = none := by
  have hnone : k.activeFrom c.slot = none := activeFrom_none_iff.mpr h
  unfold Loop.scanNext
  split
  · rw [hnone]
    rfl
  · rw [hnone]

/-- A scan whose position has been worked out, and that waits for nothing, stands at its next work. -/
theorem settleScan_stands (hscan : k.settleScan.scan = some c) (hfirst : k.settleScan.identifyFirst = false) :
    ∃ a p, c = ⟨a.val, p⟩ ∧ k.settleScan.scanNext c = some (a, p) := by
  rw [scanNext_congr c (settleScan_keeps k).1]
  cases hbefore : k.scan with
  | none =>
    rw [settleScan_of_no_scan hbefore, hbefore] at hscan
    cases hscan
  | some d =>
    by_cases hwaits : k.identifyFirst = true ∧ k.identification ≠ none
    · rw [settleScan_waiting hbefore hwaits.1 hwaits.2, hwaits.1] at hfirst
      cases hfirst
    · have hpass : mayPassOn k := by
        by_cases hmark : k.identifyFirst = true
        · exact .inr (not_not.mp fun hwork => hwaits ⟨hmark, hwork⟩)
        · exact .inl (by simpa using hmark)
      cases hnext : k.scanNext d with
      | some w =>
        obtain ⟨a, p⟩ := w
        rw [settleScan_standing hbefore hpass hnext] at hscan
        cases hscan
        exact ⟨a, p, rfl, scanNext_self hnext⟩
      | none =>
        rw [settleScan_ended hbefore hpass hnext] at hscan hfirst
        generalize hcleared : ({ k with identifyFirst := false } : Loop) = j at hscan hfirst
        have hjnext : j.scanNext c = k.scanNext c := scanNext_congr c (by rw [← hcleared])
        by_cases hover : j.latn = false ∨ ∀ a, j.slotState a ≠ .active
        · rw [endScan_over hover] at hscan
          cases hscan
        · obtain ⟨hlatn, a, ha⟩ := not_or.mp hover |>.imp_right fun h => Option.ne_none_iff_exists'.mp fun hnone =>
            h (activeFrom_zero_none.mp hnone)
          rw [endScan_followOn (by simpa using hlatn) ha] at hscan hfirst
          by_cases hwork : ({ j with scan := none } : Loop).identification = none
          · rw [followOn_of_none hwork] at hscan
            cases hscan
            refine ⟨a, .status, rfl, hjnext ▸ ?_⟩
            simp [Loop.scanNext, activeFrom_self ha]
          · rw [followOn_of_work hwork] at hfirst
            cases hfirst

end

/-! ## The transaction each class begins (R43, R44, R47) -/

section
variable {j : Loop}

theorem choose_mark {tag : Nat} (h : j.pendingMark = some tag) :
    j.choose = { j with pendingMark := none }.begin (.mark tag) := by
  simp [Loop.choose, h]

theorem choose_reset (hmark : j.pendingMark = none) (hreset : j.pendingReset = true) :
    j.choose = { j with pendingReset := false }.begin .loopReset := by
  simp [Loop.choose, hmark, hreset]

theorem identification_of_seeking {a : SlotId} (ha : j.slotState a = .seeking)
    (hfirst : ∀ b : SlotId, b < a → j.slotState b ≠ .seeking) : j.identification = some (.identify a false) := by
  have hfind : (allSlots.find? fun a => decide (j.slotState a = .seeking)) = some a :=
    find_allSlots_iff.mpr ⟨by simpa using ha, fun b hb => by simpa using hfirst b hb⟩
  simp [Loop.identification, hfind]

theorem identification_of_probe {a : SlotId} (hnone : ∀ b, j.slotState b ≠ .seeking) (ha : j.slotState a = .lost)
    (hdue : (j.slots.get a).reseek = .probeDue)
    (hfirst : ∀ b : SlotId, b < a → j.slotState b = .lost → (j.slots.get b).reseek ≠ .probeDue) :
    j.identification = some (.identify a true) := by
  have hseek : (allSlots.find? fun a => decide (j.slotState a = .seeking)) = none :=
    find_allSlots_none.mpr fun b => by simpa using hnone b
  have hfind : (allSlots.find? fun a =>
      decide (j.slotState a = .lost) && decide ((j.slots.get a).reseek = .probeDue)) = some a :=
    find_allSlots_iff.mpr ⟨by simp [ha, hdue], fun b hb => by simpa using hfirst b hb⟩
  simp [Loop.identification, hseek, hfind]

variable (hmark : j.pendingMark = none) (hreset : j.pendingReset = false)
include hmark hreset

theorem choose_of_no_scan (hscan : j.scan = none) : j.choose = j.serveIdentification := by
  simp [Loop.choose, hmark, hreset, hscan]

/-- Identification work has its turn in a loop with no scan, and before a scan that follows on. -/
theorem choose_identification (hturn : j.scan = none ∨ j.identifyFirst = true) :
    j.choose = ({ j with
      identifyFirst := if j.scan = none then j.identifyFirst else false } : Loop).serveIdentification := by
  by_cases hscan : j.scan = none
  · rw [if_pos hscan]
    exact choose_of_no_scan hmark hreset hscan
  · obtain ⟨c, hc⟩ := Option.ne_none_iff_exists'.mp hscan
    have hfirst : j.identifyFirst = true := hturn.resolve_left hscan
    simp [Loop.choose, hmark, hreset, hc, Loop.serveScan, hfirst]

theorem choose_scan (hfirst : j.identifyFirst = false) {c : Scan} (hscan : j.scan = some c) {a : SlotId} {p : ScanPhase}
    (hnext : j.scanNext c = some (a, p)) : j.choose = j.beginScan a p := by
  simp [Loop.choose, hmark, hreset, hscan, Loop.serveScan, hfirst, hnext]

end

theorem arbitrate_of_free {k : Loop} (h : k.flight = none) : k.arbitrate = k.settleScan.choose := by
  simp [Loop.arbitrate, h]

theorem serveIdentification_of {j : Loop} {t : Transaction} (h : j.identification = some t) :
    j.serveIdentification = j.beginIdentification t := by
  simp [Loop.serveIdentification, h]

/-- The clauses of O17 on a free loop whose scan has its place: which transaction is chosen. -/
theorem choose_identify_clauses {j : Loop} (hmark : j.pendingMark = none) (hreset : j.pendingReset = false)
    (hturn : j.scan = none ∨ j.identifyFirst = true) :
    (∀ a : SlotId, j.slotState a = .seeking → (∀ b : SlotId, b < a → j.slotState b ≠ .seeking) →
      j.choose = { j with
        identifyFirst := if j.scan = none then j.identifyFirst else false
        flight := some ⟨.identify a false, false⟩
        sent := withCheck [byteOf (a.val + 1), 1#8] }) ∧
    ((∀ b : SlotId, j.slotState b ≠ .seeking) →
      ∀ a : SlotId, j.slotState a = .lost → (j.slots.get a).reseek = .probeDue →
        (∀ b : SlotId, b < a → j.slotState b = .lost → (j.slots.get b).reseek ≠ .probeDue) →
        j.choose = { j with
          identifyFirst := if j.scan = none then j.identifyFirst else false
          slots := j.slots.modify a fun u => { u with reseek := .stopped }
          flight := some ⟨.identify a true, false⟩
          sent := withCheck [byteOf (a.val + 1), 1#8] }) := by
  rw [choose_identification hmark hreset hturn]
  generalize (if j.scan = none then j.identifyFirst else false) = first
  refine ⟨fun a ha hfirst => ?_, fun hnone a ha hdue hfirst => ?_⟩
  · exact serveIdentification_of (j := { j with identifyFirst := first }) (identification_of_seeking ha hfirst)
  · exact serveIdentification_of (j := { j with identifyFirst := first })
      (identification_of_probe hnone ha hdue hfirst)

theorem choose_nothing {j : Loop} (hmark : j.pendingMark = none) (hreset : j.pendingReset = false)
    (hscan : j.scan = none) (hseeking : ∀ b : SlotId, j.slotState b ≠ .seeking)
    (hprobes : ∀ a : SlotId, j.slotState a = .lost → (j.slots.get a).reseek ≠ .probeDue) : j.choose = j := by
  have hnone : j.identification = none := identification_none_iff.mpr ⟨hseeking, hprobes⟩
  simp [Loop.choose, hmark, hreset, hscan, Loop.serveIdentification, hnone]

theorem withScan_self {j : Loop} {x : Option Scan} (h : j.scan = x) : { j with scan := x } = j := by
  rw [← h]

theorem choose_scan_clauses {j : Loop} (hmark : j.pendingMark = none) (hreset : j.pendingReset = false)
    (hfirst : j.identifyFirst = false) {a : SlotId}
    (hstands : ∀ p, j.scan = some ⟨a.val, p⟩ → j.scanNext ⟨a.val, p⟩ = some (a, p)) :
    (j.scan = some ⟨a.val, .status⟩ →
      j.choose = { j with
        flight := some ⟨.status a, false⟩
        sent := withCheck [byteOf (a.val + 1), 2#8] }) ∧
    (∀ r : Nat, j.scan = some ⟨a.val, .fetch r none⟩ →
      j.choose = { j with
        slots := j.slots.modify a fun u => { u with nextFetch := (u.nextFetch + 1) % 256 }
        flight := some ⟨.fetch a (j.slots.get a).nextFetch, false⟩
        sent := withCheck [byteOf (a.val + 1), 3#8, byteOf (j.slots.get a).nextFetch] }) ∧
    (∀ r n : Nat, j.scan = some ⟨a.val, .fetch r (some n)⟩ →
      j.choose = { j with
        scan := some ⟨a.val, .fetch r none⟩
        flight := some ⟨.fetch a n, false⟩
        sent := withCheck [byteOf (a.val + 1), 3#8, byteOf n] }) := by
  refine ⟨fun hscan => ?_, fun r hscan => ?_, fun r n hscan => ?_⟩
  · rw [choose_scan hmark hreset hfirst hscan (hstands _ hscan), Loop.beginScan, withScan_self hscan]
    rfl
  · rw [choose_scan hmark hreset hfirst hscan (hstands _ hscan), Loop.beginScan, withScan_self hscan]
    rfl
  · rw [choose_scan hmark hreset hfirst hscan (hstands _ hscan)]
    rfl

/-- The clauses of O17 on where the scan of a free loop stands. -/
theorem settleScan_clauses {k : Loop} {c : Scan} (hscan : k.scan = some c) :
    (k.identifyFirst = true → k.identification ≠ none → k.settleScan = k) ∧
    (mayPassOn k →
      (∀ a : SlotId, c.phase = .status → c.slot ≤ a.val → k.slotState a = .active →
        (∀ b : SlotId, c.slot ≤ b.val → b < a → k.slotState b ≠ .active) →
        k.settleScan = { k with scan := some ⟨a.val, .status⟩, identifyFirst := false }) ∧
      (∀ (r : Nat) (again : Option Nat), c.phase = .fetch r again →
        (∀ a : SlotId, a.val = c.slot → k.slotState a = .active → 0 < r →
          k.settleScan = { k with identifyFirst := false }) ∧
        (r = 0 ∨ (∀ a : SlotId, a.val = c.slot → k.slotState a ≠ .active) →
          k.settleScan = ({ k with scan := some ⟨c.slot + 1, .status⟩ } : Loop).settleScan)) ∧
      ((∀ a : SlotId, c.slot ≤ a.val → k.slotState a ≠ .active) →
        (k.latn = false ∨ (∀ a : SlotId, k.slotState a ≠ .active) →
          k.settleScan = { k with scan := none, identifyFirst := false }) ∧
        (k.latn = true → ∀ a : SlotId, k.slotState a = .active → (∀ b : SlotId, b < a → k.slotState b ≠ .active) →
          k.settleScan =
            if k.identification = none then { k with scan := some ⟨a.val, .status⟩, identifyFirst := false }
            else { k with scan := some ⟨0, .status⟩, identifyFirst := true }))) := by
  refine ⟨settleScan_waiting hscan, fun hpass => ⟨fun a hphase hfrom ha hfirst =>
    settleScan_standing hscan hpass (scanNext_status_of_first hphase hfrom ha hfirst), fun r again hphase =>
    ⟨fun a hhere ha hr => ?here, fun hpast => ?past⟩, fun hnone =>
    ⟨fun hover => ?ended, fun hlatn a ha hfirst => ?followOn⟩⟩⟩
  case here =>
    rw [settleScan_standing hscan hpass (scanNext_fetch_of_here hphase hhere ha hr), hhere]
    exact withScan_self (j := { k with identifyFirst := false }) hscan
  case past =>
    rw [settleScan_of_mayPassOn hscan hpass, scanNext_fetch_of_past hphase hpast]
    exact (settleScan_of_mayPassOn (k := { k with scan := some ⟨c.slot + 1, .status⟩ }) rfl hpass).symm
  case ended =>
    rw [settleScan_ended hscan hpass (scanNext_none hnone)]
    exact endScan_over (k := { k with identifyFirst := false }) hover
  case followOn =>
    rw [settleScan_ended hscan hpass (scanNext_none hnone)]
    have hfound : ({ k with identifyFirst := false } : Loop).activeFrom 0 = some a :=
      activeFrom_some_iff.mpr ⟨⟨Nat.zero_le _, ha⟩, fun b _ hb => hfirst b hb⟩
    refine (endScan_followOn (k := { k with identifyFirst := false }) hlatn hfound).trans ?_
    split
    · next hwork => exact followOn_of_none (k := { k with identifyFirst := false, scan := none }) hwork a
    · next hwork => exact followOn_of_work (k := { k with identifyFirst := false, scan := none }) hwork a

/-- Settles O17: the arbiter settles where the scan stands, and then chooses by class. -/
theorem arbiterFollowsClassOrder : Obligations.ArbiterFollowsClassOrder := by
  unfold Obligations.ArbiterFollowsClassOrder
  intro k
  refine ⟨arbitrate_of_flight, ?_, settleScan_of_no_scan, fun c hscan => settleScan_clauses hscan⟩
  intro hfree j hj
  rw [arbitrate_of_free hfree, ← hj]
  refine ⟨fun tag htag => choose_mark htag, fun hmark hreset => choose_reset hmark hreset, fun hmark hreset =>
    ⟨choose_identify_clauses hmark hreset, choose_nothing hmark hreset, fun hfirst a =>
      choose_scan_clauses hmark hreset hfirst fun p hscan => ?_⟩⟩
  subst hj
  obtain ⟨b, q, heq, hnext⟩ := settleScan_stands hscan hfirst
  obtain ⟨hval, rfl⟩ := Scan.mk.inj heq
  rw [hnext, Fin.ext hval]

/-! ## LATN and the ends of the broadcasts (R44, R45, R50) -/

theorem lookAtLatn_eq (k : Loop) :
    k.lookAtLatn =
      if k.latn = true ∧ k.scan = none ∧ k.pendingReset = false ∧
          k.flight.map Flight.transaction ≠ some .loopReset then
        { k with scan := some ⟨0, .status⟩ }
      else k := by
  unfold Loop.lookAtLatn
  simp only [Bool.and_eq_true, Option.isNone_iff_eq_none, Bool.not_eq_true', decide_eq_true_eq, and_assoc]

theorem exec_latnAsserted (level : Bool) (s : State) :
    exec (.latnAsserted level) s = .next { s with
      loop := (if level then ({ s.loop with latn := level } : Loop).lookAtLatn
        else { s.loop with latn := level }).arbitrate } := by
  cases level <;> rfl

theorem exec_markSent_of_mark {s : State} {f : Flight} {tag : Nat} (hf : s.loop.flight = some f)
    (h : f.transaction = .mark tag) :
    exec .markSent s = .next { s with loop := { s.loop with flight := none }.arbitrate } := by
  show execMarkSent s = _
  simp only [execMarkSent, hf, Option.map_some, h]
  rfl

theorem exec_markSent_of_other {s : State} (h : ∀ tag, s.loop.flight.map Flight.transaction ≠ some (.mark tag)) :
    exec .markSent s = .next s := by
  show execMarkSent s = _
  unfold execMarkSent
  split
  · next tag htag => exact absurd htag (h tag)
  · rfl

theorem exec_loopResetDone_of_reset {s : State} (h : s.loop.flight.map Flight.transaction = some .loopReset) :
    exec .loopResetDone s = .next { s with
      loop := ({ s.loop with flight := none } : Loop).lookAtLatn.arbitrate } := by
  show execLoopResetDone s = _
  simp only [execLoopResetDone, h]
  rfl

theorem exec_loopResetDone_of_other {s : State} (h : s.loop.flight.map Flight.transaction ≠ some .loopReset) :
    exec .loopResetDone s = .next s := by
  show execLoopResetDone s = _
  unfold execLoopResetDone
  split
  · next hreset => exact absurd hreset h
  · rfl

/-- Settles O18: the transaction in flight decides what the end of a broadcast does. -/
theorem latnAndBroadcastEnds : Obligations.LatnAndBroadcastEnds := by
  unfold Obligations.LatnAndBroadcastEnds
  intro s
  refine ⟨?latn, fun f hf => ⟨fun tag htag => exec_markSent_of_mark hf htag, fun hreset => ⟨?notMark, ?reset⟩,
    fun haddressed => ⟨?addressedMark, ?addressedReset⟩⟩, fun hfree => ⟨?freeMark, ?freeReset⟩⟩
  case latn =>
    rintro level k rfl
    rw [exec_latnAsserted]
    cases level
    · simp
    · simp [lookAtLatn_eq]
  case notMark => exact exec_markSent_of_other fun tag => by simp [hf, hreset]
  case reset =>
    rintro k rfl
    rw [exec_loopResetDone_of_reset (by simp [hf, hreset]), lookAtLatn_eq]
    simp
  case addressedMark =>
    exact exec_markSent_of_other fun tag => by
      rintro hmark
      simp only [hf, Option.map_some, Option.some.injEq] at hmark
      exact haddressed (by rw [hmark]; rfl)
  case addressedReset =>
    refine exec_loopResetDone_of_other fun hreset => haddressed ?_
    simp only [hf, Option.map_some, Option.some.injEq] at hreset
    rw [hreset]
    rfl
  case freeMark => exact exec_markSent_of_other fun tag => by simp [hfree]
  case freeReset => exact exec_loopResetDone_of_other (by simp [hfree])

end Sys2Proof.Machine
end

section
/-! PROOFS. Replies on the monitor loop: IDENTIFY (O19), STATUS and FETCH (O20), failed attempts (O21), and the
assignments of slots (O23). -/

namespace Sys2Proof.Machine

/-! ## The end of an addressed transaction (R36) -/

section
variable {s : State} {t : Transaction}

theorem loopMove_arbitrate_raise (f : Loop → Loop × Bool) (s : State) :
    (s.loopMove f).arbitrate =
      ({ s with loop := (f s.loop).1.arbitrate } : State).raiseOfficerIf (f s.loop).2 .unitChange := by
  simp only [State.loopMove, State.raiseOfficerIf]
  split <;> rfl

theorem completeReply_accepted (hf : s.loop.flight = some ⟨t, false⟩) {r : Reply} (haccepts : t.accepts r = true) :
    s.completeReply (some r) = ((s.onLoop Loop.free).acceptReply t r).arbitrate := by
  simp [State.completeReply, hf, haccepts]

theorem completeReply_refused (hf : s.loop.flight = some ⟨t, false⟩) {r : Reply} (haccepts : t.accepts r = false) :
    s.completeReply (some r) = s.failAttempt := by
  simp [State.completeReply, hf, haccepts]

theorem completeReply_none (s : State) : s.completeReply none = s.failAttempt := by
  unfold State.completeReply
  split
  · next h => cases h
  · rfl

theorem failAttempt_of_free (h : s.loop.flight = none) : s.failAttempt = s := by
  simp [State.failAttempt, h]

theorem failAttempt_of_broadcast {off : Bool} (hf : s.loop.flight = some ⟨t, off⟩) (h : t.slot = none) :
    s.failAttempt = s := by
  simp [State.failAttempt, hf, h]

/-- An outcome that is disregarded frees the loop. -/
theorem failAttempt_of_disregarded (hf : s.loop.flight = some ⟨t, true⟩) (h : t.slot ≠ none) :
    s.failAttempt = { s with loop := { s.loop with flight := none }.arbitrate } := by
  simp only [State.failAttempt, hf, Option.isNone_iff_eq_none, h, if_false, if_true]
  rfl

theorem failAttempt_of_counted (hf : s.loop.flight = some ⟨t, false⟩) (h : t.slot ≠ none) :
    s.failAttempt =
      ({ s with loop := (({ s.loop with flight := none } : Loop).attemptFails s.now t).1.arbitrate } :
        State).raiseOfficerIf (({ s.loop with flight := none } : Loop).attemptFails s.now t).2 .unitChange := by
  have hmove : s.failAttempt = ((s.onLoop Loop.free).loopMove (Loop.attemptFails s.now t)).arbitrate := by
    simp [State.failAttempt, hf, Option.isNone_iff_eq_none, h]
  rw [hmove, loopMove_arbitrate_raise]
  rfl

end

/-! ## IDENTIFY (R40, R41) -/

theorem exec_identifyReply {s : State} {a : SlotId} {probe : Bool} (hf : s.loop.flight = some ⟨.identify a probe, false⟩)
    (code serial : Nat) : exec (.identifyReply code serial) s =
      .next (((s.onLoop Loop.free).acceptReply (.identify a probe) (.identify code serial)).arbitrate) :=
  congrArg Host.Outcome.next (completeReply_accepted hf rfl)

/-- Settles O19: the kind code decides for the slot, by its state. -/
theorem identifyReplyMovesSlot : Obligations.IdentifyReplyMovesSlot := by
  unfold Obligations.IdentifyReplyMovesSlot
  rintro s a code serial u rfl
  have hseeking : (s.onLoop Loop.free).acceptReply (.identify a false) (.identify code serial) =
      (s.onLoop Loop.free).loopMove (Loop.identified s.now a code serial) := rfl
  have hprobe : (s.onLoop Loop.free).acceptReply (.identify a true) (.identify code serial) =
      (s.onLoop Loop.free).loopMove (Loop.probed s.now a code serial) := rfl
  refine ⟨fun hf => ⟨?right, ?wrong⟩, fun hf => ⟨?probeRight, ?probeWrong⟩⟩
  case right =>
    rintro hcode k rfl
    rw [exec_identifyReply hf, hseeking, loopMove_arbitrate_raise]
    simp only [Loop.identified, hcode, Config.monitorKind, if_true]
    rfl
  case wrong =>
    rintro hcode k rfl
    rw [exec_identifyReply hf, hseeking, loopMove_arbitrate_raise]
    simp only [Loop.identified, hcode, Config.monitorKind, if_false]
    rfl
  case probeRight =>
    rintro hcode k rfl
    rw [exec_identifyReply hf, hprobe, loopMove_arbitrate_raise]
    simp only [Loop.probed, hcode, Config.monitorKind, if_true]
    rfl
  case probeWrong =>
    rintro hcode k rfl
    rw [exec_identifyReply hf, hprobe, loopMove_arbitrate_raise]
    simp only [Loop.probed, hcode, Config.monitorKind, if_false, Bool.decide_or]
    rfl

/-! ## Failed attempts (R36, R41, R46) -/

theorem replyOfFrame_none {frame : List Byte} (h : byteSum frame ≠ 0#8) : replyOfFrame frame = none := by
  unfold replyOfFrame
  split
  · rfl
  · exact if_neg (by simp [h])

theorem lastFailure_eq (u : UnitSlot) : u.lastFailure = decide (3 ≤ u.failed + 1) := rfl

theorem passOn_scan (a : SlotId) (k : Loop) : k.passOn a = { k with scan := k.scan.map fun _ => ⟨a.val + 1, .status⟩ } := by
  unfold Loop.passOn
  split
  · next c h => simp [h]
  · next h =>
    rw [h]
    exact (withScan_self h).symm

theorem fail_of_few {u : UnitSlot} (h : u.failed + 1 < 3) (now : Nat) : u.fail now = { u with failed := u.failed + 1 } := by
  simp [UnitSlot.fail, Nat.not_le.mpr h]

theorem fail_of_third {u : UnitSlot} (h : 3 ≤ u.failed + 1) (now : Nat) :
    u.fail now = { u with
      state := .lost, cause := some .noAnswer, failed := 3, reseek := .running (now + 10000000) } := by
  unfold UnitSlot.fail
  dsimp only
  rw [if_pos h]
  rfl

/-- Where an addressed attempt, not a probe, fails: what it makes of the slot, and of a scan. -/
theorem attemptFails_few {k : Loop} {a : SlotId} {n now : Nat} {t : Transaction}
    (ht : t = .identify a false ∨ t = .status a ∨ t = .fetch a n) (h : (k.slots.get a).failed + 1 < 3) :
    k.attemptFails now t = ({ k with
      slots := k.slots.set a { k.slots.get a with failed := (k.slots.get a).failed + 1 }
      scan := if t = .fetch a n then
          k.scan.map fun c => match c.phase with
            | .status => c
            | .fetch remaining _ => ⟨c.slot, .fetch remaining (some n)⟩
        else k.scan }, false) := by
  have hlast : (k.slots.get a).lastFailure = false := decide_eq_false (Nat.not_le.mpr h)
  have hslot : k.onSlot a (UnitSlot.fail now) =
      { k with slots := k.slots.set a { k.slots.get a with failed := (k.slots.get a).failed + 1 } } := by
    rw [← fail_of_few h now]
    rfl
  rcases ht with rfl | rfl | rfl
  · simp [Loop.attemptFails, hlast, hslot]
  · simp [Loop.attemptFails, hlast, hslot]
  · simp [Loop.attemptFails, hlast, hslot] <;> rfl

theorem attemptFails_third {k : Loop} {a : SlotId} {n now : Nat} {t : Transaction}
    (ht : t = .identify a false ∨ t = .status a ∨ t = .fetch a n) (h : 3 ≤ (k.slots.get a).failed + 1) :
    k.attemptFails now t = ({ k with
      slots := k.slots.set a { k.slots.get a with
        state := .lost, cause := some .noAnswer, failed := 3, reseek := .running (now + 10000000) }
      scan := if t = .identify a false then k.scan else k.scan.map fun _ => ⟨a.val + 1, .status⟩ }, true) := by
  have hlast : (k.slots.get a).lastFailure = true := decide_eq_true h
  have hslot : k.onSlot a (UnitSlot.fail now) =
      { k with slots := k.slots.set a { k.slots.get a with
          state := .lost, cause := some .noAnswer, failed := 3, reseek := .running (now + 10000000) } } := by
    rw [← fail_of_third h now]
    rfl
  rcases ht with rfl | rfl | rfl
  · simp [Loop.attemptFails, hlast, hslot]
  · simp [Loop.attemptFails, hlast, hslot, passOn_scan]
  · simp [Loop.attemptFails, hlast, hslot, passOn_scan]

/-- Settles O21: a failed attempt counts for its slot, unless it is a probe's or is disregarded. -/
theorem failedAttemptsCount : Obligations.FailedAttemptsCount := by
  unfold Obligations.FailedAttemptsCount
  intro s c hc
  have hexec : exec c s = .next s.failAttempt := by
    rcases hc with rfl | rfl <;> rfl
  rw [hexec]
  refine ⟨fun frame hframe => ?frame, fun hfree => ?free, fun tr off hf => ⟨fun hslot => ?broadcast,
    fun hslot hoff => ?off, fun hoff a u hu => ⟨fun hprobe k hk => ?probe, fun n htr => ⟨fun hfew k hk => ?few,
    fun hthird k hk => ?third⟩⟩⟩⟩
  case frame =>
    have hnone : replyOfFrame frame = none := hframe.elim replyOfFrame_none id
    show Host.Outcome.next (s.completeReply (replyOfFrame frame)) = _
    rw [hnone, completeReply_none]
  case free => rw [failAttempt_of_free hfree]
  case broadcast => rw [failAttempt_of_broadcast hf hslot]
  case off =>
    subst hoff
    rw [failAttempt_of_disregarded hf hslot]
  case probe =>
    subst hoff hprobe hu hk
    rw [failAttempt_of_counted hf (by simp [Transaction.slot])]
    rfl
  case few =>
    subst hoff hu hk
    have haddressed : tr.slot ≠ none := by rcases htr with rfl | rfl | rfl <;> simp [Transaction.slot]
    rw [failAttempt_of_counted hf haddressed, attemptFails_few (k := { s.loop with flight := none }) htr hfew]
    rfl
  case third =>
    subst hoff hu hk
    have haddressed : tr.slot ≠ none := by rcases htr with rfl | rfl | rfl <;> simp [Transaction.slot]
    rw [failAttempt_of_counted hf haddressed, attemptFails_third (k := { s.loop with flight := none }) htr hthird]
    rfl

/-! ## STATUS and FETCH (R46, R48, R64) -/

theorem limitsInForce_congr {s t : State} (htables : t.tables = s.tables) (hstages : t.stages = s.stages)
    (hcurfew : t.curfew = s.curfew) (z : ZoneId) : limitsInForce t z = limitsInForce s z := by
  unfold limitsInForce encoreRuns coupled
  rw [htables, hstages, hcurfew]

/-- How far a record's second lies behind the awaiting one, or behind the last one ended (R64). -/
def Zone.behind (running : Nat) (r : MeasurementRecord) (zn : Zone) : Nat :=
  match zn.awaiting with
  | some aw => tagDistance aw.tag r.tag
  | none => tagDistance (tagPlus running 65535) r.tag

/-- A record of a second that has closed or passed. -/
def Zone.findsLate (running : Nat) (r : MeasurementRecord) (zn : Zone) : Bool :=
  zn.enabled && (decide (1 ≤ zn.behind running r ∧ zn.behind running r ≤ 32767) ||
    decide (zn.behind running r = 0 ∧ ∀ aw ∈ zn.awaiting, aw.isOpen = false))

/-- A record of a second to come. -/
def Zone.findsMisdated (running : Nat) (r : MeasurementRecord) (zn : Zone) : Bool :=
  zn.enabled && decide (32768 ≤ zn.behind running r)

section
variable {running : Nat} {r : MeasurementRecord} {zn : Zone}

theorem judge_unwanted (h : zn.enabled = false) : zn.judge running r = .unwanted := by
  simp [Zone.judge, h]

theorem judge_of_none (henabled : zn.enabled = true) (hnone : zn.awaiting = none) :
    zn.judge running r = if zn.behind running r ≤ 32767 then .late else .misdated := by
  simp [Zone.judge, Zone.behind, henabled, hnone]

theorem judge_of_awaiting (henabled : zn.enabled = true) {aw : Awaiting} (haw : zn.awaiting = some aw) :
    zn.judge running r =
      if zn.behind running r = 0 then (if aw.isOpen then .taken aw else .late)
      else if zn.behind running r ≤ 32767 then .late
      else .misdated := by
  simp [Zone.judge, Zone.behind, henabled, haw]

theorem findsLate_iff : zn.findsLate running r = true ↔ zn.enabled = true ∧
    ((1 ≤ zn.behind running r ∧ zn.behind running r ≤ 32767) ∨
      zn.behind running r = 0 ∧ ∀ aw ∈ zn.awaiting, aw.isOpen = false) := by
  rw [Zone.findsLate, Bool.and_eq_true, Bool.or_eq_true, decide_eq_true_iff, decide_eq_true_iff]

theorem findsMisdated_iff : zn.findsMisdated running r = true ↔ zn.enabled = true ∧ 32768 ≤ zn.behind running r := by
  rw [Zone.findsMisdated, Bool.and_eq_true, decide_eq_true_iff]

theorem judge_late (h : zn.findsLate running r = true) : zn.judge running r = .late := by
  obtain ⟨henabled, hlate⟩ := findsLate_iff.mp h
  cases haw : zn.awaiting with
  | none =>
    rw [judge_of_none henabled haw, if_pos (by omega)]
  | some aw =>
    rw [judge_of_awaiting henabled haw]
    rcases hlate with ⟨hpast, hnear⟩ | ⟨hzero, hclosed⟩
    · rw [if_neg (by omega), if_pos hnear]
    · rw [if_pos hzero, hclosed aw haw]
      rfl

theorem judge_misdated (h : zn.findsMisdated running r = true) : zn.judge running r = .misdated := by
  obtain ⟨henabled, hfar⟩ := findsMisdated_iff.mp h
  cases haw : zn.awaiting with
  | none => rw [judge_of_none henabled haw, if_neg (by omega)]
  | some aw => rw [judge_of_awaiting henabled haw, if_neg (by omega), if_neg (by omega)]

/-- A record neither late nor misdated is the open awaiting second's. -/
theorem judge_timely (henabled : zn.enabled = true) (hlate : zn.findsLate running r = false)
    (hmisdated : zn.findsMisdated running r = false) :
    ∃ aw, zn.awaiting = some aw ∧ zn.judge running r = .taken aw := by
  have hnotLate : ¬((1 ≤ zn.behind running r ∧ zn.behind running r ≤ 32767) ∨
      zn.behind running r = 0 ∧ ∀ aw ∈ zn.awaiting, aw.isOpen = false) :=
    fun h => Bool.false_ne_true (hlate.symm.trans (findsLate_iff.mpr ⟨henabled, h⟩))
  have hnotFar : ¬32768 ≤ zn.behind running r :=
    fun h => Bool.false_ne_true (hmisdated.symm.trans (findsMisdated_iff.mpr ⟨henabled, h⟩))
  have hzero : zn.behind running r = 0 := by omega
  cases haw : zn.awaiting with
  | none => exact absurd (.inr ⟨hzero, by simp [haw]⟩) hnotLate
  | some aw =>
    have hopen : aw.isOpen = true := by
      by_contra hclosed
      exact hnotLate (.inr ⟨hzero, by simpa [haw] using hclosed⟩)
    exact ⟨aw, rfl, by rw [judge_of_awaiting henabled haw, if_pos hzero, if_pos hopen]⟩

/-- The verdict's flag on the slot (R48). -/
theorem flag_judge (u : UnitSlot) :
    u.flag (zn.judge running r) =
      { u with late := u.late || zn.findsLate running r, misdated := u.misdated || zn.findsMisdated running r } := by
  by_cases henabled : zn.enabled = true
  · cases hlate : zn.findsLate running r with
    | true =>
      have hnear : zn.findsMisdated running r = false := by
        rw [Bool.eq_false_iff, ne_eq, findsMisdated_iff]
        rintro ⟨-, hfar⟩
        obtain ⟨-, h⟩ := findsLate_iff.mp hlate
        omega
      simp [judge_late hlate, UnitSlot.flag, hnear]
    | false =>
      cases hmisdated : zn.findsMisdated running r with
      | true => simp [judge_misdated hmisdated, UnitSlot.flag]
      | false =>
        obtain ⟨aw, -, htaken⟩ := judge_timely henabled hlate hmisdated
        simp [htaken, UnitSlot.flag]
  · have hdisabled : zn.enabled = false := by simpa using henabled
    simp [judge_unwanted hdisabled, UnitSlot.flag, Zone.findsLate, Zone.findsMisdated, hdisabled]

end

/-! ### A record handed over -/

section
variable {s : State} {a : SlotId} {z : ZoneId} {r : MeasurementRecord}

theorem handRecord_loop (hz : (s.loop.slots.get a).zone = some z) :
    (s.handRecord a r).loop = s.loop.onSlot a (UnitSlot.flag ((s.zones.get z).judge s.timeBase.tag r)) := by
  simp only [State.handRecord, hz]
  split <;> simp

theorem handRecord_of_not_taken (hz : (s.loop.slots.get a).zone = some z)
    (h : ∀ aw, (s.zones.get z).judge s.timeBase.tag r ≠ .taken aw) :
    s.handRecord a r = s.onLoop (Loop.onSlot a (UnitSlot.flag ((s.zones.get z).judge s.timeBase.tag r))) := by
  simp only [State.handRecord, hz]

theorem handRecord_of_taken (hz : (s.loop.slots.get a).zone = some z) {aw : Awaiting}
    (h : (s.zones.get z).judge s.timeBase.tag r = .taken aw) :
    (s.handRecord a r).zones = s.zones.set z ((s.zones.get z).close s.now (limitsInForce s z) aw (some r)) ∧
    (s.handRecord a r).timeBase = s.timeBase ∧ (s.handRecord a r).tables = s.tables ∧
    (s.handRecord a r).curfew = s.curfew ∧ (s.handRecord a r).pool = s.pool ∧
    (s.handRecord a r).paths = s.paths ∧ (s.handRecord a r).mode = s.mode ∧ (s.handRecord a r).now = s.now := by
  simp only [State.handRecord, hz, h]
  refine ⟨?_, by simp, by simp, by simp, by simp, by simp, by simp, by simp⟩
  rw [closeZone_zones, limitsInForce_congr (s := s) (by simp) (by simp) (by simp)]
  simp

end

theorem fetchTaken_record {k : Loop} {c : Scan} {remaining : Nat} {again : Option Nat} (hscan : k.scan = some c)
    (hphase : c.phase = .fetch remaining again) (a : SlotId) :
    k.fetchTaken a true = { k with
      slots := k.slots.modify a fun u => { u with failed := 0 }
      scan := some (if remaining ≤ 1 then ⟨a.val + 1, .status⟩ else ⟨c.slot, .fetch (remaining - 1) none⟩) } := by
  simp only [Loop.fetchTaken, onSlot_keeps, hscan, hphase, passOn_scan]
  split <;> rfl

theorem fetchTaken_slots (k : Loop) (a : SlotId) (isRecord : Bool) :
    (k.fetchTaken a isRecord).slots = k.slots.modify a fun u => { u with failed := 0 } := by
  simp only [Loop.fetchTaken, passOn_scan]
  (repeat' split) <;> rfl

theorem fetchTaken_empty {k : Loop} {c : Scan} (hscan : k.scan = some c) (a : SlotId) :
    k.fetchTaken a false = { k with
      slots := k.slots.modify a fun u => { u with failed := 0 }
      scan := some ⟨a.val + 1, .status⟩ } := by
  simp only [Loop.fetchTaken, onSlot_keeps, hscan, passOn_scan]
  rfl

theorem statusTaken_eq (k : Loop) (a : SlotId) (count : Nat) (health : Byte) :
    k.statusTaken a count health = ({ k with
      slots := k.slots.modify a fun u => { u with failed := 0, health := some (HealthFlags.ofMask health) }
      scan := k.scan.map fun c => if count = 0 then ⟨a.val + 1, .status⟩ else ⟨c.slot, .fetch count none⟩ },
      decide ((k.slots.get a).health ≠ some (HealthFlags.ofMask health))) := by
  unfold Loop.statusTaken
  by_cases hcount : count = 0
  · simp [hcount, passOn_scan]
  · simp [hcount]

/-- The handing over of an accepted record, with the fetch counted first. -/
theorem exec_fetchReply {s : State} {a : SlotId} {n : Nat} (hf : s.loop.flight = some ⟨.fetch a n, false⟩)
    {r : MeasurementRecord} (hbroad : r.broadRaw ≤ 1500) (hlow : r.lowRaw ≤ 1500) :
    exec (.fetchReply (some r)) s =
      .next (((s.onLoop Loop.free).onLoop (Loop.fetchTaken a true)).handRecord a r).arbitrate :=
  congrArg Host.Outcome.next (completeReply_accepted hf (by simp [Transaction.accepts, hbroad, hlow]))

/-- Settles O20: the scan takes its reply, and a record's verdict is the zone account's. -/
theorem scanRepliesFeedZones : Obligations.ScanRepliesFeedZones := by
  unfold Obligations.ScanRepliesFeedZones
  rintro s a u rfl
  refine ⟨fun hf count health => ⟨fun hcount => ?beyond, fun hcount h hh k hk => ?status⟩,
    fun n hf c hscan => ⟨fun k hk => ?empty, fun r => ⟨fun hbeyond => ?raw, fun hbroad hlow z hz => ?record⟩⟩⟩
  case beyond =>
    exact congrArg Host.Outcome.next (completeReply_refused hf (decide_eq_false (Nat.not_le.mpr hcount)))
  case status =>
    subst hh hk
    have htaken : (s.onLoop Loop.free).acceptReply (.status a) (.status count health) =
        (s.onLoop Loop.free).loopMove (Loop.statusTaken a count health) := rfl
    have haccepts : (Transaction.status a).accepts (.status count health) = true := decide_eq_true hcount
    refine (congrArg Host.Outcome.next (completeReply_accepted hf haccepts)).trans ?_
    rw [htaken, loopMove_arbitrate_raise, statusTaken_eq]
    rfl
  case empty =>
    subst hk
    have htaken : (s.onLoop Loop.free).acceptReply (.fetch a n) (.fetched none) =
        (s.onLoop Loop.free).onLoop (Loop.fetchTaken a false) := rfl
    refine (congrArg Host.Outcome.next (completeReply_accepted hf rfl)).trans ?_
    rw [htaken, State.arbitrate, State.onLoop, State.onLoop, State.onLoop,
      fetchTaken_empty (k := s.loop.free) hscan]
    rfl
  case raw =>
    refine congrArg Host.Outcome.next (completeReply_refused hf ?_)
    simp only [Transaction.accepts, Bool.and_eq_false_iff, decide_eq_false_iff_not]
    omega
  case record =>
    rintro zn rfl behind hbehind late misdated hlate hmisdated
    obtain rfl : behind = (s.zones.get z).behind s.timeBase.tag r := hbehind
    obtain rfl : late = (s.zones.get z).findsLate s.timeBase.tag r := hlate
    obtain rfl : misdated = (s.zones.get z).findsMisdated s.timeBase.tag r := hmisdated
    refine ⟨_, exec_fetchReply hf hbroad hlow, ?_⟩
    have hvz : ((s.loop.free.fetchTaken a true).slots.get a).zone = some z := by
      rw [fetchTaken_zone]
      exact hz
    have hloop := handRecord_loop (s := (s.onLoop Loop.free).onLoop (Loop.fetchTaken a true)) (r := r) hvz
    refine ⟨fun remaining again hphase => ?phase, fun hnot => ?not, fun henabled hlate hmisdated aw haw => ?taken⟩
    case phase =>
      rw [arbitrate_loop, hloop]
      refine congrArg Loop.arbitrate ?_
      have hflag : UnitSlot.flag ((s.zones.get z).judge s.timeBase.tag r) = _ := funext fun u => flag_judge u
      have htaken : s.loop.free.fetchTaken a true = _ := fetchTaken_record (k := s.loop.free) hscan hphase a
      show (s.loop.free.fetchTaken a true).onSlot a (UnitSlot.flag ((s.zones.get z).judge s.timeBase.tag r)) = _
      rw [hflag, htaken, Loop.onSlot]
      dsimp only
      rw [Bank8.modify_modify, Bank8.modify_eq_set]
      rfl
    case not =>
      have hverdict : ∀ aw, (s.zones.get z).judge s.timeBase.tag r ≠ .taken aw := by
        intro aw
        rcases hnot with h | h | h
        · simp [judge_unwanted h]
        · simp [judge_late h]
        · simp [judge_misdated h]
      rw [handRecord_of_not_taken (s := (s.onLoop Loop.free).onLoop (Loop.fetchTaken a true)) hvz hverdict]
      rfl
    case taken =>
      obtain ⟨aw', haw', htaken⟩ := judge_timely henabled hlate hmisdated
      obtain rfl : aw' = aw := Option.some.inj (haw'.symm.trans haw)
      exact handRecord_of_taken (s := (s.onLoop Loop.free).onLoop (Loop.fetchTaken a true)) hvz htaken

/-! ## ASSIGN MONITOR and UNASSIGN MONITOR (R38, R39) -/

section
variable {s : State} {a : SlotId} {z : ZoneId}

theorem assignRefusal_duplicate (h : (∃ b : SlotId, (s.loop.slots.get b).zone = some z) ∨ s.loop.slotState a ≠ .vacant) :
    assignRefusal s a z = some .duplicate := by
  refine if_pos ?_
  rcases h with h | h
  · simp [serves_iff.mpr h]
  · simp [h]

theorem assignRefusal_free (hfresh : ∀ b : SlotId, (s.loop.slots.get b).zone ≠ some z)
    (hvacant : s.loop.slotState a = .vacant) :
    assignRefusal s a z = if s.mode.isShow then some .showLock else none := by
  have hserves : s.loop.serves z = false := by
    rw [Bool.eq_false_iff, ne_eq, serves_iff]
    rintro ⟨b, hb⟩
    exact hfresh b hb
  exact if_neg (by simp [hserves, hvacant])

theorem slotAt_outside {n : Nat} (h : n = 0 ∨ 9 ≤ n) : slotAt n = none := dif_neg (by omega)

theorem serveAssignMonitor_refused {code : ReplyCode} (h : assignRefusal s a z = some code) :
    serveAssignMonitor (a.val + 1) z.val s = (s, slotReply code s a) := by
  simp only [serveAssignMonitor, slotAt_address, forZone_val, h]

theorem serveAssignMonitor_taken (h : assignRefusal s a z = none) :
    serveAssignMonitor (a.val + 1) z.val s = (s.takeAssignment a z, slotReply .ok (s.takeAssignment a z) a) := by
  simp only [serveAssignMonitor, slotAt_address, forZone_val, h]

/-- The loop of UNASSIGN MONITOR, with whether an addressed transaction holds it (R39). -/
theorem unassign_by_flight (a : SlotId) (k : Loop) {j : Loop}
    (hj : j = { k with
      slots := k.slots.set a UnitSlot.reset
      flight := k.flight.map fun f =>
        if f.transaction.slot = some a then { f with disregarded := true } else f }) :
    k.unassign a = match k.flight with
      | none => j.settleScan
      | some f => if f.transaction.slot = none then j.settleScan else j := by
  have haddressing : j.addressing = match k.flight with
      | none => false
      | some f => f.transaction.slot.isSome := by
    subst hj
    cases hflight : k.flight with
    | none => simp [Loop.addressing]
    | some f =>
      simp only [Loop.addressing, Option.map_some]
      split <;> rfl
  have hunassign : k.unassign a = if j.addressing then j else j.settleScan := by
    subst hj
    rfl
  rw [hunassign, haddressing]
  cases hflight : k.flight with
  | none => simp
  | some f => cases hslot : f.transaction.slot <;> simp [hslot]

end

/-- Settles O23: each refusal in its order, or the slot assigned or unassigned. -/
theorem slotAssignments : Obligations.SlotAssignments := by
  unfold Obligations.SlotAssignments
  intro s hidle
  refine ⟨fun n m hout => completes_of rfl hidle ?noAssign rfl, fun n hout => completes_of rfl hidle ?noUnassign rfl,
    fun a => ⟨fun z => ⟨fun htaken => completes_of rfl hidle ?duplicate rfl, fun hfresh hvacant =>
      ⟨fun hshow => completes_of rfl hidle ?lock rfl, fun hsetup => ?assign⟩⟩,
    fun hvacant => completes_of rfl hidle ?vacant rfl, fun hserving =>
      ⟨fun hshow => completes_of rfl hidle ?unlock rfl, fun hsetup => ?unassign⟩⟩⟩
  case noAssign =>
    show serveAssignMonitor n m s = _
    cases hslot : slotAt n with
    | none =>
      simp only [serveAssignMonitor, hslot]
      rfl
    | some a =>
      have hzone : 8 ≤ m := by
        rcases hout with h | h | h
        · exact absurd hslot (by simp [slotAt_outside (.inl h)])
        · exact absurd hslot (by simp [slotAt_outside (.inr h)])
        · exact h
      simp only [serveAssignMonitor, hslot, forZone_beyond hzone]
  case noUnassign =>
    show serveUnassignMonitor n s = _
    simp only [serveUnassignMonitor, slotAt_outside hout]
    rfl
  case duplicate => exact serveAssignMonitor_refused (assignRefusal_duplicate htaken)
  case lock => exact serveAssignMonitor_refused ((assignRefusal_free hfresh hvacant).trans (by rw [hshow]; rfl))
  case assign =>
    rintro k rfl u rfl
    exact completes_of rfl hidle (serveAssignMonitor_taken ((assignRefusal_free hfresh hvacant).trans (by rw [hsetup]; rfl)))
      rfl
  case vacant =>
    show serveUnassignMonitor (a.val + 1) s = _
    simp only [serveUnassignMonitor, slotAt_address, hvacant, if_true]
  case unlock =>
    show serveUnassignMonitor (a.val + 1) s = _
    simp only [serveUnassignMonitor, slotAt_address, hserving, if_false, hshow, Mode.isShow, if_true]
  case unassign =>
    rintro k hk m hm u rfl
    have hserve : serveUnassignMonitor (a.val + 1) s =
        (s.takeUnassignment a, slotReply .ok (s.takeUnassignment a) a) := by
      simp only [serveUnassignMonitor, slotAt_address, hserving, if_false, hsetup, Mode.isShow, Bool.false_eq_true]
    have hloop : s.loop.unassign a = m := (unassign_by_flight a s.loop hk).trans hm.symm
    have hstate : s.takeUnassignment a = ({ s with loop := m } : State).raiseOfficer .unitChange := by
      rw [← hloop]
      rfl
    rw [← hstate]
    exact completes_of rfl hidle hserve rfl

end Sys2Proof.Machine
end

section
/-! PROOFS. Chapter 4 of the spec: SET ZONE, ENABLE ZONE and DISABLE ZONE (O24 to O26), and the conditions after a
close (O30). What the curfew unit does to a stage reaches the officer link as ENCORE alone (`EncoreOnly`). -/

namespace Sys2Proof.Machine

/-! ## SET ZONE (R56, R57) -/

/-- Settles O24: `lockedInShow` decides between the refusal and `ZoneConfig.write`. -/
theorem setZoneRequest : Obligations.SetZoneRequest := by
  unfold Obligations.SetZoneRequest
  intro s f hidle
  refine ⟨fun n hn => completes_of rfl hidle (forZone_beyond hn _ _) rfl, ?_⟩
  rintro z zn rfl gives hgives
  have hgives : gives = lockedInShow f := hgives
  refine ⟨fun hshow hlocked => completes_of rfl hidle ?refused rfl, ?_⟩
  case refused =>
    show serveSetZone z.val f s = _
    rw [serveSetZone, forZone_val, if_pos (by rw [hshow, ← hgives, hlocked]; rfl)]
  rintro hfree c rfl u rfl
  refine completes_of rfl hidle ?_ rfl
  have hopen : (s.mode.isShow && lockedInShow f) = false := by
    rw [← hgives]
    rcases hfree with hsetup | hnone
    · rw [hsetup]
      rfl
    · rw [hnone, Bool.and_false]
  show serveSetZone z.val f s = _
  rw [serveSetZone, forZone_val, hopen]
  rfl

/-! ## What the curfew unit raises on the officer link -/

/-- Of the officer link's kinds, ENCORE alone may have been raised. -/
def EncoreOnly (s t : State) : Prop := ∀ n < 16, n ≠ 8 → noticeAt .officer n t = noticeAt .officer n s

section
variable {b s : State}

theorem EncoreOnly.refl (s : State) : EncoreOnly s s := fun _ _ _ => rfl

theorem noticeAt_officer_raiseDesk (s : State) (st : StageId) (k : DeskNotice) (n : Nat) :
    noticeAt .officer n (s.raiseDesk st k) = noticeAt .officer n s := by
  rw [noticeAt, raiseDesk_links_get, if_neg (by simp)]

theorem encoreOnly_raiseDesk (st : StageId) (k : DeskNotice) (h : EncoreOnly b s) : EncoreOnly b (s.raiseDesk st k) :=
  fun n hn hother => (noticeAt_officer_raiseDesk s st k n).trans (h n hn hother)

theorem encoreOnly_encore (h : EncoreOnly b s) : EncoreOnly b (s.raiseOfficer .encore) := fun n hn hother' => by
  have hother : decide (n = OfficerNotice.encore.position) = false := decide_eq_false hother'
  rw [noticeAt_raiseOfficer_self s .encore hn, hother, Bool.or_false, h n hn hother']

theorem encoreOnly_encoreIf (c : Bool) (h : EncoreOnly b s) : EncoreOnly b (s.raiseOfficerIf c .encore) := by
  unfold State.raiseOfficerIf
  split
  · exact encoreOnly_encore h
  · exact h

theorem encoreOnly_changeStage (st : StageId) (f : Stage → Stage) (h : EncoreOnly b s) :
    EncoreOnly b (s.changeStage st f) := by
  unfold State.changeStage State.raiseDeskIf
  dsimp only
  split
  · exact encoreOnly_raiseDesk _ _ h
  · exact h

theorem encoreOnly_recomputeTarget (st : StageId) (h : EncoreOnly b s) : EncoreOnly b (s.recomputeTarget st) := by
  simp only [State.recomputeTarget]
  split
  · exact h
  · exact encoreOnly_changeStage _ _ h

theorem encoreOnly_eachStage {f : StageId → State → State} (hf : ∀ st s, EncoreOnly b s → EncoreOnly b (f st s))
    (h : EncoreOnly b s) : EncoreOnly b (s.eachStage f) :=
  List.foldlRecOn (motive := EncoreOnly b) allStages _ h fun s hs st _ => hf st s hs

theorem encoreOnly_endSoonTest (st : StageId) (h : EncoreOnly b s) : EncoreOnly b (s.endSoonTest st) := by
  simp only [State.endSoonTest]
  split
  · exact encoreOnly_raiseDesk _ _ h
  · exact h

theorem encoreOnly_curfewFalls (st : StageId) (h : EncoreOnly b s) : EncoreOnly b (s.curfewFalls st) :=
  encoreOnly_raiseDesk _ _ (encoreOnly_changeStage _ _ h)

theorem encoreOnly_stageOnset (st : StageId) (h : EncoreOnly b s) : EncoreOnly b (s.stageOnset st) := by
  simp only [State.stageOnset]
  split
  · exact encoreOnly_curfewFalls st h
  · exact encoreOnly_encore (encoreOnly_endSoonTest st h)
  · exact h

theorem encoreOnly_stageCurfewEnd (st : StageId) (h : EncoreOnly b s) : EncoreOnly b (s.stageCurfewEnd st) :=
  encoreOnly_encoreIf _ (encoreOnly_changeStage _ _ h)

theorem encoreOnly_zoneLeaves (z : ZoneId) (st : StageId) (h : EncoreOnly b s) : EncoreOnly b (s.zoneLeaves z st) := by
  simp only [State.zoneLeaves]
  split
  · exact encoreOnly_stageCurfewEnd st h
  · exact h

theorem encoreOnly_soonTest (st : StageId) (h : EncoreOnly b s) : EncoreOnly b (s.soonTest st) := by
  unfold State.soonTest
  split
  · split
    · exact encoreOnly_raiseDesk _ _ h
    · exact h
  · exact h

theorem encoreOnly_bookingTest (st : StageId) (h : EncoreOnly b s) : EncoreOnly b (s.bookingTest st) := by
  unfold State.bookingTest
  split
  · split
    · exact encoreOnly_encore h
    · exact h
  · exact h

theorem encoreOnly_recomputeOnsets (h : EncoreOnly b s) : EncoreOnly b s.recomputeOnsets :=
  encoreOnly_eachStage (fun st _ h => encoreOnly_soonTest st (encoreOnly_bookingTest st h)) h

theorem encoreOnly_stageLosesZone (z : ZoneId) (c : Bool) (st : StageId) (h : EncoreOnly b s) :
    EncoreOnly b (s.stageLosesZone z c st) := by
  unfold State.stageLosesZone
  split
  · exact encoreOnly_recomputeTarget st (encoreOnly_zoneLeaves z st h)
  · exact encoreOnly_zoneLeaves z st (encoreOnly_recomputeTarget st h)

end

/-! ## Targets under the curfew unit -/

theorem targetsOk_moved {s t : State} (hs : targetsOk s) (h : CurfewMoved s.stages t.stages)
    (hframe : t.zones = s.zones ∧ t.timeBase = s.timeBase) : targetsOk t := by
  intro i
  obtain ⟨hzones, htime⟩ := hframe
  obtain ⟨hrecord, hkept⟩ := (h i).keeps
  rw [hkept, hs i, targetOf_congr hrecord hzones htime]

theorem targetsOk_recomputeTargets (s : State) : targetsOk s.recomputeTargets := fun i => by simp

/-! ## ENABLE ZONE (R59) -/

section
variable (s : State) (z : ZoneId)

theorem enableZoneNow_accounts : (s.enableZoneNow z).zones = s.zones.modify z Zone.enable := by
  unfold State.enableZoneNow
  dsimp only
  split <;> simp

theorem enableZoneNow_record (i : StageId) :
    ((s.enableZoneNow z).stages.get i).record = (s.stages.get i).record := by
  unfold State.enableZoneNow
  dsimp only
  split <;> simp

theorem enableZoneNow_targetsOk : targetsOk (s.enableZoneNow z) := by
  have hcounted := targetsOk_recomputeTargets ((s.onZone z Zone.enable).raiseOfficer .feedChange)
  unfold State.enableZoneNow
  dsimp only
  split
  · exact targetsOk_moved hcounted (curfewMoved_recomputeOnsets (curfewMoved_zoneOnset z (.refl _))) (by simp)
  · exact targetsOk_moved hcounted (curfewMoved_recomputeOnsets (.refl _)) (by simp)

theorem enableZoneNow_zones (i : StageId) :
    ((s.enableZoneNow z).curfew.get i).zones =
      if (s.tables.get z).inForce.kind.isCurfew = true ∧ 0 < (s.stages.get i).record.coupling.get z then
        (s.curfew.get i).zones.set z true
      else (s.curfew.get i).zones := by
  have hreaches : reaches ((s.onZone z Zone.enable).raiseOfficer .feedChange).recomputeTargets i z =
      decide (0 < (s.stages.get i).record.coupling.get z) := by
    simp [reaches, Bank8.modify, Zone.enable]
  simp only [State.enableZoneNow, (recomputeOnsets_sets _ _).1]
  split
  · next hcurfew =>
    have hcurfew : (s.tables.get z).inForce.kind.isCurfew = true := by simpa using hcurfew
    rw [zoneOnset_zones, hreaches]
    simp [hcurfew]
  · next hplay =>
    have hplay : ¬(s.tables.get z).inForce.kind.isCurfew = true := by simpa using hplay
    simp [hplay]

theorem enableZoneNow_notice : noticeAt .officer 1 (s.enableZoneNow z) = true := by
  have hraised : noticeAt .officer 1 ((s.onZone z Zone.enable).raiseOfficer .feedChange).recomputeTargets = true :=
    (raises_recomputeTargets (.refl _)).noticeAt (raiseOfficer_notice _ .feedChange)
  unfold State.enableZoneNow
  dsimp only
  split
  · exact (raises_recomputeOnsets (raises_zoneOnset z (.refl _))).noticeAt hraised
  · exact (raises_recomputeOnsets (.refl _)).noticeAt hraised

end

/-- Settles O25: what `enableZoneNow` leaves of each part of the state. -/
theorem enableZoneRequest : Obligations.EnableZoneRequest := by
  unfold Obligations.EnableZoneRequest
  intro s hidle
  refine ⟨fun n hn => completes_of rfl hidle (forZone_beyond hn _ _) rfl, ?_⟩
  rintro z zn rfl
  refine ⟨fun henabled => completes_of rfl hidle ?_ rfl, fun hdisabled => ?_⟩
  · show serveEnableZone z.val s = _
    simp only [serveEnableZone, forZone_val, henabled, if_true]
  have hserve : serveEnableZone z.val s = (s.enableZoneNow z, zoneEnableReply .ok (s.enableZoneNow z) z) := by
    simp only [serveEnableZone, forZone_val, hdisabled, Bool.false_eq_true, if_false]
  have haccounts := enableZoneNow_accounts s z
  have hrecord := enableZoneNow_record s z
  have htargets := enableZoneNow_targetsOk s z
  have hzones := enableZoneNow_zones s z
  have hnotice := enableZoneNow_notice s z
  have hframe := enableZoneNow_frame s z
  have hreply : zoneEnableReply .ok (s.enableZoneNow z) z = [0#8, byteOf z.val, 1#8, 1#8] := by
    simp only [zoneEnableReply, haccounts, Bank8.get_modify, if_true]
    rfl
  rw [hreply] at hserve
  generalize s.enableZoneNow z = u at hserve haccounts hrecord htargets hzones hnotice hframe
  obtain ⟨hnow, hmode, htime, htables, hpaths, hlist, hloop, -⟩ := hframe
  exact leadsTo_of (completes_of rfl hidle hserve rfl)
    ⟨haccounts, fun st => ⟨htargets st, hrecord st, hzones st⟩, (noticeAt_send _ _ _ _ _).trans hnotice,
      sentReply_send _ _ _ _, htables, htime, hlist, hloop, hpaths, hmode, hnow⟩

/-! ## DISABLE ZONE (R60, R150) -/

theorem noticeAt_raiseOfficerIf (s : State) (c : Bool) (k : OfficerNotice) {n : Nat} (hn : n < 16) :
    noticeAt .officer n (s.raiseOfficerIf c k) = (noticeAt .officer n s || (c && decide (n = k.position))) := by
  unfold State.raiseOfficerIf
  cases c
  · simp
  · simp [noticeAt_raiseOfficer_self s k hn]

/-- Whether a disabling changes a condition or clears a FAST flag (R60). -/
def Zone.clearing (zn : Zone) : Bool :=
  decide (zn.conditions ≠ ⟨.clear, .clear⟩) || zn.fast.broad.isSet || zn.fast.low.isSet

theorem clearing_eq (zn : Zone) : zn.clearing =
    (decide (zn.conditions.broad ≠ .clear ∨ zn.conditions.low ≠ .clear) || zn.fast.broad.isSet || zn.fast.low.isSet) := by
  have hpair : zn.conditions ≠ ⟨.clear, .clear⟩ ↔ zn.conditions.broad ≠ .clear ∨ zn.conditions.low ≠ .clear := by
    rw [Ne, Pair.mk.injEq, not_and_or]
  rw [Zone.clearing, decide_eq_decide.mpr hpair]

/-- Whether the list holds an open record of a zone. -/
def State.holdsOpen (z : ZoneId) (s : State) : Bool := s.exceedances.records.any fun r => decide (r.cause = none ∧ r.zone = z)

theorem isOpen_and_zone (z : ZoneId) (r : Exceedance) :
    (r.isOpen && decide (r.zone = z)) = decide (r.cause = none ∧ r.zone = z) := by
  cases hcause : r.cause <;> simp [Exceedance.isOpen, hcause]

/-- What a disabling does before it reaches the stages. -/
def State.clearZone (z : ZoneId) (s : State) : State :=
  ((((s.onZone z Zone.cleared).raiseOfficer .feedChange).raiseOfficerIf (s.zones.get z).clearing
    .zoneChange).disableReport z).forgetReports z

theorem disableZoneNow_eq (s : State) (z : ZoneId) :
    s.disableZoneNow z = ((s.takeOrder.2.clearZone z).eachStage
      fun st t => t.stageLosesZone z (s.takeOrder.1.curfewFirst.get st) st).recomputeOnsets := rfl

theorem clearZone_notice (s : State) (z : ZoneId) {n : Nat} (hn : n < 16) :
    noticeAt .officer n (s.clearZone z) = (noticeAt .officer n s || decide (n = 1) ||
      ((s.zones.get z).clearing && decide (n = 0)) || (s.holdsOpen z && decide (n = 4))) := by
  have hopen : s.holdsOpen z = s.exceedances.records.any fun r => r.isOpen && decide (r.zone = z) := by
    simp only [State.holdsOpen, isOpen_and_zone]
  have hforget : noticeAt .officer n (s.clearZone z) = noticeAt .officer n
      (State.disableReport z (((s.onZone z Zone.cleared).raiseOfficer .feedChange).raiseOfficerIf (s.zones.get z).clearing
        .zoneChange)) := rfl
  have hlist : (((s.onZone z Zone.cleared).raiseOfficer .feedChange).raiseOfficerIf (s.zones.get z).clearing
      .zoneChange).exceedances = s.exceedances := by simp
  rw [hforget, State.disableReport, noticeAt_raiseOfficerIf _ _ _ hn, hlist, ← hopen]
  refine congrArg₂ or ?_ rfl
  exact (noticeAt_raiseOfficerIf _ _ _ hn).trans (congrArg₂ or (noticeAt_raiseOfficer_self _ _ hn) rfl)

theorem disableZoneNow_notice (s : State) (z : ZoneId) {n : Nat} (hn : n < 16) (hother : n ≠ 8) :
    noticeAt .officer n (s.disableZoneNow z) = (noticeAt .officer n s || decide (n = 1) ||
      ((s.zones.get z).clearing && decide (n = 0)) || (s.holdsOpen z && decide (n = 4))) := by
  have hstages : EncoreOnly (s.takeOrder.2.clearZone z) (s.disableZoneNow z) :=
    encoreOnly_recomputeOnsets (encoreOnly_eachStage (fun st _ => encoreOnly_stageLosesZone z _ st) (.refl _))
  have hnotice : noticeAt .officer n s.takeOrder.2 = noticeAt .officer n s := by simp [noticeAt]
  have hzones : s.takeOrder.2.zones = s.zones := by simp
  have hopen : s.takeOrder.2.holdsOpen z = s.holdsOpen z := by simp [State.holdsOpen]
  rw [hstages n hn hother, clearZone_notice _ z hn, hnotice, hzones, hopen]

theorem disableZoneNow_targetsOk (s : State) (z : ZoneId) : targetsOk (s.disableZoneNow z) := by
  rw [disableZoneNow_eq]
  refine targetsOk_moved (fun i => ?_) (curfewMoved_recomputeOnsets (.refl _)) (by simp)
  exact eachStage_establishes (P := fun _ => True) (Q := fun t => (t.stages.get i).target = targetOf t i) i trivial
    (fun _ _ _ _ => trivial) (fun t _ => stageLosesZone_target t z _ i) fun j t hj ht => stageLosesZone_keeps_target hj ht

theorem disabled_eq (z : ZoneId) (m : Option Nat) :
    Exceedance.disabled z m = fun r =>
      if r.cause = none ∧ r.zone = z then { r with endMinute := m, cause := some .disabled } else r := by
  funext r
  unfold Exceedance.disabled
  simp only [isOpen_and_zone, decide_eq_true_eq]
  rfl

/-- Settles O26: what `disableZoneNow` leaves of each part of the state. -/
theorem disableZoneRequest : Obligations.DisableZoneRequest := by
  unfold Obligations.DisableZoneRequest
  intro s hidle
  refine ⟨fun n hn => completes_of rfl hidle (forZone_beyond hn _ _) rfl, ?_⟩
  rintro z zn rfl
  refine ⟨fun hshow => completes_of rfl hidle ?refused rfl, fun hsetup hdisabled => completes_of rfl hidle ?already rfl,
    fun hsetup henabled => ?taken⟩
  case refused =>
    show serveDisableZone z.val s = _
    simp only [serveDisableZone, forZone_val, hshow, Mode.isShow, if_true]
  case already =>
    show serveDisableZone z.val s = _
    simp only [serveDisableZone, forZone_val, hsetup, Mode.isShow, hdisabled, Bool.false_eq_true, if_false]
  have hserve : serveDisableZone z.val s = (s.disableZoneNow z, zoneEnableReply .ok (s.disableZoneNow z) z) := by
    simp only [serveDisableZone, forZone_val, hsetup, Mode.isShow, henabled, Bool.false_eq_true, if_false, if_true]
  have haccounts := disableZoneNow_accounts s z
  have hlist := (disableZoneNow_list s z).1
  have hrecord := disableZoneNow_record s z
  have htargets := disableZoneNow_targetsOk s z
  have hzones := disableZoneNow_zones s z
  have hfeed := disableZoneNow_notice s z (n := 1) (by decide) (by decide)
  have hchange := disableZoneNow_notice s z (n := 0) (by decide) (by decide)
  have hclosed := disableZoneNow_notice s z (n := 4) (by decide) (by decide)
  have hframe := disableZoneNow_frame s z
  have hreply : zoneEnableReply .ok (s.disableZoneNow z) z = [0#8, byteOf z.val, 0#8, 0#8] := by
    simp only [zoneEnableReply, haccounts, Bank8.get_modify, if_true]
    rfl
  rw [hreply] at hserve
  rw [disabled_eq] at hlist
  rw [clearing_eq] at hchange
  generalize s.disableZoneNow z = u at hserve haccounts hlist hrecord htargets hzones hfeed hchange hclosed hframe
  obtain ⟨hnow, hmode, htime, htables, hpaths, hloop, -⟩ := hframe
  refine leadsTo_of (completes_of rfl hidle hserve rfl)
    ⟨haccounts, hlist, fun st => ⟨htargets st, hrecord st, hzones st⟩, (noticeAt_send _ _ _ _ _).trans ?_,
      (noticeAt_send _ _ _ _ _).trans ?_, (noticeAt_send _ _ _ _ _).trans ?_,
      sentReply_send _ _ _ _, htables, htime, hloop, hpaths, hmode, hnow⟩
  · rw [hfeed]
    simp
  · rw [hchange]
    simp [Bool.or_assoc]
  · rw [hclosed]
    simp [State.holdsOpen]

/-! ## Conditions, FAST flags and snapshot after a close (R79, R80, R84) -/

section
variable (zn : Zone) (now : Nat) (limits : Pair Nat) (aw : Awaiting) (rec : Option MeasurementRecord)

/-- What a close leaves of one metric's judgements, from the levels it took. -/
theorem close_judgements {v : Pair MetricLevels} (h : (zn.close now limits aw rec).levels = some v) (m : Metric) :
    (zn.close now limits aw rec).conditions.get m =
      nextCondition zn.config (limits.get m) (v.get m).rolling (zn.conditions.get m) ∧
    (zn.close now limits aw rec).fast.get m =
      nextFast (fastExcess zn.config (limits.get m) (v.get m)) (zn.fast.get m) ∧
    (zn.close now limits aw rec).snapshot.get m =
      nextSnapshot (zn.conditions.get m) ((zn.close now limits aw rec).conditions.get m)
        (fastExcess zn.config (limits.get m) (v.get m)) (zn.snapshot.get m) := by
  obtain rfl := Option.some.inj h
  cases m <;> exact ⟨rfl, rfl, rfl⟩

end

theorem nextFast_of_fast {x : Int} (h : 0 < x) (f : FastFlag) : nextFast x f = ⟨true, 0⟩ := if_pos h

theorem nextFast_of_quiet {x : Int} (h : ¬0 < x) (f : FastFlag) :
    (f.isSet = false → nextFast x f = ⟨false, 0⟩) ∧
    (f.isSet = true → nextFast x f = if 2 ≤ f.quiet then ⟨false, 0⟩ else ⟨true, f.quiet + 1⟩) := by
  constructor <;> intro hset <;> simp [nextFast, h, hset]

theorem nextSnapshot_worst (before after : Condition) (x : Int) (n : Snapshot) :
    (nextSnapshot before after x n).worst =
      if after ≠ before ∧ n.worst.rank < after.rank then after else n.worst := by
  by_cases hsame : after = before
  · simp [nextSnapshot, hsame]
  · simp [nextSnapshot, worse, hsame]

/-- Settles O30: each clause is that of `nextCondition`, `nextFast` or `nextSnapshot`. -/
theorem closeJudgesConditions : Obligations.CloseJudgesConditions := by
  unfold Obligations.CloseJudgesConditions
  rintro zn now limits aw rec n rfl v hv m r rfl lim rfl
  obtain ⟨hcondition, hfast, hsnapshot⟩ := close_judgements zn now limits aw rec hv m
  have hexcess : 0 < fastExcess zn.config (limits.get m) (v.get m) ↔
      ((limits.get m : Nat) : Int) + zn.config.fastMargin < (v.get m).closing := by
    rw [fastExcess_pos_iff]
    omega
  refine ⟨?_, fun hover => ?_, fun hunder => ?_, ?_, ?_⟩
  · rw [hcondition, nextCondition]
    simp only [Bool.and_eq_true, decide_eq_true_eq]
  · rw [hfast, nextFast_of_fast (hexcess.mpr hover)]
  · rw [hfast]
    exact nextFast_of_quiet (fun hpos => absurd (hexcess.mp hpos) (by omega)) _
  · rw [hsnapshot, ← decide_eq_decide.mpr hexcess]
    rfl
  · rw [hsnapshot, nextSnapshot_worst]

end Sys2Proof.Machine
end

section
/-! PROOFS. The block timers (O31), and the accounts at a second mark (O27): the mark's tasks follow one another in
some order, each zone has one of its own, and no other task touches its account. -/

namespace Sys2Proof.Machine

/-! ## The block timers (R41, R76, R135) -/

theorem signalLost_eq_putPath (s : State) (st : StageId) :
    s.signalLost st = s.putPath st { s.paths.get st with
      watch := .absent, alarms := { (s.paths.get st).alarms with noSignal := true } } := by
  unfold State.signalLost
  rw [onPath_eq_putPath _ _ _ rfl]
  exact putPath_setAlarm s st _ .noSignal fun _ => rfl

theorem noSignal_set_iff (a : AlarmSet) : ({ a with noSignal := true } : AlarmSet) = a ↔ a.noSignal = true := by
  constructor
  · intro h
    rw [← h]
  · intro h
    rw [← h]

/-- Settles O31: each expiry unfolds to its own record. -/
theorem blockTimersExpire : Obligations.BlockTimersExpire := by
  unfold Obligations.BlockTimersExpire
  intro s
  refine ⟨fun z => ⟨fun hnone => ?_, fun due hdue => ?_⟩, fun a => ⟨fun hidle => ?_, fun due hlost hdue => ?_⟩,
    fun st => ⟨fun hidle => ?_, fun due hdue => ?_⟩⟩
  · refine congrArg Host.Outcome.next (a₁ := s.settleExpires z) ?_
    rw [State.settleExpires, hnone]
  · refine congrArg Host.Outcome.next (a₁ := s.settleExpires z) ?_
    rw [State.settleExpires, hdue]
    rfl
  · refine congrArg Host.Outcome.next (a₁ := s.reseekExpires a) ?_
    unfold State.reseekExpires
    split
    · next due hlost hdue =>
      rcases hidle with hstopped | hother
      · exact absurd hdue (hstopped due)
      · exact absurd hlost hother
    · rfl
  · refine congrArg Host.Outcome.next (a₁ := s.reseekExpires a) ?_
    have hstate : (s.loop.slots.get a).state = .lost := hlost
    rw [State.reseekExpires, hstate, hdue]
    rfl
  · refine congrArg Host.Outcome.next (a₁ := s.noSignalExpires st) ?_
    unfold State.noSignalExpires
    split
    · next due hdue => exact absurd hdue (hidle due)
    · rfl
    · rfl
  · have hexpires : s.noSignalExpires st = (s.advanceTo due).signalLost st := by rw [State.noSignalExpires, hdue]
    refine ⟨s.noSignalExpires st, rfl, ?_⟩
    rw [hexpires, signalLost_eq_putPath]
    refine ⟨putPath_frame _ _ _, ?_⟩
    have hkept : ((s.advanceTo due).paths.get st).alarms = (s.paths.get st).alarms := rfl
    rw [putPath_links, hkept]
    simp only [noSignal_set_iff]
    split <;> rfl

/-! ## The tasks of a mark (R15, R28, R63, R122) -/

/-- The state in which a mark's tasks begin. -/
def State.marked (s : State) : State :=
  (((s.takeOrder.2.onTimeBase (TimeBase.mark s.takeOrder.2.now)).onLoop fun k =>
    { k with pendingMark := some (s.takeOrder.2.onTimeBase (TimeBase.mark s.takeOrder.2.now)).timeBase.tag })).arbitrate

theorem issueMark_eq (s : State) :
    s.issueMark = s.takeOrder.1.sequence.foldl
      (fun t task => t.markTask s.takeOrder.1 s.takeOrder.2.timeBase.tag s.takeOrder.2.minute task) s.marked := rfl

@[simp] theorem marked_frame (s : State) :
    s.marked.now = s.now ∧ s.marked.zones = s.zones ∧ s.marked.tables = s.tables ∧ s.marked.stages = s.stages ∧
    s.marked.curfew = s.curfew ∧ s.marked.pool = s.pool ∧ s.marked.links = s.links ∧
    s.marked.timeBase = s.timeBase.mark s.now := by
  simp [State.marked]

theorem takeOrder_clock (s : State) :
    s.takeOrder.2.timeBase.tag = s.timeBase.tag ∧ s.takeOrder.2.minute = s.minute := by
  simp [State.minute]

/-- Each task has one turn. -/
theorem sequence_nodup (o : Interleaving) : o.sequence.Nodup := (sequence_perm o).nodup_iff.mpr (by decide)

/-- What the turn of one task establishes, and no other task undoes, holds after a mark's tasks. -/
theorem sequence_establishes {P Q : State → Prop} {f : State → Task → State} {o : Interleaving} {s : State} (a : Task)
    (hstart : P s) (hbefore : ∀ s x, x ≠ a → P s → P (f s x)) (hturn : ∀ s, P s → Q (f s a))
    (hafter : ∀ s x, x ≠ a → Q s → Q (f s x)) : Q (o.sequence.foldl f s) := by
  obtain ⟨before, after, hsplit⟩ := List.append_of_mem (mem_sequence o a)
  have hnodup : (before ++ a :: after).Nodup := hsplit ▸ sequence_nodup o
  obtain ⟨hout, hin⟩ : a ∉ before ∧ a ∉ after := by simpa using (List.nodup_middle.mp hnodup).notMem
  rw [hsplit, List.foldl_append, List.foldl_cons]
  refine List.foldlRecOn after _ (hturn _ ?_) fun t ht x hx => hafter t x (fun heq => hin (heq ▸ hx)) ht
  exact List.foldlRecOn before _ hstart fun t ht x hx => hbefore t x (fun heq => hout (heq ▸ hx)) ht

section
variable {s : State} {o : Interleaving} {e : Nat} {b : Option Nat}

theorem markTask_tables (task : Task) (h : s.minute = b) : (s.markTask o e b task).tables = s.tables := by
  cases task <;> simp [State.markTask, h]

theorem markTask_curfew {task : Task} (h : s.minute = b) (hother : task ≠ .grants) :
    (s.markTask o e b task).curfew = s.curfew ∧ (s.markTask o e b task).pool = s.pool := by
  cases task
  case grants => exact absurd rfl hother
  all_goals simp [State.markTask, h]

theorem grantMark_of_idle {st : StageId} (h : (s.curfew.get st).grant.isRunning = false) : s.grantMark st = s := by
  unfold State.grantMark
  split
  · next hgrant => simp [hgrant, Grant.isRunning] at h
  · rfl

theorem grantMarks_of_idle (h : ∀ st, (s.curfew.get st).grant.isRunning = false) : s.grantMarks = s :=
  List.foldlRecOn (motive := fun t => t = s) allStages (fun t st => t.grantMark st) rfl fun _ ht st _ =>
    (congrArg (State.grantMark st) ht).trans (grantMark_of_idle (h st))

/-- The account of an enabled zone after its closing deadline, with the limits of a close where there is one. -/
def Zone.deadline (now : Nat) (limits : Pair Nat) (ended : Nat) (minute : Option Nat) (zn : Zone) : Zone :=
  { (match zn.awaiting with
      | some aw => if aw.isOpen then zn.close now limits aw none else zn
      | none => zn) with
    awaiting := some ⟨ended, true, minute⟩ }

theorem closingDeadline_zones (z : ZoneId) (w : Bank4 Bool) :
    (s.closingDeadline z w e b).zones = if (s.zones.get z).enabled then
      s.zones.set z ((s.zones.get z).deadline s.now (limitsInForce s z) e b) else s.zones := by
  simp only [State.closingDeadline, Zone.deadline]
  split
  · next henabled =>
    cases hawaiting : (s.zones.get z).awaiting with
    | none => simp [Bank8.modify]
    | some aw =>
      cases hopen : aw.isOpen <;> simp [Bank8.modify, closeZone_zones, hopen]
  · rfl

theorem markTask_account {z : ZoneId} {task : Task} (hother : task ≠ .zone z) :
    (s.markTask o e b task).zones.get z = s.zones.get z := by
  cases task with
  | zone x =>
    have hx : z ≠ x := fun heq => hother (congrArg Task.zone heq.symm)
    simp only [State.markTask, closingDeadline_zones]
    split
    · rw [Bank8.get_set, if_neg hx]
    · rfl
  | table x =>
    simp only [State.markTask]
    split <;> simp
  | grants => simp [State.markTask]
  | floor _ => rfl

end

/-! ## The accounts at a mark (R62, R63) -/

/-- Where neither the minute turns nor a grant runs, a mark moves no limits. -/
def markIsCalm (s : State) : Prop :=
  s.marked.minute = s.minute ∧ ∀ st, (s.curfew.get st).grant.isRunning = false

theorem limitsInForce_of_idle {s t : State} (htables : t.tables = s.tables)
    (hs : ∀ st, (s.curfew.get st).grant.isRunning = false) (hcurfew : t.curfew = s.curfew) (z : ZoneId) :
    limitsInForce t z = limitsInForce s z := by
  have hidle : ∀ u : State, u.curfew = s.curfew → encoreRuns u z = false := by
    intro u hu
    simp [encoreRuns, hu, hs]
  simp only [limitsInForce, htables, hidle t hcurfew, hidle s rfl]

/-- What the tasks of a mark leave for the turn of a zone. -/
def awaitsTurn (s t : State) (z : ZoneId) : Prop :=
  t.now = s.now ∧ t.timeBase = s.marked.timeBase ∧ t.zones.get z = s.zones.get z ∧
  (markIsCalm s → t.tables = s.tables ∧ t.curfew = s.curfew)

theorem markTask_calm {s t : State} {o : Interleaving} {e : Nat} (task : Task) (hcalm : markIsCalm s)
    (htime : t.timeBase = s.marked.timeBase) (hcurfew : t.curfew = s.curfew) :
    (t.markTask o e s.minute task).tables = t.tables ∧ (t.markTask o e s.minute task).curfew = t.curfew := by
  obtain ⟨hminute, hidle⟩ := hcalm
  have hstill : t.minute = s.minute := by rw [← hminute, State.minute, htime, State.minute]
  refine ⟨markTask_tables task hstill, ?_⟩
  by_cases hgrants : task = .grants
  · subst hgrants
    exact congrArg State.curfew (grantMarks_of_idle fun st => by rw [hcurfew]; exact hidle st)
  · exact (markTask_curfew hstill hgrants).1

theorem awaitsTurn_markTask {s t : State} {z : ZoneId} {o : Interleaving} {e : Nat} {task : Task}
    (h : awaitsTurn s t z) (hother : task ≠ .zone z) : awaitsTurn s (t.markTask o e s.minute task) z := by
  obtain ⟨hnow, htime, haccount, hcalm⟩ := h
  refine ⟨by simp [hnow], by simp [htime], (markTask_account hother).trans haccount, fun hs => ?_⟩
  obtain ⟨htables, hcurfew⟩ := hcalm hs
  obtain ⟨hkept, hheld⟩ := markTask_calm (o := o) (e := e) task hs htime hcurfew
  exact ⟨hkept.trans htables, hheld.trans hcurfew⟩

/-- An account at a mark: its own deadline, for limits that a calm mark leaves as they were. -/
theorem issueMark_account (s : State) (z : ZoneId) : ∃ limits, (markIsCalm s → limits = limitsInForce s z) ∧
    s.issueMark.zones.get z = if (s.zones.get z).enabled then
      (s.zones.get z).deadline s.now limits s.timeBase.tag s.minute else s.zones.get z := by
  obtain ⟨htag, hminute⟩ := takeOrder_clock s
  rw [issueMark_eq, htag, hminute]
  refine sequence_establishes (P := fun t => awaitsTurn s t z)
    (Q := fun t => ∃ limits, (markIsCalm s → limits = limitsInForce s z) ∧
      t.zones.get z = if (s.zones.get z).enabled then
        (s.zones.get z).deadline s.now limits s.timeBase.tag s.minute else s.zones.get z) (.zone z) ?_
    (fun t task hother ht => awaitsTurn_markTask ht hother) ?_ ?_
  · exact ⟨by simp, rfl, by simp, fun _ => by simp⟩
  · rintro t ⟨hnow, -, haccount, hcalm⟩
    refine ⟨limitsInForce t z, fun hs => ?_, ?_⟩
    · obtain ⟨htables, hcurfew⟩ := hcalm hs
      exact limitsInForce_of_idle htables hs.2 hcurfew z
    · simp only [State.markTask, closingDeadline_zones, haccount, hnow]
      split
      · rw [Bank8.get_set_self]
      · exact haccount
  · rintro t task hother ⟨limits, hlimits, haccount⟩
    exact ⟨limits, hlimits, (markTask_account hother).trans haccount⟩

section
variable (now : Nat) (limits : Pair Nat) (ended : Nat) (minute : Option Nat) {zn : Zone}

theorem deadline_awaiting : (zn.deadline now limits ended minute).awaiting = some ⟨ended, true, minute⟩ := rfl

theorem deadline_of_closed (h : ∀ aw ∈ zn.awaiting, aw.isOpen = false) :
    zn.deadline now limits ended minute = { zn with awaiting := some ⟨ended, true, minute⟩ } := by
  unfold Zone.deadline
  split
  · next aw haw => rw [h aw haw]; rfl
  · rfl

theorem deadline_of_open {aw : Awaiting} (haw : zn.awaiting = some aw) (hopen : aw.isOpen = true) :
    zn.deadline now limits ended minute =
      { zn.close now limits aw none with awaiting := some ⟨ended, true, minute⟩ } := by
  rw [Zone.deadline, haw]
  simp only [hopen, if_true]

end

/-- The state at an expected point, whose mark is issued next. -/
def State.atExpected (s : State) : State :=
  (s.advanceTo s.timeBase.expected).onTimeBase fun t => { t with expected := t.expected + 1000000 }

theorem exec_expectedPoint {s : State} (h : s.timeBase.source = .internal ∨ s.timeBase.state = .unset) :
    exec .expectedPoint s = .next s.atExpected.issueMark :=
  congrArg Host.Outcome.next (expectedPoint_of_unsteered (steered_of_internal h))

theorem issueMark_minute (s : State) : s.issueMark.minute = s.marked.minute := by
  rw [State.minute, issueMark_timeBase, State.minute, (marked_frame s).2.2.2.2.2.2.2]

/-- Settles O27: an account at a mark takes its own deadline. -/
theorem deadlineAtMark : Obligations.DeadlineAtMark := by
  unfold Obligations.DeadlineAtMark
  intro s hsource
  refine ⟨_, exec_expectedPoint hsource, ?_⟩
  rintro z zn rfl
  obtain ⟨limits, hlimits, haccount⟩ := issueMark_account s.atExpected z
  have hzones : s.atExpected.zones = s.zones := rfl
  have hnow : s.atExpected.now = max s.now s.timeBase.expected := rfl
  have htag : s.atExpected.timeBase.tag = s.timeBase.tag := rfl
  have hminute : s.atExpected.minute = s.minute := rfl
  have hcalm : s.atExpected.issueMark.minute = s.minute → (∀ st, (s.curfew.get st).grant.isRunning = false) →
      limits = limitsInForce s z := fun hsame hidle =>
    hlimits ⟨(issueMark_minute _).symm.trans (hsame.trans hminute.symm), hidle⟩
  rw [hzones, hnow, htag, hminute] at haccount
  refine ⟨fun hdisabled => ?_, fun henabled => ?_⟩
  · rw [haccount, hdisabled]
    rfl
  rw [if_pos henabled] at haccount
  refine ⟨?_, fun hclosed => ?_, fun aw haw hopen => ?_⟩
  · rw [haccount, deadline_awaiting]
  · rw [haccount, deadline_of_closed _ _ _ _ hclosed]
  · rw [deadline_of_open _ _ _ _ haw hopen] at haccount
    refine ⟨?_, fun hsame hidle => by rw [haccount, hcalm hsame hidle]⟩
    rw [haccount]
    have hrun := (close_keeps (s.zones.get z) (max s.now s.timeBase.expected) limits aw none).2.2.2.1
    exact hrun.trans (congrArg Closing.missingRun (closing_of_no_usable (s.zones.get z) (rec := none) (by simp)))

end Sys2Proof.Machine
end

section
/-! PROOFS. Chapter 5 of the spec: the officer's mutes and releases, a ramp timer's expiry, and the target with its
changes (O32 to O34). What each operation of one unit makes of it is said once for each of its cases. -/

namespace Sys2Proof.Machine

/-! ## A change of one unit (R110) -/

theorem changeStage_eq (s : State) (st : StageId) (f : Stage → Stage) {g h : Stage} (hg : g = s.stages.get st)
    (hh : f g = h) :
    s.changeStage st f = ({ s with stages := s.stages.set st h } : State).raiseDeskIf
      (decide (g.applied = 0 ∧ 0 < h.applied)) st .attenuating := by
  subst hg hh
  rw [Bool.decide_and]
  rfl

theorem stageGainReply_changeStage (s : State) (st : StageId) (f : Stage → Stage) {g h : Stage}
    (hg : g = s.stages.get st) (hh : f g = h) :
    stageGainReply .ok (s.changeStage st f) st =
      [0#8, byteOf st.val, byteOf h.gain.position, byteOf h.reasons.mask, byteOf h.applied] := by
  have hget : (s.changeStage st f).stages.get st = h := by rw [changeStage_stages, Bank4.get_modify, if_pos rfl, ← hg, hh]
  simp only [stageGainReply, hget]
  rfl

/-! ## FADE and RELEASE of one unit (R96, R97, R99, R100) -/

theorem muteNow_eq (g : Stage) : g.muteNow =
    { g with reasons := { g.reasons with officer := true }, gain := .muted, applied := 96, ramp := none } := rfl

theorem fadeOut_eq (g : Stage) (now : Nat) : g.fadeOut now =
    if g.gain = .fading ∨ g.gain = .muted then { g with reasons := { g.reasons with officer := true } }
    else if 96 ≤ max g.applied g.target then
      { g with reasons := { g.reasons with officer := true }, gain := .muted, applied := 96, ramp := none }
    else
      { g with
        reasons := { g.reasons with officer := true }, gain := .fading
        applied := max g.applied g.target
        ramp := some ⟨.fade, now + 1000 * g.record.fadeStep⟩ } := by
  cases hgain : g.gain with
  | fading => simp [Stage.fadeOut, Stage.takeDown, hgain]
  | muted => simp [Stage.fadeOut, Stage.takeDown, hgain]
  | opened =>
    simp only [Stage.fadeOut, Stage.takeDown, hgain, Stage.enterFading, reduceCtorEq, or_self, if_false]
    split <;> rfl
  | resuming =>
    simp only [Stage.fadeOut, Stage.takeDown, hgain, Stage.enterFading, reduceCtorEq, or_self, if_false]
    split <;> rfl

/-- A removal empties the set of a stage that is muted or fading, and brings it back in. -/
theorem releaseReasons_eq (g : Stage) (now : Nat) : g.releaseReasons now =
    if g.reasons.curfew = true ∨ (g.reasons.start = false ∧ g.reasons.officer = false) ∨
        g.gain = .opened ∨ g.gain = .resuming then
      { g with reasons := ⟨false, false, g.reasons.curfew⟩ }
    else if g.applied ≤ g.target then
      { g with reasons := ⟨false, false, false⟩, gain := .opened, applied := g.target, ramp := none }
    else
      { g with
        reasons := ⟨false, false, false⟩, gain := .resuming
        ramp := some ⟨.resume, now + 1000 * g.record.resumeStep⟩ } := by
  have hempties : (!g.reasons.isEmpty && Reasons.isEmpty ⟨false, false, g.reasons.curfew⟩) = true ↔
      g.reasons.curfew = false ∧ ¬(g.reasons.start = false ∧ g.reasons.officer = false) := by
    cases hstart : g.reasons.start <;> cases hcurfew : g.reasons.curfew <;> simp [Reasons.isEmpty, hstart, hcurfew]
  unfold Stage.releaseReasons Stage.setReasons
  by_cases hout : g.gain = .opened ∨ g.gain = .resuming
  · refine Eq.trans ?_ (if_pos (Or.inr (Or.inr hout))).symm
    rcases hout with hgain | hgain <;> simp [hgain]
  · have hmuted : g.gain = .muted ∨ g.gain = .fading := by
      cases hgain : g.gain <;> simp [hgain] at hout ⊢
    by_cases hempty : g.reasons.curfew = false ∧ ¬(g.reasons.start = false ∧ g.reasons.officer = false)
    · rw [if_pos (hempties.mpr hempty), if_neg (by simp [hempty.1, hempty.2, hout])]
      rcases hmuted with hgain | hgain <;> simp only [hgain, hempty.1, Stage.enterResuming] <;> split <;> rfl
    · rw [if_neg (fun h => hempty (hempties.mp h)), if_pos]
      by_contra hnot
      push Not at hnot
      exact hempty ⟨by simpa using hnot.1, fun hnone => hnot.2.1 hnone.1 hnone.2⟩

/-- Settles O32: each request is one change of the unit. -/
theorem officerMutesAndReleases : Obligations.OfficerMutesAndReleases := by
  unfold Obligations.OfficerMutesAndReleases
  intro s hidle
  refine ⟨fun n hn => ⟨completes_of rfl hidle (forStage_beyond hn _ _) rfl,
    completes_of rfl hidle (forStage_beyond hn _ _) rfl, completes_of rfl hidle (forStage_beyond hn _ _) rfl⟩, ?_⟩
  intro st g hg
  refine ⟨fun h hh u hu => completes_of rfl hidle ?_ rfl, fun h hh u hu => completes_of rfl hidle ?_ rfl,
    fun h hh u hu => completes_of rfl hidle ?_ rfl⟩
  · have hchange : g.muteNow = h := (muteNow_eq g).trans hh.symm
    show serveMuteNow st.val s = _
    rw [serveMuteNow, forStage_val, hu, ← changeStage_eq s st _ hg hchange]
    exact congrArg (Prod.mk _) (stageGainReply_changeStage s st _ hg hchange)
  · have hchange : g.fadeOut s.now = h := (fadeOut_eq g s.now).trans hh.symm
    show serveFade st.val s = _
    rw [serveFade, forStage_val, hu, ← changeStage_eq s st _ hg hchange]
    exact congrArg (Prod.mk _) (stageGainReply_changeStage s st _ hg hchange)
  · have hchange : g.releaseReasons s.now = h := (releaseReasons_eq g s.now).trans hh.symm
    show serveRelease st.val s = _
    rw [serveRelease, forStage_val, hu, ← changeStage_eq s st _ hg hchange]
    exact congrArg (Prod.mk _) (stageGainReply_changeStage s st _ hg hchange)

/-! ## A ramp timer's expiry (R101 to R103, R106) -/

section
variable {g : Stage} (now : Nat)

theorem rampStep_fade (h : g.gain = .fading) : g.rampStep now .fade =
    if 96 ≤ max (g.applied + 1) g.target then { g with gain := .muted, applied := 96, ramp := none }
    else { g with applied := max (g.applied + 1) g.target, ramp := some ⟨.fade, now + 1000 * g.record.fadeStep⟩ } := by
  simp only [Stage.rampStep, h]
  split <;> rfl

theorem rampStep_resume (h : g.gain = .resuming) : g.rampStep now .resume =
    if g.applied - 1 ≤ g.target then { g with gain := .opened, applied := g.applied - 1, ramp := none }
    else { g with applied := g.applied - 1, ramp := some ⟨.resume, now + 1000 * g.record.resumeStep⟩ } := by
  simp only [Stage.rampStep, h]
  split <;> rfl

theorem rampStep_attack (h : g.gain = .opened) (hroom : g.applied < 96) : g.rampStep now .attack =
    if g.target ≤ g.applied + 1 then { g with applied := g.applied + 1, ramp := none }
    else { g with applied := g.applied + 1, ramp := some ⟨.attack, now + 1000 * g.record.attack⟩ } := by
  simp only [Stage.rampStep, h, Nat.min_eq_right (Nat.succ_le_of_lt hroom)]
  split <;> rfl

theorem rampStep_release (h : g.gain = .opened) : g.rampStep now .release =
    if g.applied - 1 ≤ g.target then { g with applied := g.applied - 1, ramp := none }
    else { g with applied := g.applied - 1, ramp := some ⟨.release, now + 1000 * g.record.releaseStep⟩ } := by
  simp only [Stage.rampStep, h]
  split <;> rfl

end

/-- Settles O33: one step of `rampStep`, from the expiry's moment. -/
theorem rampExpiryTakesOneStep : Obligations.RampExpiryTakesOneStep := by
  unfold Obligations.RampExpiryTakesOneStep
  intro s st g hg
  refine ⟨fun hnone => ?_, fun r hr m hm h hcase => ?_⟩
  · refine congrArg Host.Outcome.next (a₁ := s.rampExpires st) ?_
    rw [State.rampExpires, ← hg, hnone]
  · have hstep : g.rampStep m r.purpose = h := by
      rcases hcase with ⟨hgain, hp, rfl⟩ | ⟨hgain, hp, rfl⟩ | ⟨hgain, hp, hroom, rfl⟩ | ⟨hgain, hp, rfl⟩
      · rw [hp, rampStep_fade m hgain]
      · rw [hp, rampStep_resume m hgain]
      · rw [hp, rampStep_attack m hgain hroom]
      · rw [hp, rampStep_release m hgain]
    refine congrArg Host.Outcome.next (a₁ := s.rampExpires st) ?_
    have hexpires : s.rampExpires st = (s.advanceTo r.due).changeStage st (Stage.rampStep m r.purpose) := by
      rw [State.rampExpires, ← hg, hr, hm]
      rfl
    rw [hexpires]
    refine (changeStage_eq (s.advanceTo r.due) st _ hg hstep).trans ?_
    rw [hm]
    rfl

/-! ## The target (R91 to R93) -/

/-- The greatest of some figures: none exceeds it, and where it is not 0 it is one of them. -/
theorem foldl_max_eq {α : Type} (f : α → Nat) {l : List α} {d : Nat} (hbound : ∀ a ∈ l, f a ≤ d)
    (hreached : d = 0 ∨ ∃ a ∈ l, d = f a) : l.foldl (fun m a => max m (f a)) 0 = d := by
  have hle : ∀ (l : List α) (m : Nat), m ≤ l.foldl (fun m a => max m (f a)) m ∧
      ∀ a ∈ l, f a ≤ l.foldl (fun m a => max m (f a)) m := by
    intro l
    induction l with
    | nil => simp
    | cons x l ih =>
      intro m
      obtain ⟨hstart, hall⟩ := ih (max m (f x))
      refine ⟨(le_max_left _ _).trans hstart, fun a ha => ?_⟩
      rcases List.mem_cons.mp ha with rfl | ha
      · exact (le_max_right _ _).trans hstart
      · exact hall a ha
  refine le_antisymm ?_ ?_
  · exact List.foldlRecOn (motive := fun m => m ≤ d) l _ (Nat.zero_le d) fun m hm a ha => max_le hm (hbound a ha)
  · rcases hreached with rfl | ⟨a, ha, rfl⟩
    · exact Nat.zero_le _
    · exact (hle l 0).2 a ha

theorem reaches_iff {s : State} {st : StageId} {z : ZoneId} : reaches s st z = true ↔
    (s.zones.get z).enabled = true ∧ 0 < (s.stages.get st).record.coupling.get z := by
  simp [reaches]

theorem contribution_eq {s : State} {st : StageId} {d : Nat}
    (hbound : ∀ z : ZoneId, (s.zones.get z).enabled = true → 0 < (s.stages.get st).record.coupling.get z →
      ceilDiv ((s.zones.get z).demand * (s.stages.get st).record.coupling.get z) 100 ≤ d)
    (hreached : d = 0 ∨ ∃ z : ZoneId, (s.zones.get z).enabled = true ∧ 0 < (s.stages.get st).record.coupling.get z ∧
      d = ceilDiv ((s.zones.get z).demand * (s.stages.get st).record.coupling.get z) 100) :
    contribution s st = d := by
  refine foldl_max_eq _ (fun z _ => ?_) (hreached.imp id ?_)
  · unfold zoneTerm
    split
    · next hreaches =>
      obtain ⟨henabled, hcoupled⟩ := reaches_iff.mp hreaches
      exact hbound z henabled hcoupled
    · exact Nat.zero_le d
  · rintro ⟨z, henabled, hcoupled, hd⟩
    exact ⟨z, mem_allZones z, by rw [zoneTerm, if_pos (reaches_iff.mpr ⟨henabled, hcoupled⟩), hd]⟩

theorem forceFloor_eq (s : State) (st : StageId) : forceFloor s st =
    if s.timeBase.state = .unset ∨ ∃ z : ZoneId, (s.zones.get z).enabled = true ∧
      0 < (s.stages.get st).record.coupling.get z ∧ (s.zones.get z).feed = .fallback
    then (s.stages.get st).record.failsafe else 0 := by
  have hany : allZones.any (forcesFallback s st) = true ↔ ∃ z : ZoneId, (s.zones.get z).enabled = true ∧
      0 < (s.stages.get st).record.coupling.get z ∧ (s.zones.get z).feed = .fallback := by
    simp [forcesFallback, reaches_iff, and_assoc, mem_allZones]
  unfold forceFloor
  simp only [Bool.or_eq_true, decide_eq_true_eq, hany]

/-! ## A target change (R102 to R106) -/

section
variable {g : Stage} (now n : Nat)

theorem retarget_fading (h : g.gain = .fading) : g.retarget now n =
    if n ≤ g.applied then { g with target := n }
    else if 96 ≤ n then { g with target := n, gain := .muted, applied := 96, ramp := none }
    else { g with target := n, applied := n } := by
  simp only [Stage.retarget, h]
  by_cases hle : n ≤ g.applied
  · rw [if_neg (Nat.not_lt.mpr hle), if_pos hle]
  · rw [if_pos (Nat.lt_of_not_le hle), if_neg hle]
    split <;> rfl

theorem retarget_resuming (h : g.gain = .resuming) : g.retarget now n =
    if g.applied ≤ n then { g with target := n, gain := .opened, applied := n, ramp := none }
    else { g with target := n } := by
  simp only [Stage.retarget, h]

theorem keepOrStart_eq (p : RampPurpose) : g.keepOrStart now p =
    { g with ramp := if rampPurpose g = some p then g.ramp else some ⟨p, now + 1000 * g.record.interval p⟩ } := by
  unfold Stage.keepOrStart
  split
  · next r hramp =>
    have hruns : rampPurpose g = some p ↔ r.purpose = p := by simp [rampPurpose, hramp]
    simp only [hruns]
    split <;> rfl
  · next hramp =>
    have hruns : rampPurpose g ≠ some p := by simp [rampPurpose, hramp]
    rw [if_neg hruns]
    rfl

theorem retarget_soft (h : g.gain = .opened) (hmode : g.record.mode = .soft) :
    g.retarget now n = ({ g with target := n } : Stage).follow now := by
  simp only [Stage.retarget, h, hmode]

end

/-- Settles O34. -/
theorem targetAndItsChanges : Obligations.TargetAndItsChanges := by
  unfold Obligations.TargetAndItsChanges
  refine ⟨?target, fun g now n => ⟨fun hgain => ?_, fun hgain => ?_, fun hgain => ?_, fun hgain =>
    ⟨fun hmode => ?_, fun hmode => ⟨fun hsame => ?_, fun habove => ?_, fun hbelow => ?_⟩⟩⟩⟩
  case target =>
    rintro s st r rfl d f hbound hreached rfl
    rw [targetOf, contribution_eq hbound hreached, forceFloor_eq]
    rfl
  · simp only [Stage.retarget, hgain]
  · exact retarget_fading now n hgain
  · exact retarget_resuming now n hgain
  · simp only [Stage.retarget, hgain, hmode]
  · rw [retarget_soft now n hgain hmode, Stage.follow, if_pos hsame]
  · rw [retarget_soft now n hgain hmode, Stage.follow, if_neg habove.ne', if_pos habove, keepOrStart_eq]
    rfl
  · rw [retarget_soft now n hgain hmode, Stage.follow, if_neg hbelow.ne, if_neg (Nat.not_lt.mpr hbelow.le),
      keepOrStart_eq]
    rfl

end Sys2Proof.Machine
end

section
/-! PROOFS. Chapter 5 of the spec: SET STAGE and SET COUPLING (O35, O36). A SET STAGE does two things to its unit after
its record is stored: the effect of a change mode (`Stage.takeMode`) and a target change (`Stage.takeTarget`). What a
stage gains from either order of them is said once. -/

namespace Sys2Proof.Machine

/-! ## One stage of the state -/

/-- A state that agrees with another but for its stages, curfew unit, reports, links and orders. -/
theorem eq_with_stages {s t : State} (hnow : t.now = s.now) (hmode : t.mode = s.mode) (htime : t.timeBase = s.timeBase)
    (htables : t.tables = s.tables) (hzones : t.zones = s.zones) (hpool : t.pool = s.pool) (hpaths : t.paths = s.paths)
    (hlist : t.exceedances = s.exceedances) (hloop : t.loop = s.loop) (hpending : t.pending = s.pending) :
    t = { s with stages := t.stages, curfew := t.curfew, reports := t.reports, links := t.links, orders := t.orders } := by
  cases s
  cases t
  simp only at hnow hmode htime htables hzones hpool hpaths hlist hloop hpending
  subst hnow hmode htime htables hzones hpool hpaths hlist hloop hpending
  rfl

theorem stages_eq_set {b b' : Bank4 Stage} {st : StageId} (h : ∀ i, i ≠ st → b'.get i = b.get i) :
    b' = b.set st (b'.get st) := by
  refine Bank4.eq_of_get fun i => ?_
  rw [Bank4.get_set]
  split
  · next hi => rw [hi]
  · next hi => exact h i hi

theorem soonTest_curfew (s : State) (st : StageId) : (s.soonTest st).curfew =
    s.curfew.set st { s.curfew.get st with soonMinute := ((s.soonTest st).curfew.get st).soonMinute } := by
  unfold State.soonTest
  split
  · split
    · simp [Bank4.modify]
    · exact (Bank4.set_get _ _).symm
  · exact (Bank4.set_get _ _).symm

/-! ## The two effects of a SET STAGE (R93, R107) -/

/-- A unit whose change mode is written, where it is given (R107). -/
def Stage.takeMode (m : Option Nat) (g : Stage) : Stage :=
  match m with
  | none => g
  | some n => ({ g with record := { g.record with mode := changeModeOf n } } : Stage).settleMode

/-- A unit whose target is recomputed, where it is (R93). -/
def Stage.takeTarget (c : Bool) (now new : Nat) (g : Stage) : Stage :=
  if c = true ∧ new ≠ g.target then g.retarget now new else g

section
variable (g : Stage) (m : Option Nat) (c : Bool) (now new : Nat)

theorem takeMode_keeps : (g.takeMode m).record = { g.record with mode := (m.map changeModeOf).getD g.record.mode } ∧
    (g.takeMode m).reasons = g.reasons ∧ (g.takeMode m).target = g.target := by
  cases m <;> simp [Stage.takeMode]

theorem takeTarget_keeps : (g.takeTarget c now new).record = g.record ∧ (g.takeTarget c now new).reasons = g.reasons ∧
    (g.takeTarget c now new).target = if c then new else g.target := by
  unfold Stage.takeTarget
  split
  · next h => simp [h.1]
  · next h => cases c <;> simp_all

variable {g}

theorem retarget_opened (h : g.gain = .opened) : (g.retarget now new).gain = .opened := by
  have hfollow : ∀ g : Stage, g.gain = .opened → (g.follow now).gain = .opened := by
    intro g h
    simp only [Stage.follow, Stage.keepOrStart, Stage.start]
    (repeat' split) <;> exact h
  simp only [Stage.retarget, h]
  split
  · rfl
  · exact hfollow _ rfl

theorem takeMode_hard (h : g.gain = .opened) :
    g.takeMode (some 0) = { g with record := { g.record with mode := .hard }, applied := g.target, ramp := none } := by
  simp [Stage.takeMode, Stage.settleMode, h, changeModeOf]

/-- A unit at its target with its timer stopped, open and in HARD, stays so. -/
theorem takeTarget_hard (h : g.gain = .opened) (hmode : g.record.mode = .hard) (hat : g.applied = g.target)
    (hramp : g.ramp = none) :
    (g.takeTarget c now new).applied = (g.takeTarget c now new).target ∧ (g.takeTarget c now new).ramp = none := by
  unfold Stage.takeTarget
  split
  · simp [Stage.retarget, h, hmode]
  · exact ⟨hat, hramp⟩

/-- A change to HARD of an open unit settles it, before a target change and after it. -/
theorem settles_hard (h : g.gain = .opened) (first : Bool) {r : Stage}
    (hr : r = if first then (g.takeMode (some 0)).takeTarget c now new else (g.takeTarget c now new).takeMode (some 0)) :
    r.applied = r.target ∧ r.ramp = none := by
  subst hr
  cases first with
  | true =>
    rw [if_pos rfl, takeMode_hard h]
    exact takeTarget_hard c now new h rfl rfl rfl
  | false =>
    have hopen : (g.takeTarget c now new).gain = .opened := by
      unfold Stage.takeTarget
      split
      · exact retarget_opened now new h
      · exact h
    rw [if_neg (by decide), takeMode_hard hopen]
    exact ⟨rfl, rfl⟩

end

section
variable (s : State) (st : StageId) (f : SetStageFields)

theorem takeChangeMode_stages (m : Option Nat) :
    (s.takeChangeMode st m).stages = s.stages.modify st (Stage.takeMode m) := by
  cases m with
  | none => exact (Bank4.set_get _ _).symm
  | some n => exact changeStage_stages _ _ _

theorem takeFloor_stages : (s.takeFloor st f).stages =
    s.stages.modify st (Stage.takeTarget (f.failsafe.isSome || f.trim.isSome) s.now (targetOf s st)) := by
  unfold State.takeFloor
  split
  · next h =>
    rw [recomputeTarget_stages, recomputeTarget_get]
    refine congrArg (s.stages.set st) ?_
    rw [Stage.takeTarget]
    by_cases hsame : targetOf s st = (s.stages.get st).target
    · rw [if_pos hsame, if_neg (fun hne => hne.2 hsame)]
    · rw [if_neg hsame, if_pos ⟨h, hsame⟩]
  · next h =>
    have hkept : (s.stages.get st).takeTarget (f.failsafe.isSome || f.trim.isSome) s.now (targetOf s st) =
        s.stages.get st := if_neg fun hc => h hc.1
    rw [Bank4.modify, hkept, Bank4.set_get]

/-- The record stored, and nothing done about it yet. -/
def State.storeStage : State := s.takeOrder.2.onStage st fun g => { g with record := g.record.write f }

/-- The unit after a SET STAGE that is taken: its record stored, then its mode and its target in some order. -/
def State.stageWritten : Stage :=
  if s.takeOrder.1.modeFirst then
    (({ s.stages.get st with record := (s.stages.get st).record.write f } : Stage).takeMode f.changeMode).takeTarget
      (f.failsafe.isSome || f.trim.isSome) s.now (targetOf (s.storeStage st f) st)
  else
    (({ s.stages.get st with record := (s.stages.get st).record.write f } : Stage).takeTarget
      (f.failsafe.isSome || f.trim.isSome) s.now (targetOf (s.storeStage st f) st)).takeMode f.changeMode

theorem targetOf_takeChangeMode (m : Option Nat) (i : StageId) : targetOf (s.takeChangeMode st m) i = targetOf s i := by
  refine targetOf_eq_of_inputs ?_ (by simp) fun z _ => by simp [SameDemand.refl]
  rw [takeChangeMode_stages, Bank4.get_modify]
  split
  · next hi =>
    subst hi
    rw [(takeMode_keeps _ m).1]
    exact ⟨rfl, rfl, rfl⟩
  · exact .refl _

theorem takeStageRecord_eq : s.takeStageRecord st f =
    (fun t : State => if f.lead.isSome then t.soonTest st else t)
      (if s.takeOrder.1.modeFirst then ((s.storeStage st f).takeChangeMode st f.changeMode).takeFloor st f
      else ((s.storeStage st f).takeFloor st f).takeChangeMode st f.changeMode) := rfl

theorem storeStage_get : (s.storeStage st f).stages.get st =
    { s.stages.get st with record := (s.stages.get st).record.write f } := by
  simp [State.storeStage]

theorem storeStage_now : (s.storeStage st f).now = s.now := by simp [State.storeStage]

theorem takeStageRecord_stages : (s.takeStageRecord st f).stages = s.stages.set st (s.stageWritten st f) := by
  have hstored : (s.storeStage st f).stages =
      s.stages.set st { s.stages.get st with record := (s.stages.get st).record.write f } := by
    simp [State.storeStage, Bank4.modify]
  have hsoon : ∀ t : State, (if f.lead.isSome then t.soonTest st else t).stages = t.stages := by
    intro t
    split <;> simp
  rw [takeStageRecord_eq, hsoon, State.stageWritten]
  split
  · rw [takeFloor_stages, takeChangeMode_stages, targetOf_takeChangeMode, (takeChangeMode_frame _ _ _).1, storeStage_now, hstored]
    simp [Bank4.modify]
  · rw [takeChangeMode_stages, takeFloor_stages, storeStage_now, hstored]
    simp [Bank4.modify]

/-- What the unit holds after a SET STAGE that is taken, in either order. -/
theorem stageWritten_keeps : (s.stageWritten st f).record =
      { (s.stages.get st).record.write f with
        mode := (f.changeMode.map changeModeOf).getD (s.stages.get st).record.mode } ∧
    (s.stageWritten st f).reasons = (s.stages.get st).reasons ∧
    (s.stageWritten st f).target =
      if f.failsafe.isSome || f.trim.isSome then targetOf (s.storeStage st f) st else (s.stages.get st).target := by
  unfold State.stageWritten
  generalize hg : ({ s.stages.get st with record := (s.stages.get st).record.write f } : Stage) = g
  have hrecord : g.record = (s.stages.get st).record.write f := by rw [← hg]
  have hreasons : g.reasons = (s.stages.get st).reasons := by rw [← hg]
  have htarget : g.target = (s.stages.get st).target := by rw [← hg]
  have hmode : ((s.stages.get st).record.write f).mode = (s.stages.get st).record.mode := rfl
  split
  · obtain ⟨hrt, hst, htt⟩ := takeTarget_keeps (g.takeMode f.changeMode) (f.failsafe.isSome || f.trim.isSome) s.now
      (targetOf (s.storeStage st f) st)
    obtain ⟨hrm, hsm, htm⟩ := takeMode_keeps g f.changeMode
    exact ⟨by rw [hrt, hrm, hrecord, hmode], by rw [hst, hsm, hreasons], by rw [htt, htm, htarget]⟩
  · obtain ⟨hrt, hst, htt⟩ := takeTarget_keeps g (f.failsafe.isSome || f.trim.isSome) s.now
      (targetOf (s.storeStage st f) st)
    obtain ⟨hrm, hsm, htm⟩ := takeMode_keeps (g.takeTarget (f.failsafe.isSome || f.trim.isSome) s.now
      (targetOf (s.storeStage st f) st)) f.changeMode
    exact ⟨by rw [hrm, hrt, hrecord, hmode], by rw [hsm, hst, hreasons], by rw [htm, htt, htarget]⟩

theorem stageWritten_hard (h : (s.stages.get st).gain = .opened) (hmode : f.changeMode = some 0) :
    (s.stageWritten st f).applied = (s.stageWritten st f).target ∧ (s.stageWritten st f).ramp = none := by
  refine settles_hard (g := { s.stages.get st with record := (s.stages.get st).record.write f })
    (f.failsafe.isSome || f.trim.isSome) s.now (targetOf (s.storeStage st f) st) h s.takeOrder.1.modeFirst ?_
  rw [State.stageWritten, hmode]

theorem stageWritten_of_none (hfailsafe : f.failsafe = none) (htrim : f.trim = none) (hmode : f.changeMode = none) :
    s.stageWritten st f = { s.stages.get st with record := { (s.stages.get st).record.write f with
      mode := (f.changeMode.map changeModeOf).getD (s.stages.get st).record.mode } } := by
  have hkept : ∀ g : Stage, g.takeTarget (f.failsafe.isSome || f.trim.isSome) s.now (targetOf (s.storeStage st f) st) = g :=
    fun g => if_neg fun hc => by simp [hfailsafe, htrim] at hc
  unfold State.stageWritten
  rw [hmode]
  split <;> exact hkept _

theorem takeStageRecord_targetOf : targetOf (s.takeStageRecord st f) st = targetOf (s.storeStage st f) st := by
  refine targetOf_eq_of_inputs ?_ (by simp [State.storeStage]) fun z _ => by simp [State.storeStage, SameDemand.refl]
  rw [takeStageRecord_stages, Bank4.get_set_self, storeStage_get, (stageWritten_keeps s st f).1]
  exact ⟨rfl, rfl, rfl⟩

theorem takeStageRecord_curfew : (s.takeStageRecord st f).curfew =
      s.curfew.set st { s.curfew.get st with soonMinute := ((s.takeStageRecord st f).curfew.get st).soonMinute } ∧
    (f.lead = none → (s.takeStageRecord st f).curfew = s.curfew) := by
  rw [takeStageRecord_eq]
  generalize hstored : (if s.takeOrder.1.modeFirst then ((s.storeStage st f).takeChangeMode st f.changeMode).takeFloor st f
    else ((s.storeStage st f).takeFloor st f).takeChangeMode st f.changeMode) = t
  have hcurfew : t.curfew = s.curfew := by
    rw [← hstored]
    split <;> simp [State.storeStage]
  dsimp only
  split
  · next hlead =>
    refine ⟨?_, fun hnone => by simp [hnone] at hlead⟩
    rw [← hcurfew]
    exact soonTest_curfew t st
  · exact ⟨by rw [hcurfew, Bank4.set_get], fun _ => hcurfew⟩

end

/-! ## SET STAGE (R87, R190) -/

theorem stageRefusal_badValue {s : State} {st : StageId} {f : SetStageFields} (h : ∃ n ∈ f.changeMode, 2 ≤ n) :
    stageRefusal s st f = some .badValue := by
  obtain ⟨n, hn, hbeyond⟩ := h
  have hmode : f.changeMode = some n := hn
  simp only [stageRefusal, hmode, Option.map_some, Option.getD_some]
  exact if_pos (decide_eq_true hbeyond)

theorem changeMode_fits {f : SetStageFields} (h : ∀ n ∈ f.changeMode, n ≤ 1) :
    (f.changeMode.map fun n => decide (1 < n)).getD false = false := by
  cases hmode : f.changeMode with
  | none => rfl
  | some n => simpa using h n hmode

theorem stageRefusal_showLock {s : State} {st : StageId} {f : SetStageFields} (hfit : ∀ n ∈ f.changeMode, n ≤ 1)
    (hshow : s.mode = .show) (h : ∃ n ∈ f.failsafe, min 96 n < (s.stages.get st).record.failsafe) :
    stageRefusal s st f = some .showLock := by
  obtain ⟨n, hn, hlower⟩ := h
  have hfailsafe : f.failsafe = some n := hn
  have hlocked : decide (clampTo 0 96 n < (s.stages.get st).record.failsafe) = true :=
    decide_eq_true (by rwa [clampTo_zero])
  simp only [stageRefusal, changeMode_fits hfit, hshow, Mode.isShow, hfailsafe, Option.map_some, Option.getD_some, hlocked]
  rfl

theorem stageRefusal_none {s : State} {st : StageId} {f : SetStageFields} (hfit : ∀ n ∈ f.changeMode, n ≤ 1)
    (h : s.mode = .setup ∨ ∀ n ∈ f.failsafe, (s.stages.get st).record.failsafe ≤ min 96 n) :
    stageRefusal s st f = none := by
  rcases h with hsetup | hkept
  · simp [stageRefusal, changeMode_fits hfit, hsetup, Mode.isShow]
  · cases hfailsafe : f.failsafe with
    | none => simp [stageRefusal, changeMode_fits hfit, hfailsafe]
    | some n =>
      have hopen : decide (clampTo 0 96 n < (s.stages.get st).record.failsafe) = false :=
        decide_eq_false (by rw [clampTo_zero]; exact Nat.not_lt.mpr (hkept n hfailsafe))
      simp only [stageRefusal, changeMode_fits hfit, hfailsafe, Option.map_some, Option.getD_some, hopen, Bool.and_false,
        Bool.false_eq_true, if_false]

/-- Settles O35: `stageRefusal` answers the refusals, and `stageWritten` is the unit of a request that is taken. -/
theorem setStageRequest : Obligations.SetStageRequest := by
  unfold Obligations.SetStageRequest
  intro s f hidle
  refine ⟨fun n hn => completes_of rfl hidle (forStage_beyond hn _ _) rfl, ?_⟩
  rintro st g rfl
  have hrefused : ∀ code, stageRefusal s st f = some code →
      completes (.setStage st.val f) .officer s s 0x99#8 (stageRecordReply code s st) := fun code hcode =>
    completes_of rfl hidle (by
      show serveSetStage st.val f s = _
      rw [serveSetStage, forStage_val, hcode]) rfl
  refine ⟨fun hbad => hrefused _ (stageRefusal_badValue hbad), fun hfit =>
    ⟨fun hshow hlower => hrefused _ (stageRefusal_showLock hfit hshow hlower), ?_⟩⟩
  rintro hkept r rfl
  have hserve : serveSetStage st.val f s = (s.takeStageRecord st f, stageRecordReply .ok (s.takeStageRecord st f) st) := by
    rw [serveSetStage, forStage_val, stageRefusal_none hfit hkept]
  have hstages := takeStageRecord_stages s st f
  have htarget := takeStageRecord_targetOf s st f
  obtain ⟨hcurfew, hlead⟩ := takeStageRecord_curfew s st f
  have hframe := takeStageRecord_frame s st f
  obtain ⟨hrecord, hreasons, hheld⟩ := stageWritten_keeps s st f
  have hhard := stageWritten_hard s st f
  have hnone := stageWritten_of_none s st f
  rw [← htarget] at hheld
  generalize s.takeStageRecord st f = u at hserve hstages hcurfew hlead hframe hheld
  generalize s.stageWritten st f = h at hstages hrecord hreasons hheld hhard hnone
  have hget : u.stages.get st = h := by rw [hstages, Bank4.get_set_self]
  subst hget
  obtain ⟨hnow, hmode, htime, htables, hzones, hpool, hpaths, hlist, hloop, -, hpending⟩ := hframe
  refine leadsTo_of (completes_of rfl hidle hserve rfl) ⟨?frame, hstages, hrecord, hreasons, ?target, hhard, hnone, hcurfew,
    hlead, sentReply_send _ _ _ _⟩
  case frame => exact eq_with_stages hnow hmode htime htables hzones hpool hpaths hlist hloop hpending
  case target =>
    simp only [Bool.or_eq_true] at hheld
    exact hheld

end Sys2Proof.Machine
end

section
/-! PROOFS. Chapter 5 of the spec: SET COUPLING (O36). The value is stored and the target recomputed
(`State.storeCoupling`); where the coupling has left 0 or reached it, the curfew unit then moves the zone. -/

namespace Sys2Proof.Machine

section
variable (s : State) (st : StageId) (z : ZoneId) (v : Nat)

/-- The value stored and the target recomputed (R89, R93). -/
def State.storeCoupling : State :=
  (s.onStage st fun g => { g with record := { g.record with coupling := g.record.coupling.set z v } }).recomputeTarget st

theorem takeCoupling_eq : s.takeCoupling st z v =
    if coupled (s.storeCoupling st z v) st z = coupled s st z then s.storeCoupling st z v
    else ((s.storeCoupling st z v).couplingMove st z).recomputeOnsets := rfl

theorem storeCoupling_stage :
    ((s.storeCoupling st z v).stages.get st).record =
      { (s.stages.get st).record with coupling := (s.stages.get st).record.coupling.set z v } ∧
    ((s.storeCoupling st z v).stages.get st).target = targetOf (s.storeCoupling st z v) st ∧
    (∀ i, i ≠ st → (s.storeCoupling st z v).stages.get i = s.stages.get i) := by
  refine ⟨by simp [State.storeCoupling], by simp [State.storeCoupling], fun i hi => ?_⟩
  rw [State.storeCoupling, recomputeTarget_get_ne _ hi]
  simp [hi]

theorem storeCoupling_coupled : coupled (s.storeCoupling st z v) st z = decide (0 < v) := by
  rw [coupled, (storeCoupling_stage s st z v).1, Bank8.get_set_self]

theorem storeCoupling_frame : (s.storeCoupling st z v).curfew = s.curfew ∧ (s.storeCoupling st z v).zones = s.zones ∧
    (s.storeCoupling st z v).tables = s.tables ∧ (s.storeCoupling st z v).timeBase = s.timeBase := by
  simp [State.storeCoupling]

/-- The set of a stage after the curfew unit's part in a coupling that has moved (R114). -/
theorem couplingMove_zones :
    ((s.couplingMove st z).curfew.get st).zones =
      if coupled s st z = true then
        if (s.zones.get z).enabled = true ∧ (s.tables.get z).inForce.kind.isCurfew = true then
          (s.curfew.get st).zones.set z true
        else (s.curfew.get st).zones
      else (s.curfew.get st).zones.set z false := by
  unfold State.couplingMove
  split
  · simp only [Bool.and_eq_true]
    split
    · rw [zoneJoins_zones, if_pos rfl]
    · rfl
  · rw [zoneLeaves_zones, if_pos rfl]

theorem couplingMove_others {i : StageId} (h : i ≠ st) :
    (s.couplingMove st z).stages.get i = s.stages.get i ∧ (s.couplingMove st z).curfew.get i = s.curfew.get i := by
  unfold State.couplingMove
  split
  · split
    · exact zoneJoins_others s z h
    · exact ⟨rfl, rfl⟩
  · exact zoneLeaves_others s z h

theorem takeCoupling_moved : CurfewMoved (s.storeCoupling st z v).stages (s.takeCoupling st z v).stages := by
  rw [takeCoupling_eq]
  split
  · exact .refl _
  · exact curfewMoved_recomputeOnsets (curfewMoved_couplingMove st z (.refl _))

theorem takeCoupling_stage :
    ((s.takeCoupling st z v).stages.get st).record =
      { (s.stages.get st).record with coupling := (s.stages.get st).record.coupling.set z v } ∧
    ((s.takeCoupling st z v).stages.get st).target = targetOf (s.takeCoupling st z v) st := by
  obtain ⟨hrecord, htarget, -⟩ := storeCoupling_stage s st z v
  obtain ⟨hkept, hheld⟩ := (takeCoupling_moved s st z v st).keeps
  obtain ⟨-, hzones, -, htime⟩ := storeCoupling_frame s st z v
  refine ⟨hkept.trans hrecord, hheld.trans (htarget.trans ?_)⟩
  exact (targetOf_congr hkept (by rw [hzones]; simp) (by rw [htime]; simp)).symm

theorem takeCoupling_others {i : StageId} (h : i ≠ st) :
    (s.takeCoupling st z v).stages.get i = s.stages.get i ∧
    ((s.takeCoupling st z v).curfew.get i).zones = (s.curfew.get i).zones := by
  have hstored := (storeCoupling_stage s st z v).2.2 i h
  have hcurfew := (storeCoupling_frame s st z v).1
  rw [takeCoupling_eq]
  split
  · exact ⟨hstored, by rw [hcurfew]⟩
  · obtain ⟨hstage, hset⟩ := couplingMove_others (s.storeCoupling st z v) st z h
    refine ⟨?_, ?_⟩
    · simp only [recomputeOnsets_frame]
      exact hstage.trans hstored
    · rw [(recomputeOnsets_sets _ _).1, hset, hcurfew]

/-- The set follows a coupling that rises from 0 or falls to 0, and no other. -/
theorem takeCoupling_zones : ((s.takeCoupling st z v).curfew.get st).zones =
    if 0 < v ∧ (s.stages.get st).record.coupling.get z = 0 ∧ (s.zones.get z).enabled = true ∧
        (s.tables.get z).inForce.kind.isCurfew = true then
      (s.curfew.get st).zones.set z true
    else if v = 0 ∧ 0 < (s.stages.get st).record.coupling.get z then (s.curfew.get st).zones.set z false
    else (s.curfew.get st).zones := by
  obtain ⟨hcurfew, hzones, htables, -⟩ := storeCoupling_frame s st z v
  rw [takeCoupling_eq, storeCoupling_coupled, coupled]
  generalize (s.stages.get st).record.coupling.get z = c
  have hmoved := couplingMove_zones (s.storeCoupling st z v) st z
  rw [storeCoupling_coupled, hcurfew, hzones, htables] at hmoved
  split
  · next hsame =>
    have hsame : 0 < v ↔ 0 < c := decide_eq_decide.mp hsame
    rw [hcurfew, if_neg (fun h => absurd (hsame.mp h.1) (by omega)), if_neg (fun h => absurd (hsame.mpr h.2) (by omega))]
  · next hchanged =>
    have hchanged : ¬(0 < v ↔ 0 < c) := fun h => hchanged (decide_eq_decide.mpr h)
    rw [(recomputeOnsets_sets _ _).1, hmoved]
    by_cases hrisen : 0 < v
    · have hzero : c = 0 := by omega
      simp [hrisen, hzero]
    · have hfallen : v = 0 ∧ 0 < c := by omega
      simp [hfallen]

end

/-- Settles O36. -/
theorem setCouplingRequest : Obligations.SetCouplingRequest := by
  unfold Obligations.SetCouplingRequest
  rintro s value hidle v rfl
  refine ⟨fun n m hbeyond => completes_of rfl hidle ?_ rfl, ?_⟩
  · show serveSetCoupling n m value s = _
    rw [serveSetCoupling]
    by_cases hn : 4 ≤ n
    · exact forStage_beyond hn _ _
    · have hm : 8 ≤ m := hbeyond.resolve_left hn
      rw [forStage_val ⟨n, Nat.lt_of_not_le hn⟩, forZone_beyond hm]
  rintro st z g rfl
  have hclamp : clampTo 0 100 value = min 100 value := clampTo_zero 100 value
  refine ⟨fun hshow hfalls => completes_of rfl hidle ?_ rfl, fun hkept => ?_⟩
  · show serveSetCoupling st.val z.val value s = _
    simp only [serveSetCoupling, forStage_val, forZone_val, hclamp, hshow, Mode.isShow, hfalls, decide_true, Bool.and_self,
      if_true]
  have hopen : (s.mode.isShow && decide (min 100 value < (s.stages.get st).record.coupling.get z)) = false := by
    rcases hkept with hsetup | hrises
    · rw [hsetup]
      rfl
    · rw [decide_eq_false (Nat.not_lt.mpr hrises), Bool.and_false]
  have hserve : serveSetCoupling st.val z.val value s =
      (s.takeCoupling st z (min 100 value), couplingReply .ok (s.takeCoupling st z (min 100 value)) st) := by
    simp only [serveSetCoupling, forStage_val, forZone_val, hclamp, hopen, Bool.false_eq_true, if_false]
  obtain ⟨hrecord, htarget⟩ := takeCoupling_stage s st z (min 100 value)
  have hothers := fun i => takeCoupling_others s st z (min 100 value) (i := i)
  have hzones := takeCoupling_zones s st z (min 100 value)
  have hframe := takeCoupling_frame s st z (min 100 value)
  generalize s.takeCoupling st z (min 100 value) = u at hserve hrecord htarget hothers hzones hframe
  obtain ⟨hnow, hmode, htime, htables, haccounts, hpaths, hlist, hloop, -⟩ := hframe
  exact leadsTo_of (completes_of rfl hidle hserve rfl) ⟨hrecord, htarget, hothers, hzones, sentReply_send _ _ _ _,
    haccounts, htables, htime, hlist, hloop, hpaths, hmode, hnow⟩

end Sys2Proof.Machine
end

section
/-! PROOFS. Chapter 6 of the spec: ENCORE END, the encore pool and the show (O38, O39), and the grants at a second
mark (O40). The end of a RUNNING grant in curfew is said once (`endGrantInCurfew_stage`, `endGrantInCurfew_notices`). -/

namespace Sys2Proof.Machine

/-- Two states with the same items are one. -/
theorem state_ext {s t : State} (hnow : s.now = t.now) (hmode : s.mode = t.mode) (htime : s.timeBase = t.timeBase)
    (htables : s.tables = t.tables) (hzones : s.zones = t.zones) (hstages : s.stages = t.stages) (hpool : s.pool = t.pool)
    (hcurfew : s.curfew = t.curfew) (hpaths : s.paths = t.paths) (hlist : s.exceedances = t.exceedances)
    (hreports : s.reports = t.reports) (hloop : s.loop = t.loop) (hlinks : s.links = t.links)
    (horders : s.orders = t.orders) (hpending : s.pending = t.pending) : s = t := by
  cases s
  cases t
  simp only at hnow hmode htime htables hzones hstages hpool hcurfew hpaths hlist hreports hloop hlinks horders hpending
  subst hnow hmode htime htables hzones hstages hpool hcurfew hpaths hlist hreports hloop hlinks horders hpending
  rfl

/-! ## The end of a RUNNING grant in curfew (R121) -/

section
variable (s : State) (st : StageId)

theorem curfewFalls_eq : s.curfewFalls st =
    { s with stages := s.stages.modify st (Stage.addCurfew s.now), links := (s.curfewFalls st).links } :=
  state_ext (by simp) (by simp) (by simp) (by simp) (by simp) (by simp [State.curfewFalls]) (by simp) (by simp) (by simp)
    (by simp) (by simp) (by simp) rfl (by simp) (by simp)

theorem curfewFalls_notice : noticeAt (.desk st) 3 (s.curfewFalls st) = true :=
  (noticeAt_raiseDesk_self _ st .curfewNow (by decide)).trans (Bool.or_true _)

theorem endGrantInCurfew_eq : s.endGrantInCurfew st =
    { s with
      curfew := s.curfew.modify st Curfew.endGrant
      stages := s.stages.modify st (Stage.addCurfew s.now)
      links := (s.endGrantInCurfew st).links } :=
  state_ext (by simp) (by simp) (by simp) (by simp) (by simp) (by simp [State.endGrantInCurfew, State.curfewFalls])
    (by simp) (by simp [State.endGrantInCurfew]) (by simp) (by simp) (by simp) (by simp) rfl (by simp) (by simp)

theorem endGrantInCurfew_notices : noticeAt (.desk st) 3 (s.endGrantInCurfew st) = true ∧
    noticeAt .officer 8 (s.endGrantInCurfew st) = true :=
  ⟨(noticeAt_desk_raiseOfficer _ _ _ _).trans (curfewFalls_notice (s.onCurfew st Curfew.endGrant) st),
    raiseOfficer_notice _ .encore⟩

theorem endGrantInCurfew_stage :
    (s.endGrantInCurfew st).curfew.get st = { s.curfew.get st with grant := .none, endSoon := false } ∧
    (s.endGrantInCurfew st).stages.get st = Stage.addCurfew s.now (s.stages.get st) := by
  rw [endGrantInCurfew_eq]
  exact ⟨Bank4.get_modify_self _ _ _, Bank4.get_modify_self _ _ _⟩

theorem endGrantInCurfew_others {i : StageId} (h : i ≠ st) :
    (s.endGrantInCurfew st).curfew.get i = s.curfew.get i ∧ (s.endGrantInCurfew st).stages.get i = s.stages.get i := by
  rw [endGrantInCurfew_eq]
  simp [h]

end

/-! ## ENCORE END (R123) -/

/-- A RUNNING grant that returns minutes and ends in curfew. -/
theorem returnAndEnd_eq (s : State) (st : StageId) (m : Nat) : (s.returnMinutes st m).endGrantInCurfew st =
    { s with
      pool := min 30 (s.pool + m)
      curfew := s.curfew.set st { s.curfew.get st with
        grant := .none, endSoon := false, total := (s.curfew.get st).total - m }
      stages := s.stages.set st (Stage.addCurfew s.now (s.stages.get st))
      links := ((s.returnMinutes st m).endGrantInCurfew st).links } := by
  rw [endGrantInCurfew_eq]
  refine state_ext rfl rfl rfl rfl rfl rfl rfl ?_ rfl rfl rfl rfl rfl rfl rfl
  simp [State.returnMinutes, State.onCurfew, Bank4.modify, Curfew.endGrant]

/-- What a reply on a desk link leaves of a state given item by item. -/
theorem send_desk_eq {s u : State} {st : StageId} {message : List Byte} {pool : Nat} {curfew : Bank4 Curfew}
    {stages : Bank4 Stage} (h : u = { s with pool := pool, curfew := curfew, stages := stages, links := u.links }) :
    u.send (.desk st) message =
      { s with pool := pool, curfew := curfew, stages := stages, links := (u.send (.desk st) message).links } := by
  rw [h]
  exact state_ext rfl rfl rfl rfl rfl rfl rfl rfl rfl rfl rfl rfl rfl rfl rfl

/-- Settles O38: each grant has its own form of `State.serveEncoreEnd`. -/
theorem encoreEndRequest : Obligations.EncoreEndRequest := by
  unfold Obligations.EncoreEndRequest
  rintro s st hidle c rfl
  have hserve : ∀ code m u, s.serveEncoreEnd st = (code, m, u) → serveEncoreEnd st s = (u, encoreEndReply code m u st) := by
    intro code m u h
    rw [serveEncoreEnd, h]
  refine ⟨fun hgrant => ?none, ?booked, ?running⟩
  case none =>
    refine completes_of rfl hidle ((hserve .notNow 0 s ?_).trans ?_) rfl
    · rw [State.serveEncoreEnd, hgrant]
    · simp only [encoreEndReply, hgrant]
      rfl
  case booked =>
    rintro m hgrant b rfl u rfl
    refine completes_of rfl hidle ((hserve .ok m _ (by rw [State.serveEncoreEnd, hgrant])).trans ?_) rfl
    refine congrArg₂ Prod.mk ?_ ?_
    · simp [State.returnMinutes, State.onCurfew, Bank4.modify, Curfew.endGrant, Config.maxPool]
    · simp only [encoreEndReply, raiseOfficer_curfew, raiseOfficer_pool, onCurfew_curfew, Bank4.get_modify_self]
      simp [State.returnMinutes, Curfew.endGrant, Grant.position, minuteByte, Config.maxPool, ReplyCode.byte,
        ReplyCode.value, byteOf]
  case running =>
    rintro minutes e m hgrant rfl b rfl
    have hleft : secondsLeft s st / 60 = tagDistance e s.timeBase.tag / 60 := by rw [secondsLeft_of_running hgrant]
    generalize tagDistance e s.timeBase.tag / 60 = m at hleft
    have heq := returnAndEnd_eq s st m
    obtain ⟨hdesk, hofficer⟩ := endGrantInCurfew_notices (s.returnMinutes st m) st
    have htaken := hserve .ok m ((s.returnMinutes st m).endGrantInCurfew st) (by
      simp only [State.serveEncoreEnd, hgrant, hleft])
    generalize (s.returnMinutes st m).endGrantInCurfew st = u at heq hdesk hofficer htaken
    have hreply : encoreEndReply .ok m u st = [0#8, if m ≤ 255 then byteOf m else Config.minutesByte m, 0#8,
        byteOf (min 30 (s.pool + m)), byteOf ((s.curfew.get st).total - m)] := by
      have hpool : u.pool = min 30 (s.pool + m) := by rw [heq]
      have hcurfew : u.curfew.get st = { s.curfew.get st with
          grant := .none, endSoon := false, total := (s.curfew.get st).total - m } := by
        rw [heq]
        exact Bank4.get_set_self _ _ _
      simp only [encoreEndReply, hpool, hcurfew]
      rfl
    rw [hreply] at htaken
    exact leadsTo_of (completes_of rfl hidle htaken rfl) ⟨send_desk_eq heq, (noticeAt_send _ _ _ _ _).trans hdesk,
      (noticeAt_send _ _ _ _ _).trans hofficer, sentReply_send _ _ _ _⟩

/-! ## SET POOL, ARM SHOW and END SHOW (R118, R126, R187, R189) -/

theorem hasActiveUnit_iff {s : State} {z : ZoneId} : hasActiveUnit s z = true ↔
    ∃ a : SlotId, (s.loop.slots.get a).zone = some z ∧ s.loop.slotState a = .active := by
  rw [hasActiveUnit, Bank8.any_toList]
  simp [Loop.slotState]

theorem unservedZones_iff (s : State) : noZone (unservedZones s) = true ↔ ∀ z : ZoneId,
    (s.zones.get z).enabled = true → ∃ a : SlotId, (s.loop.slots.get a).zone = some z ∧ s.loop.slotState a = .active := by
  rw [noZone_iff]
  refine forall_congr' fun z => ?_
  rw [unservedZones, Bank8.get_ofFn, Bool.and_eq_false_iff, Bool.not_eq_false', hasActiveUnit_iff]
  cases (s.zones.get z).enabled <;> simp

theorem mayArm_iff (s : State) : mayArm s = true ↔ s.timeBase.state ≠ .unset ∧ ∀ z : ZoneId,
    (s.zones.get z).enabled = true → ∃ a : SlotId, (s.loop.slots.get a).zone = some z ∧ s.loop.slotState a = .active := by
  rw [mayArm, Bool.and_eq_true, decide_eq_true_eq, unservedZones_iff]

section
variable (s : State) (st : StageId)

theorem endShowGrant_of_none (h : (s.curfew.get st).grant = .none) : s.endShowGrant st = s := by
  rw [State.endShowGrant, h]

theorem endShowGrant_of_booked {m : Nat} (h : (s.curfew.get st).grant = .booked m) :
    s.endShowGrant st = (s.onCurfew st Curfew.endGrant).raiseOfficer .encore := by
  rw [State.endShowGrant, h]

theorem endShowGrant_of_running (h : (s.curfew.get st).grant.isRunning = true) :
    s.endShowGrant st = s.endGrantInCurfew st := by
  unfold State.endShowGrant
  cases hgrant : (s.curfew.get st).grant with
  | none => simp [hgrant, Grant.isRunning] at h
  | booked m => simp [hgrant, Grant.isRunning] at h
  | running m e => rfl

theorem endShowGrant_others {i : StageId} (h : i ≠ st) :
    (s.endShowGrant st).curfew.get i = s.curfew.get i ∧ (s.endShowGrant st).stages.get i = s.stages.get i := by
  unfold State.endShowGrant
  split
  · exact ⟨rfl, rfl⟩
  · simp [h]
  · exact endGrantInCurfew_others s st h

theorem raises_endShowGrant {k : Links} (h : Raises k s.links) : Raises k (s.endShowGrant st).links := by
  unfold State.endShowGrant
  split
  · exact h
  · exact raises_raiseOfficer _ h
  · exact raises_endGrantInCurfew st h

/-- What the end of the show makes of one stage's grant. -/
def grantEnded (s t : State) (st : StageId) : Prop :=
  ((s.curfew.get st).grant = .none → t.curfew.get st = s.curfew.get st ∧ t.stages.get st = s.stages.get st) ∧
  ((s.curfew.get st).grant ≠ .none →
    t.curfew.get st = { s.curfew.get st with grant := .none, endSoon := false } ∧ noticeAt .officer 8 t = true) ∧
  ((s.curfew.get st).grant.isRunning = true →
    t.stages.get st = Stage.addCurfew s.now (s.stages.get st) ∧ noticeAt (.desk st) 3 t = true) ∧
  ((s.curfew.get st).grant.isRunning = false → t.stages.get st = s.stages.get st)

theorem endShowGrant_ends : grantEnded s (s.endShowGrant st) st := by
  cases hgrant : (s.curfew.get st).grant with
  | none =>
    rw [endShowGrant_of_none s st hgrant]
    exact ⟨fun _ => ⟨rfl, rfl⟩, fun h => absurd hgrant h, fun h => by simp [hgrant, Grant.isRunning] at h, fun _ => rfl⟩
  | booked m =>
    rw [endShowGrant_of_booked s st hgrant]
    exact ⟨fun h => by simp [hgrant] at h, fun _ => ⟨Bank4.get_modify_self _ _ _, raiseOfficer_notice _ .encore⟩,
      fun h => by simp [hgrant, Grant.isRunning] at h, fun _ => rfl⟩
  | running m e =>
    have hrunning : (s.curfew.get st).grant.isRunning = true := by rw [hgrant]; rfl
    rw [endShowGrant_of_running s st hrunning]
    obtain ⟨hcurfew, hstage⟩ := endGrantInCurfew_stage s st
    obtain ⟨hdesk, hofficer⟩ := endGrantInCurfew_notices s st
    exact ⟨fun h => by simp [hgrant] at h, fun _ => ⟨hcurfew, hofficer⟩, fun _ => ⟨hstage, hdesk⟩,
      fun h => by simp [hrunning] at h⟩

theorem grantEnded_congr {s s' t t' : State} {st : StageId} (h : grantEnded s t st)
    (hs : s'.curfew.get st = s.curfew.get st ∧ s'.stages.get st = s.stages.get st ∧ s'.now = s.now)
    (ht : t'.curfew.get st = t.curfew.get st ∧ t'.stages.get st = t.stages.get st)
    (hnotices : ∀ l n, noticeAt l n t = true → noticeAt l n t' = true) :
    grantEnded s' t' st := by
  obtain ⟨hnone, hgrant, hrunning, hwaiting⟩ := h
  obtain ⟨hcurfew, hstage, hnow⟩ := hs
  obtain ⟨hcurfew', hstage'⟩ := ht
  simp only [grantEnded, hcurfew, hstage, hnow, hcurfew', hstage']
  exact ⟨hnone, fun h => ⟨(hgrant h).1, hnotices _ _ (hgrant h).2⟩,
    fun h => ⟨(hrunning h).1, hnotices _ _ (hrunning h).2⟩, hwaiting⟩

theorem endShowGrants_ended : grantEnded s (s.eachStage State.endShowGrant) st := by
  refine eachStage_establishes
    (P := fun t => t.curfew.get st = s.curfew.get st ∧ t.stages.get st = s.stages.get st ∧ t.now = s.now)
    (Q := fun t => grantEnded s t st) st ⟨rfl, rfl, rfl⟩ ?_ ?_ ?_
  · rintro j t hj ⟨hcurfew, hstage, hnow⟩
    obtain ⟨hcurfew', hstage'⟩ := endShowGrant_others t j hj.symm
    exact ⟨hcurfew'.trans hcurfew, hstage'.trans hstage, by simp [hnow]⟩
  · rintro t ⟨hcurfew, hstage, hnow⟩
    exact grantEnded_congr (endShowGrant_ends t st) ⟨hcurfew.symm, hstage.symm, hnow.symm⟩ ⟨rfl, rfl⟩ fun _ _ h => h
  · intro j t hj ht
    exact grantEnded_congr ht ⟨rfl, rfl, rfl⟩ (endShowGrant_others t j hj.symm) fun _ _ =>
      (raises_endShowGrant t j (.refl _)).noticeAt

end

/-- Settles O39: `mayArm` decides an arming, and the end of a show ends each stage's grant. -/
theorem poolAndShowRequests : Obligations.PoolAndShowRequests := by
  unfold Obligations.PoolAndShowRequests
  intro s hidle
  refine ⟨?pool, fun hshow => completes_of rfl hidle ?held rfl, fun hsetup => ⟨fun hnot => completes_of rfl hidle ?notNow rfl,
    fun hset hserved => completes_of rfl hidle ?armed rfl⟩, ?ended⟩
  case pool =>
    rintro m u rfl
    exact completes_of rfl hidle rfl rfl
  case held =>
    show serveArmShow s = _
    rw [serveArmShow, hshow]
    rfl
  case notNow =>
    have hrefused : mayArm s = false := by
      rw [← Bool.not_eq_true, mayArm_iff]
      rintro ⟨hset, hserved⟩
      rcases hnot with hunset | ⟨z, henabled, hnone⟩
      · exact hset hunset
      · obtain ⟨a, ha, hactive⟩ := hserved z henabled
        exact hnone a ha hactive
    show serveArmShow s = _
    rw [serveArmShow, hsetup, hrefused]
    rfl
  case armed =>
    have hall := (unservedZones_iff s).mpr hserved
    have hmask : unservedZones s = Bank8.fill false := by
      refine Bank8.eq_of_get fun z => ?_
      rw [noZone_iff.mp hall z, Bank8.get_fill]
    show serveArmShow s = _
    rw [serveArmShow, hsetup, (mayArm_iff s).mpr ⟨hset, hserved⟩]
    have hkept : unservedZones { s with mode := .show } = Bank8.fill false := hmask
    refine congrArg (Prod.mk _) ?_
    simp only [armReply, hkept, hset, decide_false]
    rfl
  case ended =>
    have hgrants := fun st => endShowGrants_ended { s with mode := .setup } st
    have hframe := endShowGrants_frame { s with mode := .setup }
    have hserve : serveEndShow s = (({ s with mode := .setup } : State).eachStage State.endShowGrant,
        endShowReply (grantCount s) (({ s with mode := .setup } : State).eachStage State.endShowGrant)) := rfl
    generalize ({ s with mode := .setup } : State).eachStage State.endShowGrant = u at hgrants hframe hserve
    obtain ⟨hnow, hmode, htime, htables, hzones, hpool, hpaths, hlist, hloop, horders, -, hpending⟩ := hframe
    have hreply : endShowReply (grantCount s) u = [0#8, 0#8, byteOf (grantCount s), byteOf s.pool] := by
      rw [endShowReply, hmode, hpool]
      rfl
    rw [hreply] at hserve
    refine leadsTo_of (completes_of rfl hidle hserve rfl) ⟨state_ext hnow hmode htime htables hzones rfl hpool rfl hpaths
      hlist rfl hloop rfl horders hpending, ?_, sentReply_send _ _ _ _⟩
    rintro st c rfl
    exact grantEnded_congr (hgrants st) ⟨rfl, rfl, rfl⟩ ⟨rfl, rfl⟩ fun _ _ h => (noticeAt_send _ _ _ _ _).trans h

/-! ## The grants at a second mark (R122) -/

section
variable (s : State) (st : StageId)

/-- What a mark's turn of the grants makes of one stage's. -/
def grantMarked (s t : State) (st : StageId) : Prop :=
  ((s.curfew.get st).grant.isRunning = false → t.curfew.get st = s.curfew.get st) ∧
  ∀ minutes e : Nat, (s.curfew.get st).grant = .running minutes e →
    (e = t.timeBase.tag →
      t.curfew.get st = { s.curfew.get st with grant := .none, endSoon := false } ∧
      (t.stages.get st).reasons = { (s.stages.get st).reasons with curfew := true } ∧
      noticeAt (.desk st) 3 t = true ∧ noticeAt .officer 8 t = true) ∧
    (e ≠ t.timeBase.tag →
      t.curfew.get st = { s.curfew.get st with
        endSoon := (s.curfew.get st).endSoon || decide (tagDistance e t.timeBase.tag ≤ 60) } ∧
      (t.stages.get st).reasons = (s.stages.get st).reasons ∧
      ((s.curfew.get st).endSoon = false → tagDistance e t.timeBase.tag ≤ 60 → noticeAt (.desk st) 4 t = true))

theorem grantMarked_congr {s s' t t' : State} {st : StageId} (h : grantMarked s t st)
    (hs : s'.curfew.get st = s.curfew.get st ∧ (s'.stages.get st).reasons = (s.stages.get st).reasons)
    (ht : t'.curfew.get st = t.curfew.get st ∧ (t'.stages.get st).reasons = (t.stages.get st).reasons ∧
      t'.timeBase = t.timeBase)
    (hnotices : ∀ l n, noticeAt l n t = true → noticeAt l n t' = true) : grantMarked s' t' st := by
  obtain ⟨hidle, hrunning⟩ := h
  obtain ⟨hcurfew, hstage⟩ := hs
  obtain ⟨hcurfew', hstage', htime⟩ := ht
  simp only [grantMarked, hcurfew, hstage, hcurfew', hstage', htime]
  refine ⟨hidle, fun minutes e hgrant => ?_⟩
  obtain ⟨hends, hruns⟩ := hrunning minutes e hgrant
  refine ⟨fun he => ?_, fun he => ?_⟩
  · obtain ⟨hc, hr, hdesk, hofficer⟩ := hends he
    exact ⟨hc, hr, hnotices _ _ hdesk, hnotices _ _ hofficer⟩
  · obtain ⟨hc, hr, hsoon⟩ := hruns he
    exact ⟨hc, hr, fun hfirst hleft => hnotices _ _ (hsoon hfirst hleft)⟩

theorem endSoonTest_notice {minutes e : Nat} (hgrant : (s.curfew.get st).grant = .running minutes e)
    (hfirst : (s.curfew.get st).endSoon = false) (hleft : tagDistance e s.timeBase.tag ≤ 60) :
    noticeAt (.desk st) 4 (s.endSoonTest st) = true := by
  rw [noticeAt_endSoonTest hgrant]
  simp [hfirst, hleft]

theorem grantMark_marks : grantMarked s (s.grantMark st) st := by
  refine ⟨fun hidle => by rw [grantMark_of_idle hidle], fun minutes e hgrant => ⟨fun he => ?_, fun he => ?_⟩⟩
  · have hends : s.grantMark st = s.endGrantInCurfew st := by
      rw [(grantMark_frame s st).2.2.1] at he
      unfold State.grantMark
      rw [hgrant]
      exact if_pos he.symm
    obtain ⟨hcurfew, hstage⟩ := endGrantInCurfew_stage s st
    obtain ⟨hdesk, hofficer⟩ := endGrantInCurfew_notices s st
    rw [hends, hstage]
    exact ⟨hcurfew, (addCurfew_keeps _ _).2.1, hdesk, hofficer⟩
  · have htime : (s.grantMark st).timeBase = s.timeBase := by simp
    rw [htime] at he ⊢
    have hruns : s.grantMark st = s.endSoonTest st := by
      unfold State.grantMark
      rw [hgrant]
      exact if_neg (Ne.symm he)
    rw [hruns]
    refine ⟨?_, by simp, endSoonTest_notice s st hgrant⟩
    have hrunning : (s.curfew.get st).grant.isRunning = true := by rw [hgrant]; rfl
    rw [endSoonTest_curfew_modify, Bank4.get_modify_self, secondsLeft_of_running hgrant, hrunning, Bool.true_and]

theorem endSoonTest_others {i : StageId} (h : i ≠ st) : (s.endSoonTest st).curfew.get i = s.curfew.get i := by
  rw [endSoonTest_curfew_modify]
  simp [h]

theorem grantMark_others {i : StageId} (h : i ≠ st) :
    (s.grantMark st).curfew.get i = s.curfew.get i ∧ (s.grantMark st).stages.get i = s.stages.get i := by
  unfold State.grantMark
  split
  · split
    · exact endGrantInCurfew_others s st h
    · exact ⟨endSoonTest_others s st h, by simp⟩
  · exact ⟨rfl, rfl⟩

theorem raises_grantMark {k : Links} (h : Raises k s.links) : Raises k (s.grantMark st).links := by
  unfold State.grantMark
  split
  · split
    · exact raises_endGrantInCurfew st h
    · exact raises_endSoonTest st h
  · exact h

theorem grantMarks_marked : grantMarked s s.grantMarks st := by
  refine eachStage_establishes
    (P := fun t => t.curfew.get st = s.curfew.get st ∧ (t.stages.get st).reasons = (s.stages.get st).reasons)
    (Q := fun t => grantMarked s t st) st ⟨rfl, rfl⟩ ?_ ?_ ?_
  · rintro j t hj ⟨hcurfew, hstage⟩
    obtain ⟨hcurfew', hstage'⟩ := grantMark_others t j hj.symm
    exact ⟨hcurfew'.trans hcurfew, by rw [hstage', hstage]⟩
  · rintro t ⟨hcurfew, hstage⟩
    exact grantMarked_congr (grantMark_marks t st) ⟨hcurfew.symm, hstage.symm⟩ ⟨rfl, rfl, rfl⟩ fun _ _ h => h
  · intro j t hj ht
    obtain ⟨hcurfew, hstage⟩ := grantMark_others t j hj.symm
    exact grantMarked_congr ht ⟨rfl, rfl⟩ ⟨hcurfew, by rw [hstage], by simp⟩ fun _ _ =>
      (raises_grantMark t j (.refl _)).noticeAt

end

/-! ### The reasons under a close (R94) -/

section
variable (s : State) (z : ZoneId) (i : StageId)

theorem recomputeCoupled_reasons (w : Bank4 Bool) :
    ((s.recomputeCoupled z w).stages.get i).reasons = (s.stages.get i).reasons := by
  refine eachStage_keeps (fun s => (s.stages.get i).reasons) _ (fun st s => ?_) s
  split
  · exact recomputeTarget_reasons s st i
  · rfl

theorem closeToStages_reasons (w : Bank4 Bool) (old new : Zone) :
    ((s.closeToStages z w old new).stages.get i).reasons = (s.stages.get i).reasons := by
  simp only [State.closeToStages]
  split
  · exact recomputeCoupled_reasons s z i w
  · rfl

theorem closeZone_reasons (w : Bank4 Bool) (aw : Awaiting) (r : Option MeasurementRecord) :
    ((s.closeZone z w aw r).stages.get i).reasons = (s.stages.get i).reasons := by
  simp only [State.closeZone, closeNotices_frame, closeToStages_reasons]
  simp [closeToStages_reasons]

theorem closingDeadline_reasons (w : Bank4 Bool) (e : Nat) (b : Option Nat) :
    ((s.closingDeadline z w e b).stages.get i).reasons = (s.stages.get i).reasons := by
  simp only [State.closingDeadline]
  (repeat' split) <;> simp [closeZone_reasons]

end

section
variable {s : State}

/-- Within a minute, a mark's other tasks leave every grant and every stage's reasons alone. -/
theorem markTask_reasons {o : Interleaving} {e : Nat} {b : Option Nat} {task : Task} (i : StageId) (h : s.minute = b)
    (hother : task ≠ .grants) :
    ((s.markTask o e b task).stages.get i).reasons = (s.stages.get i).reasons := by
  cases task with
  | zone z => exact closingDeadline_reasons s z i _ _ _
  | table z => simp [State.markTask, h]
  | grants => exact absurd rfl hother
  | floor _ => rfl

theorem issueMark_grants (h : s.marked.minute = s.minute) (st : StageId) :
    s.issueMark.pool = s.pool ∧ grantMarked s s.issueMark st := by
  have hminute := (takeOrder_clock s).2
  rw [issueMark_eq, hminute]
  refine sequence_establishes
    (P := fun t => t.minute = s.minute ∧ t.pool = s.pool ∧ t.curfew.get st = s.curfew.get st ∧
      (t.stages.get st).reasons = (s.stages.get st).reasons)
    (Q := fun t => t.minute = s.minute ∧ t.pool = s.pool ∧ grantMarked s t st) .grants ?_ ?_ ?_ ?_ |>.2
  · exact ⟨h, by simp, by simp, by simp⟩
  · rintro t task hother ⟨hstill, hpool, hcurfew, hreasons⟩
    obtain ⟨hcurfew', hpool'⟩ := markTask_curfew (o := s.takeOrder.1) (e := s.takeOrder.2.timeBase.tag) hstill hother
    exact ⟨by simpa [State.minute] using hstill, hpool'.trans hpool, by rw [hcurfew', hcurfew],
      (markTask_reasons st hstill hother).trans hreasons⟩
  · rintro t ⟨hstill, hpool, hcurfew, hreasons⟩
    refine ⟨by simpa [State.minute] using hstill, by simpa [State.markTask] using hpool, ?_⟩
    exact grantMarked_congr (grantMarks_marked t st) ⟨hcurfew.symm, hreasons.symm⟩ ⟨rfl, rfl, rfl⟩ fun _ _ h => h
  · rintro t task hother ⟨hstill, hpool, hmarked⟩
    obtain ⟨hcurfew, hpool'⟩ := markTask_curfew (o := s.takeOrder.1) (e := s.takeOrder.2.timeBase.tag) hstill hother
    refine ⟨by simpa [State.minute] using hstill, hpool'.trans hpool, ?_⟩
    exact grantMarked_congr hmarked ⟨rfl, rfl⟩ ⟨by rw [hcurfew], markTask_reasons st hstill hother, by simp⟩ fun _ _ =>
      (raises_markTask _ _ _ task (.refl _)).noticeAt

end

/-- Settles O40: the grants have one turn at the mark, and no other task within a minute touches them. -/
theorem grantAtMark : Obligations.GrantAtMark := by
  unfold Obligations.GrantAtMark
  intro s hsource
  refine ⟨_, exec_expectedPoint hsource, fun hsame => ?_⟩
  have hstill : s.atExpected.marked.minute = s.atExpected.minute := (issueMark_minute _).symm.trans hsame
  refine ⟨(issueMark_grants hstill 0).1, ?_⟩
  rintro st c rfl
  exact (issueMark_grants hstill st).2

end Sys2Proof.Machine
end

section
/-! PROOFS. Chapter 6 of the spec: the curfew unit's answer to a re-evaluated table (O41). What one stage gains from an
onset (`onsetTaken`) and from an end (`endTaken`) is said once, and outlasts the recomputation of the next onsets. -/

namespace Sys2Proof.Machine

/-! ## What a zone's onset and end make of one stage (R114 to R116) -/

/-- A stage after an onset of a zone. -/
def onsetTaken (z : ZoneId) (s t : State) (st : StageId) : Prop :=
  (reaches s st z = false →
    (t.curfew.get st).zones = (s.curfew.get st).zones ∧ t.stages.get st = s.stages.get st) ∧
  (reaches s st z = true →
    (t.curfew.get st).zones = (s.curfew.get st).zones.set z true ∧
    (noZone (s.curfew.get st).zones = false →
      t.stages.get st = s.stages.get st ∧ (t.curfew.get st).onsetTag = (s.curfew.get st).onsetTag) ∧
    (noZone (s.curfew.get st).zones = true →
      (t.curfew.get st).onsetTag = some s.timeBase.tag ∧
      ((s.curfew.get st).grant = .none →
        t.stages.get st = Stage.addCurfew s.now (s.stages.get st) ∧ noticeAt (.desk st) 3 t = true) ∧
      (∀ m : Nat, (s.curfew.get st).grant = .booked m →
        (t.curfew.get st).grant = .running m ((s.timeBase.tag + 60 * m) % 65536) ∧
        t.stages.get st = s.stages.get st ∧ noticeAt .officer 8 t = true)))

/-- A stage after an end of a zone's curfew. -/
def endTaken (z : ZoneId) (s t : State) (st : StageId) : Prop :=
  (t.curfew.get st).zones = (s.curfew.get st).zones.set z false ∧
  (noZone (s.curfew.get st).zones = true ∨ noZone ((s.curfew.get st).zones.set z false) = false →
    t.stages.get st = s.stages.get st ∧ (t.curfew.get st).onsetTag = (s.curfew.get st).onsetTag) ∧
  (noZone (s.curfew.get st).zones = false → noZone ((s.curfew.get st).zones.set z false) = true →
    (t.curfew.get st).onsetTag = none ∧ t.stages.get st = Stage.dropCurfew s.now (s.stages.get st) ∧
    ((s.curfew.get st).grant.isRunning = true →
      (t.curfew.get st).grant = .none ∧ (t.curfew.get st).total = (s.curfew.get st).total ∧
      noticeAt .officer 8 t = true))

/-- What a stage has of its curfew stands, but for the loss of a booking and the CURFEW_SOON minute. -/
structure Outlasts (s t : State) (st : StageId) : Prop where
  sets : (t.curfew.get st).zones = (s.curfew.get st).zones
  onsetTag : (t.curfew.get st).onsetTag = (s.curfew.get st).onsetTag
  grant : (∀ m, (s.curfew.get st).grant ≠ .booked m) →
    (t.curfew.get st).grant = (s.curfew.get st).grant ∧ (t.curfew.get st).total = (s.curfew.get st).total
  stage : t.stages.get st = s.stages.get st
  notices : ∀ l n, noticeAt l n s = true → noticeAt l n t = true

/-- What an onset or an end of a zone finds of a stage. -/
structure SameStart (z : ZoneId) (s t : State) (st : StageId) : Prop where
  curfew : t.curfew.get st = s.curfew.get st
  stage : t.stages.get st = s.stages.get st
  now : t.now = s.now
  timeBase : t.timeBase = s.timeBase
  inReach : reaches t st z = reaches s st z

section
variable {s t t' : State} {z : ZoneId} {st : StageId}

theorem onsetTaken.outlasts (h : onsetTaken z s t st) (ht : Outlasts t t' st) : onsetTaken z s t' st := by
  obtain ⟨hout, hin⟩ := h
  obtain ⟨hsets, htag, hgrant, hstage, hnotices⟩ := ht
  refine ⟨fun hreach => ⟨hsets.trans (hout hreach).1, hstage.trans (hout hreach).2⟩, fun hreach => ?_⟩
  obtain ⟨hzones, hheld, honset⟩ := hin hreach
  refine ⟨hsets.trans hzones, fun hsome => ⟨hstage.trans (hheld hsome).1, htag.trans (hheld hsome).2⟩, fun hnone => ?_⟩
  obtain ⟨hnow, hfree, hbooked⟩ := honset hnone
  refine ⟨htag.trans hnow, fun hg => ⟨hstage.trans (hfree hg).1, hnotices _ _ (hfree hg).2⟩, fun m hg => ?_⟩
  obtain ⟨hruns, hstill, hnotice⟩ := hbooked m hg
  exact ⟨(hgrant fun n => by simp [hruns]).1.trans hruns, hstage.trans hstill, hnotices _ _ hnotice⟩

theorem endTaken.outlasts (h : endTaken z s t st) (ht : Outlasts t t' st) : endTaken z s t' st := by
  obtain ⟨hzones, hstays, hends⟩ := h
  obtain ⟨hsets, htag, hgrant, hstage, hnotices⟩ := ht
  refine ⟨hsets.trans hzones, fun hno => ⟨hstage.trans (hstays hno).1, htag.trans (hstays hno).2⟩, fun hheld hlast => ?_⟩
  obtain ⟨hnone, hdropped, hrunning⟩ := hends hheld hlast
  refine ⟨htag.trans hnone, hstage.trans hdropped, fun hg => ?_⟩
  obtain ⟨hended, htotal, hnotice⟩ := hrunning hg
  obtain ⟨hkept, hsame⟩ := hgrant fun n => by simp [hended]
  exact ⟨hkept.trans hended, hsame.trans htotal, hnotices _ _ hnotice⟩

theorem Outlasts.of_others (hcurfew : t.curfew.get st = s.curfew.get st) (hstage : t.stages.get st = s.stages.get st)
    (hlinks : Raises s.links t.links) : Outlasts s t st :=
  ⟨by rw [hcurfew], by rw [hcurfew], fun _ => by rw [hcurfew]; exact ⟨rfl, rfl⟩, hstage, fun _ _ => hlinks.noticeAt⟩

theorem stageOnset_onsetTag (s : State) (st : StageId) :
    ((s.stageOnset st).curfew.get st).onsetTag = some s.timeBase.tag := by
  cases hgrant : (s.curfew.get st).grant with
  | none => simp [stageOnset_of_none hgrant]
  | booked m => simp [stageOnset_of_booked hgrant, endSoonTest_curfew_modify]
  | running m e => simp [stageOnset_of_running hgrant]

theorem zoneJoins_taken (h : SameStart z s t st) (hreach : reaches s st z = true) :
    onsetTaken z s (t.zoneJoins z st) st := by
  obtain ⟨hcurfew, hstage, hnow, htime, -⟩ := h
  have hzones := (zoneJoins_zones t z st st).trans (if_pos rfl)
  refine ⟨fun hout => absurd (hreach.symm.trans hout) (by decide), fun _ => ⟨by rw [hzones, hcurfew], fun hsome => ?_, fun hnone => ?_⟩⟩
  · rw [zoneJoins_of_held (by rw [hcurfew]; exact hsome)]
    exact ⟨hstage, by simp [hcurfew]⟩
  · have hjoins := zoneJoins_of_onset (s := t) (st := st) (z := z) (by rw [hcurfew]; exact hnone)
    generalize hstart : (t.onCurfew st fun c => { c with zones := c.zones.set z true }) = u at hjoins
    have hgrant : (u.curfew.get st).grant = (s.curfew.get st).grant := by simp [← hstart, hcurfew]
    have hkept : u.stages.get st = s.stages.get st ∧ u.now = s.now ∧ u.timeBase = s.timeBase := by
      simp [← hstart, hstage, hnow, htime]
    obtain ⟨hstage', hnow', htime'⟩ := hkept
    rw [hjoins]
    refine ⟨by rw [stageOnset_onsetTag, htime'], fun hfree => ?_, fun m hbooked => ?_⟩
    · rw [stageOnset_of_none (hgrant.trans hfree), curfewFalls_eq]
      refine ⟨?_, curfewFalls_notice _ st⟩
      simp [hstage', hnow']
    · rw [stageOnset_of_booked (hgrant.trans hbooked)]
      refine ⟨?_, by simpa using hstage', raiseOfficer_notice _ .encore⟩
      simp [endSoonTest_curfew_modify, tagPlus, htime']

theorem zoneLeaves_taken (h : SameStart z s t st) : endTaken z s (t.zoneLeaves z st) st := by
  obtain ⟨hcurfew, hstage, hnow, htime, -⟩ := h
  have hzones := (zoneLeaves_zones t z st st).trans (if_pos rfl)
  refine ⟨by rw [hzones, hcurfew], fun hstays => ?_, fun hheld hlast => ?_⟩
  · rw [zoneLeaves_of_stays (by rw [hcurfew]; exact hstays)]
    exact ⟨hstage, by simp [hcurfew]⟩
  · rw [zoneLeaves_of_end (by rw [hcurfew]; exact hheld) (by rw [hcurfew]; exact hlast)]
    refine ⟨by simp [State.stageCurfewEnd], by simp [State.stageCurfewEnd, hstage, hnow], fun hrunning => ?_⟩
    have hruns : (t.curfew.get st).grant.isRunning = true := by rw [hcurfew]; exact hrunning
    refine ⟨by simp [State.stageCurfewEnd, hruns, Curfew.endGrant], 
      by simp [State.stageCurfewEnd, hrunning, Curfew.endGrant, hcurfew], ?_⟩
    simp only [State.stageCurfewEnd, onCurfew_curfew, Bank4.get_modify_self, hruns]
    exact raiseOfficer_notice _ .encore

theorem zoneJoins_outlasts (j : StageId) (hj : j ≠ st) : Outlasts t (t.zoneJoins z j) st :=
  .of_others (zoneJoins_others t z hj.symm).2 (zoneJoins_others t z hj.symm).1 (raises_zoneJoins z j (.refl _))

theorem zoneLeaves_outlasts (j : StageId) (hj : j ≠ st) : Outlasts t (t.zoneLeaves z j) st :=
  .of_others (zoneLeaves_others t z hj.symm).2 (zoneLeaves_others t z hj.symm).1 (raises_zoneLeaves z j (.refl _))

theorem SameStart.refl (z : ZoneId) (s : State) (st : StageId) : SameStart z s s st := ⟨rfl, rfl, rfl, rfl, rfl⟩

theorem SameStart.moved (h : SameStart z s t st) (hcurfew : t'.curfew.get st = t.curfew.get st)
    (hstage : t'.stages.get st = t.stages.get st)
    (hframe : t'.now = t.now ∧ t'.timeBase = t.timeBase ∧ t'.zones = t.zones) : SameStart z s t' st := by
  obtain ⟨hc, hg, hn, ht, hr⟩ := h
  obtain ⟨hnow, htime, hzones⟩ := hframe
  have hreaches : reaches t' st z = reaches t st z := by simp only [reaches, hstage, hzones]
  exact ⟨hcurfew.trans hc, hstage.trans hg, hnow.trans hn, htime.trans ht, hreaches.trans hr⟩

theorem zoneOnset_taken (s : State) (z : ZoneId) (st : StageId) : onsetTaken z s (s.zoneOnset z) st := by
  refine eachStage_establishes (P := fun t => SameStart z s t st) (Q := fun t => onsetTaken z s t st) st (.refl z s st)
    ?_ ?_ ?_
  · intro j t hj ht
    split
    · exact ht.moved (zoneJoins_others t z hj.symm).2 (zoneJoins_others t z hj.symm).1 (by simp)
    · exact ht
  · intro t ht
    split
    · next hreach => exact zoneJoins_taken ht (ht.inReach.symm.trans hreach)
    · next hout =>
      have hout : reaches s st z = false := ht.inReach.symm.trans (Bool.not_eq_true _ ▸ hout)
      exact ⟨fun _ => ⟨by rw [ht.curfew], ht.stage⟩, fun hreach => absurd (hout.symm.trans hreach) (by decide)⟩
  · intro j t hj ht
    split
    · exact ht.outlasts (zoneJoins_outlasts j hj)
    · exact ht

theorem zoneEnd_taken (s : State) (z : ZoneId) (st : StageId) : endTaken z s (s.zoneEnd z) st := by
  refine eachStage_establishes (P := fun t => SameStart z s t st) (Q := fun t => endTaken z s t st) st (.refl z s st)
    ?_ ?_ ?_
  · intro j t hj ht
    exact ht.moved (zoneLeaves_others t z hj.symm).2 (zoneLeaves_others t z hj.symm).1 (by simp)
  · exact fun t ht => zoneLeaves_taken ht
  · exact fun j t hj ht => ht.outlasts (zoneLeaves_outlasts j hj)

end

/-! ## The recomputation of the next onsets (R31, R122) -/

section
variable (s : State) (st : StageId)

theorem soonTest_grant (i : StageId) : ((s.soonTest st).curfew.get i).grant = (s.curfew.get i).grant ∧
    ((s.soonTest st).curfew.get i).total = (s.curfew.get i).total := by
  simp

theorem bookingTest_grant {i : StageId} (h : ∀ m, (s.curfew.get i).grant ≠ .booked m) :
    ((s.bookingTest st).curfew.get i).grant = (s.curfew.get i).grant ∧
    ((s.bookingTest st).curfew.get i).total = (s.curfew.get i).total := by
  unfold State.bookingTest
  split
  · next m hbooked =>
    have hi : i ≠ st := fun hi => h m (hi ▸ hbooked)
    split <;> simp [State.returnMinutes, hi]
  · exact ⟨rfl, rfl⟩

theorem recomputeOnsets_grant (h : ∀ m, (s.curfew.get st).grant ≠ .booked m) :
    (s.recomputeOnsets.curfew.get st).grant = (s.curfew.get st).grant ∧
    (s.recomputeOnsets.curfew.get st).total = (s.curfew.get st).total := by
  unfold State.recomputeOnsets State.eachStage
  refine List.foldlRecOn (motive := fun t : State => (t.curfew.get st).grant = (s.curfew.get st).grant ∧
    (t.curfew.get st).total = (s.curfew.get st).total) allStages (fun t j => (t.bookingTest j).soonTest j) ⟨rfl, rfl⟩
    fun t ht j _ => ?_
  obtain ⟨hgrant, htotal⟩ := ht
  obtain ⟨hgrant', htotal'⟩ := bookingTest_grant t j (i := st) (by rw [hgrant]; exact h)
  obtain ⟨hgrant'', htotal''⟩ := soonTest_grant (t.bookingTest j) j st
  exact ⟨hgrant''.trans (hgrant'.trans hgrant), htotal''.trans (htotal'.trans htotal)⟩

theorem recomputeOnsets_outlasts : Outlasts s s.recomputeOnsets st :=
  ⟨(recomputeOnsets_sets s st).1, (recomputeOnsets_sets s st).2, recomputeOnsets_grant s st, by simp, fun _ _ =>
    (raises_recomputeOnsets (.refl _)).noticeAt⟩

end

/-- Settles O41: a re-evaluation hands the zone's onset or end to each stage, and the recomputation that follows keeps
what they made of it. -/
theorem onsetsAndEnds : Obligations.OnsetsAndEnds := by
  unfold Obligations.OnsetsAndEnds
  rintro s z t rfl new rfl
  obtain ⟨hnow, hmode, htime, hzones, hpaths, hlist, hloop, horders, hreports, hpending⟩ := reevaluate_frame s z
  refine ⟨reevaluate_tables s z, state_ext hnow hmode htime rfl hzones rfl rfl rfl hpaths hlist hreports hloop rfl horders
    hpending, ?_⟩
  rintro st c rfl g rfl
  generalize hstart : (s.onTable z fun t => { t with inForce := segmentAt (s.tables.get z).segments s.minute }) = u
  have hu : u.curfew = s.curfew ∧ u.stages = s.stages := by simp [← hstart]
  have houtlasts := fun v => recomputeOnsets_outlasts v st
  refine ⟨fun hsame => ?_, fun hplay hcurfew => ?_, fun hcurfew hplay => ?_⟩
  · have hsettled : s.reevaluate z = u.recomputeOnsets := by
      simp only [State.reevaluate, ← hsame, hstart]
      cases (s.tables.get z).inForce.kind.isCurfew <;> rfl
    obtain ⟨hsets, -, -, hstage, -⟩ := houtlasts u
    rw [hsettled, hsets, hstage, hu.1, hu.2]
    exact ⟨rfl, rfl⟩
  · have hsettled : s.reevaluate z = (u.zoneOnset z).recomputeOnsets := by
      simp only [State.reevaluate, hplay, hcurfew, hstart]
    rw [hsettled]
    have htaken := (zoneOnset_taken u z st).outlasts (houtlasts _)
    subst hstart
    exact htaken
  · have hsettled : s.reevaluate z = (u.zoneEnd z).recomputeOnsets := by
      simp only [State.reevaluate, hplay, hcurfew, hstart]
    rw [hsettled]
    have htaken := (zoneEnd_taken u z st).outlasts (houtlasts _)
    subst hstart
    exact htaken

end Sys2Proof.Machine
end

section
/-! PROOFS. Chapter 7 of the spec: the officer's path requests (O44). -/

namespace Sys2Proof.Machine

/-! ## One path (R137, R139, R141) -/

theorem pathEnable_eq (p : Path) (now : Nat) : p.enable now =
    if p.state = .idle then
      { p with state := .aligning, buffer := [], writeIndex := none, watch := .present (now + 1000) }
    else p := by
  unfold Path.enable
  split <;> next hstate => simp [hstate] <;> rfl

/-- The fields of a SET PATH stored, the fill left as it is. -/
def Path.writeFields (f : SetPathFields) (p : Path) : Path :=
  { p with
    delay := (f.delay.map (clampTo 2 30)).getD p.delay
    muteMask := (f.muteMask.map fun m =>
      (⟨m.getLsbD 0, m.getLsbD 1, m.getLsbD 2, m.getLsbD 3⟩ : AlarmSet)).getD p.muteMask
    followStrobe := (f.followStrobe.map fun n => decide (n ≠ 0)).getD p.followStrobe }

theorem write_eq_writeFields (p : Path) (f : SetPathFields) : p.write f =
    match p.state, f.delay with
    | .aligning, some _ => (p.writeFields f).completeFill
    | _, _ => p.writeFields f := by
  obtain ⟨delay, mute, follow, spare⟩ := f
  cases delay <;> cases mute <;> cases follow <;> rfl

theorem pathWrite_eq (p : Path) (f : SetPathFields) : p.write f =
    { p.writeFields f with
      state := if p.state = .aligning ∧ f.delay.isSome ∧ p.writeIndex.isSome ∧
          (f.delay.map (clampTo 2 30)).getD p.delay ≤ p.buffer.length
        then .running else p.state } := by
  rw [write_eq_writeFields]
  split
  · next hstate hdelay =>
    have hfill : (p.writeFields f).completeFill =
        if p.writeIndex.isSome = true ∧ (p.writeFields f).delay ≤ p.buffer.length then
          { p.writeFields f with state := .running } else p.writeFields f := by
      simp only [Path.completeFill, Bool.and_eq_true, decide_eq_true_eq]
      rfl
    rw [hfill]
    simp only [hstate, hdelay, Option.isSome_some, true_and]
    have hkept : (p.writeFields f).state = .aligning := hstate
    have hd : (p.writeFields f).delay = (f.delay.map (clampTo 2 30)).getD p.delay := rfl
    rw [hd, hdelay]
    split
    · rfl
    · rw [← hkept, ← hdelay, ← hd]
  · next hnot =>
    rw [if_neg]
    · rfl
    · rintro ⟨hstate, hsome, -⟩
      obtain ⟨d, hd⟩ := Option.isSome_iff_exists.mp hsome
      exact hnot d hstate hd

theorem setAlarm_of_clear {s : State} {st : StageId} {a : Alarm} (h : (s.paths.get st).alarms.has a = false) :
    s.setAlarm st a =
      ((s.onPath st fun p => { p with alarms := p.alarms.add a }).raiseDesk st .pathAlarm).raiseOfficer .pathAlarm := by
  simp only [State.setAlarm, h]
  rfl

theorem clearPathAlarms_eq (s : State) (st : StageId) (mask : Byte) {p : Path} (hp : p = s.paths.get st) {again : Bool}
    (hagain : again = (mask.getLsbD 3 && decide (p.watch = .absent))) {v : State}
    (hv : v = { s with paths := s.paths.set st { p with
      alarms := ⟨p.alarms.overflow && !mask.getLsbD 0, p.alarms.underflow && !mask.getLsbD 1,
        p.alarms.strobeSlip && !mask.getLsbD 2, (p.alarms.noSignal && !mask.getLsbD 3) || again⟩ } }) :
    s.clearPathAlarms st (AlarmSet.ofMask mask) =
      if again = true then (v.raiseDesk st .pathAlarm).raiseOfficer .pathAlarm else v := by
  subst hp hv
  have hcond : ((AlarmSet.ofMask mask).noSignal && decide ((s.paths.get st).watch = .absent)) = again := hagain.symm
  simp only [State.clearPathAlarms, hcond]
  cases again with
  | false => 
    simp only [Bool.or_false]
    rfl
  | true =>
    have hnamed : mask.getLsbD 3 = true := (Bool.and_eq_true _ _ ▸ hagain.symm).1
    have hclear : ((s.onPath st fun p => { p with alarms := p.alarms.without (AlarmSet.ofMask mask) }).paths.get st).alarms.has
        .noSignal = false := by
      simp [AlarmSet.without, AlarmSet.ofMask, AlarmSet.has, hnamed]
    have hstored : ((s.onPath st fun p => { p with alarms := p.alarms.without (AlarmSet.ofMask mask) }).onPath st fun p =>
        { p with alarms := p.alarms.add .noSignal }) = { s with paths := s.paths.set st { s.paths.get st with
          alarms := ⟨(s.paths.get st).alarms.overflow && !mask.getLsbD 0, (s.paths.get st).alarms.underflow && !mask.getLsbD 1,
            (s.paths.get st).alarms.strobeSlip && !mask.getLsbD 2,
            ((s.paths.get st).alarms.noSignal && !mask.getLsbD 3) || true⟩ } } := by
      simp [State.onPath, Bank4.modify, AlarmSet.without, AlarmSet.ofMask, AlarmSet.add]
    rw [if_pos rfl, if_pos rfl, setAlarm_of_clear hclear, hstored]

/-! ## The requests (R190) -/

/-- A path put in the place of a stage's path. -/
theorem onPath_eq (s : State) (st : StageId) {f : Path → Path} {p q : Path} (hp : p = s.paths.get st) (hq : f p = q)
    {u : State} (hu : u = { s with paths := s.paths.set st q }) : s.onPath st f = u := by
  subst hp hq hu
  rfl

theorem alarmsBeyond_iff (m : Byte) : alarmsBeyond m = true ↔ 16 ≤ m.toNat := decide_eq_true_iff

theorem setPath_fits {f : SetPathFields} : (f.spareBits || (f.muteMask.map alarmsBeyond).getD false) = true ↔
    f.spareBits = true ∨ ∃ m ∈ f.muteMask, 16 ≤ m.toNat := by
  cases f.muteMask <;> simp [alarmsBeyond]

/-- Settles O44: each request stores one path, `State.clearPathAlarms` with a notice where NO_SIGNAL comes again. -/
theorem pathRequests : Obligations.PathRequests := by
  unfold Obligations.PathRequests
  intro s f mask hidle
  refine ⟨fun n hn => ⟨?_, ?_, ?_, ?_, ?_⟩, ?_⟩
  · exact completes_of rfl hidle (forStage_beyond hn _ _) rfl
  · exact completes_of rfl hidle (forStage_beyond hn _ _) rfl
  · exact completes_of rfl hidle (forStage_beyond hn _ _) rfl
  · exact completes_of rfl hidle (forStage_beyond hn _ _) rfl
  · exact completes_of rfl hidle (forStage_beyond hn _ _) rfl
  intro st p hp
  refine ⟨fun q hq u hu => completes_of rfl hidle ?enable rfl, fun q hq u hu => completes_of rfl hidle ?disable rfl,
    fun hstate => completes_of rfl hidle ?idle rfl, fun hstate q hq u hu => completes_of rfl hidle ?align rfl,
    fun hbad => completes_of rfl hidle ?badPath rfl, ?write, fun hbad => completes_of rfl hidle ?badMask rfl,
    fun hfit again hagain q hq v hv u hu => completes_of rfl hidle ?clear rfl⟩
  case enable =>
    show serveEnablePath st.val s = _
    simp only [serveEnablePath, forStage_val]
    rw [onPath_eq s st hp ((pathEnable_eq p s.now).trans hq.symm) hu]
  case disable =>
    show serveDisablePath st.val s = _
    simp only [serveDisablePath, forStage_val]
    rw [onPath_eq s st hp (hq.symm : Path.disable p = q) hu]
  case idle =>
    show serveAlignPath st.val s = _
    simp only [serveAlignPath, forStage_val]
    rw [if_pos (hp ▸ hstate)]
  case align =>
    show serveAlignPath st.val s = _
    simp only [serveAlignPath, forStage_val]
    rw [if_neg (hp ▸ hstate), onPath_eq s st hp (hq.symm : Path.align p = q) hu]
  case badPath =>
    show serveSetPath st.val f s = _
    simp only [serveSetPath, forStage_val]
    rw [if_pos (setPath_fits.mpr hbad)]
  case write =>
    rintro hbits hmask d rfl q hq u hu
    have hfit : ¬(f.spareBits || (f.muteMask.map alarmsBeyond).getD false) = true := fun hbad => by
      rcases setPath_fits.mp hbad with hbits' | ⟨m, hm, hbeyond⟩
      · exact absurd (hbits.symm.trans hbits') (by decide)
      · exact absurd (hmask m hm) (Nat.not_lt.mpr hbeyond)
    refine completes_of rfl hidle ?_ rfl
    show serveSetPath st.val f s = _
    simp only [serveSetPath, forStage_val]
    rw [if_neg hfit, onPath_eq s st hp ((pathWrite_eq p f).trans hq.symm) hu]
  case badMask =>
    show serveClearAlarms st.val mask s = _
    simp only [serveClearAlarms, forStage_val]
    rw [if_pos ((alarmsBeyond_iff mask).mpr hbad)]
  case clear =>
    subst hq
    show serveClearAlarms st.val mask s = _
    simp only [serveClearAlarms, forStage_val]
    rw [if_neg (fun hbad => absurd hfit (Nat.not_lt.mpr ((alarmsBeyond_iff mask).mp hbad))), hu,
      ← clearPathAlarms_eq s st mask hp hagain hv]

end Sys2Proof.Machine
end

section
/-! PROOFS. Chapter 8 of the spec: the exceedance list at a close report, and CLEAR CLOSED (O45). The openings of a
report are those of its active pairs that the records held leave without one; each is pushed behind a list that has
made room for it. -/

namespace Sys2Proof.Machine

section
variable (c : CloseReport) (stages : Bank4 Bool)

/-! ## The openings of a report (R147, R151) -/

/-- The pairs of `ps` that a report opens a record for. -/
def openings (ps : List (Metric × RecordKind)) (l : List Exceedance) : List (Metric × RecordKind) :=
  ps.filter fun p => c.active p && !l.any (Exceedance.isFor c.zone p)

/-- The records opened for some pairs, numbered from a counter. -/
def openedFrom (counter : Nat) (ps : List (Metric × RecordKind)) : List Exceedance :=
  ps.mapIdx fun i p => openedRecord ((counter + i) % 65536) c stages p

/-- A record behind a list that has made room for it (R151). -/
def pushRecord (l : List Exceedance) (r : Exceedance) : List Exceedance := makeRoom l ++ [r]

theorem openedFrom_cons {counter : Nat} (hcounter : counter < 65536) (p : Metric × RecordKind)
    (ps : List (Metric × RecordKind)) :
    openedFrom c stages counter (p :: ps) =
      openedRecord counter c stages p :: openedFrom c stages ((counter + 1) % 65536) ps := by
  have hnext : ∀ i, (counter + (i + 1)) % 65536 = ((counter + 1) % 65536 + i) % 65536 := fun i => by omega
  rw [openedFrom, List.mapIdx_cons, Nat.add_zero, Nat.mod_eq_of_lt hcounter]
  exact congrArg _ (congrArg (fun f => List.mapIdx f ps) (funext fun i => by rw [hnext]))

variable {c stages}

theorem openPair_of_opens {p : Metric × RecordKind} {x : RecordList}
    (h : (c.active p && !x.records.any (Exceedance.isFor c.zone p)) = true) :
    x.openPair c stages p =
      ⟨pushRecord x.records (openedRecord x.counter c stages p), (x.counter + 1) % 65536⟩ := if_pos h

theorem openPair_of_kept {p : Metric × RecordKind} {x : RecordList}
    (h : ¬(c.active p && !x.records.any (Exceedance.isFor c.zone p)) = true) : x.openPair c stages p = x := if_neg h

theorem openings_cons_of_opens {p : Metric × RecordKind} {ps : List (Metric × RecordKind)} {l : List Exceedance}
    (h : (c.active p && !l.any (Exceedance.isFor c.zone p)) = true) : openings c (p :: ps) l = p :: openings c ps l :=
  List.filter_cons_of_pos h

theorem openings_cons_of_kept {p : Metric × RecordKind} {ps : List (Metric × RecordKind)} {l : List Exceedance}
    (h : ¬(c.active p && !l.any (Exceedance.isFor c.zone p)) = true) : openings c (p :: ps) l = openings c ps l :=
  List.filter_cons_of_neg h

/-- One pair's opening leaves those of the others. -/
theorem openings_openPair {p : Metric × RecordKind} {ps : List (Metric × RecordKind)} (hp : p ∉ ps) (x : RecordList) :
    openings c ps (x.openPair c stages p).records = openings c ps x.records := by
  refine List.filter_congr fun q hq => ?_
  have hother : q ≠ p := fun heq => hp (heq ▸ hq)
  rw [openPair_isFor, decide_eq_false hother]
  simp

theorem openPairs_eq {ps : List (Metric × RecordKind)} (hnodup : ps.Nodup) {x : RecordList}
    (hcounter : x.counter < 65536) :
    ps.foldl (fun x p => x.openPair c stages p) x =
      ⟨(openedFrom c stages x.counter (openings c ps x.records)).foldl pushRecord x.records,
        (x.counter + (openings c ps x.records).length) % 65536⟩ := by
  induction ps generalizing x with
  | nil => simp [openings, openedFrom, Nat.mod_eq_of_lt hcounter]
  | cons p ps ih =>
    obtain ⟨hp, hnodup⟩ := List.nodup_cons.mp hnodup
    have hrest := openings_openPair (c := c) (stages := stages) hp x
    rw [List.foldl_cons]
    by_cases hopens : (c.active p && !x.records.any (Exceedance.isFor c.zone p)) = true
    · rw [openPair_of_opens hopens] at hrest ⊢
      rw [ih hnodup (Nat.mod_lt _ (by decide)), hrest, openings_cons_of_opens hopens, openedFrom_cons c stages hcounter, List.foldl_cons,
        List.length_cons]
      refine congrArg _ ?_
      dsimp only
      omega
    · rw [openPair_of_kept hopens, ih hnodup hcounter, openings_cons_of_kept hopens]

theorem openPair_length {p : Metric × RecordKind} {x : RecordList} (hx : listKept x)
    (h : (c.active p && !x.records.any (Exceedance.isFor c.zone p)) = true) :
    (x.openPair c stages p).records.length = min 48 (x.records.length + 1) := by
  obtain ⟨hlen, -, -, hnodup⟩ := hx
  rw [openPair_of_opens h, pushRecord, List.length_append, makeRoom_length hnodup hlen, List.length_singleton]
  omega

theorem openPairs_length {ps : List (Metric × RecordKind)} (hnodup : ps.Nodup) {x : RecordList} (hx : listKept x) :
    (ps.foldl (fun x p => x.openPair c stages p) x).records.length =
      min 48 (x.records.length + (openings c ps x.records).length) := by
  induction ps generalizing x with
  | nil => simpa [openings] using hx.1
  | cons p ps ih =>
    obtain ⟨hp, hnodup⟩ := List.nodup_cons.mp hnodup
    rw [List.foldl_cons, ih hnodup (listKept_openPair hx), openings_openPair hp]
    by_cases hopens : (c.active p && !x.records.any (Exceedance.isFor c.zone p)) = true
    · rw [openPair_length hx hopens, openings_cons_of_opens hopens, List.length_cons]
      omega
    · rw [openPair_of_kept hopens, openings_cons_of_kept hopens]

/-- Openings that fit the list are appended as they are. -/
theorem foldl_pushRecord_of_room {l new : List Exceedance} (h : l.length + new.length ≤ 48) :
    new.foldl pushRecord l = l ++ new := by
  induction new generalizing l with
  | nil => simp
  | cons r new ih =>
    have hroom : pushRecord l r = l ++ [r] := by
      rw [pushRecord, makeRoom, if_neg]
      have : ¬48 ≤ l.length := by simp at h; omega
      exact this
    rw [List.foldl_cons, hroom, ih (by simp at h ⊢; omega), List.append_assoc]
    rfl

/-! ## The notices of a report (R147, R149, R151) -/

theorem openPair_notice (s : State) (p : Metric × RecordKind) {n : Nat} (hn : n < 16) :
    noticeAt .officer n (s.openPair c stages p) = (noticeAt .officer n s ||
      ((c.active p && !s.exceedances.records.any (Exceedance.isFor c.zone p)) &&
        (decide (48 ≤ s.exceedances.records.length) && decide (n = 5) || decide (n = 3)))) := by
  unfold State.openPair
  dsimp only
  split
  · next hopens =>
    rw [hopens, Bool.true_and, noticeAt_raiseOfficer_self _ _ hn, noticeAt_raiseOfficerIf _ _ _ hn, Bool.or_assoc]
    rfl
  · next hkept => simp [(Bool.not_eq_true _).mp hkept]

theorem openPairs_notice {ps : List (Metric × RecordKind)} (hnodup : ps.Nodup) {s : State}
    (hx : listKept s.exceedances) {n : Nat} (hn : n < 16) :
    noticeAt .officer n (ps.foldl (fun s p => s.openPair c stages p) s) = (noticeAt .officer n s ||
      (decide (48 < s.exceedances.records.length + (openings c ps s.exceedances.records).length) && decide (n = 5)) ||
      (!(openings c ps s.exceedances.records).isEmpty && decide (n = 3))) := by
  induction ps generalizing s with
  | nil =>
    have hlen := hx.1
    simp [openings, hlen]
  | cons p ps ih =>
    obtain ⟨hp, hnodup⟩ := List.nodup_cons.mp hnodup
    have hlen := hx.1
    have hlist := openPair_exceedances (c := c) (stages := stages) (p := p) s
    rw [List.foldl_cons, ih hnodup (hlist ▸ listKept_openPair hx), hlist, openings_openPair hp, openPair_notice s p hn]
    by_cases hopens : (c.active p && !s.exceedances.records.any (Exceedance.isFor c.zone p)) = true
    · have hfull : ∀ k, decide (48 < s.exceedances.records.length + (k + 1)) =
          (decide (48 ≤ s.exceedances.records.length) || decide (48 < min 48 (s.exceedances.records.length + 1) + k)) := by
        intro k
        rw [← Bool.decide_or, decide_eq_decide]
        omega
      rw [openPair_length hx hopens, openings_cons_of_opens hopens, hopens, List.length_cons, hfull, Bool.eq_iff_iff]
      simp only [Bool.or_eq_true, Bool.and_eq_true, List.isEmpty_cons, Bool.not_false, true_and]
      tauto
    · rw [openPair_of_kept hopens, openings_cons_of_kept hopens, (Bool.not_eq_true _).mp hopens, Bool.false_and,
        Bool.or_false]

/-- One pair's turn leaves the records of the others. -/
theorem closesPair_takePair {p q : Metric × RecordKind} (h : q ≠ p) (l : List Exceedance) :
    closesPair c q (takePair c stages p l) = closesPair c q l := by
  have hfor : ∀ r : Exceedance, (r.takenAt c stages p).isFor c.zone q = r.isFor c.zone q := by
    intro r
    by_cases hp : (r.metric, r.kind) = p
    · have hother : (r.metric, r.kind) ≠ q := fun hq => h (hq.symm.trans hp)
      rw [isFor_other hother, isFor_other (by rw [takenAt_pair]; exact hother)]
    · rw [takenAt_of_other (isFor_other hp)]
  have hall : (Exceedance.isFor c.zone q ∘ Exceedance.takenAt c stages p) = Exceedance.isFor c.zone q := funext hfor
  rw [closesPair, closesPair, takePair_eq_map, List.any_map, hall]

theorem servePairs_notice {ps : List (Metric × RecordKind)} (hnodup : ps.Nodup) (s : State) {n : Nat} (hn : n < 16) :
    noticeAt .officer n (ps.foldl (fun s p => s.servePair c stages p) s) =
      (noticeAt .officer n s || (ps.any (fun p => closesPair c p s.exceedances.records) && decide (n = 4))) := by
  induction ps generalizing s with
  | nil => simp
  | cons p ps ih =>
    obtain ⟨hp, hnodup⟩ := List.nodup_cons.mp hnodup
    have hserved : noticeAt .officer n (s.servePair c stages p) =
        (noticeAt .officer n s || (closesPair c p s.exceedances.records && decide (n = 4))) :=
      noticeAt_raiseOfficerIf _ _ .recordClosed hn
    have hrest : ps.any (fun q => closesPair c q (takePair c stages p s.exceedances.records)) =
        ps.any fun q => closesPair c q s.exceedances.records := by
      rw [Bool.eq_iff_iff, List.any_eq_true, List.any_eq_true]
      refine exists_congr fun q => and_congr_right fun hq => ?_
      have hother : q ≠ p := fun heq => hp (heq ▸ hq)
      rw [closesPair_takePair hother]
    rw [List.foldl_cons, ih hnodup, hserved, servePair_counter, hrest, List.any_cons, Bool.or_assoc, ← Bool.and_or_distrib_right]

/-- A report closes a record exactly where an open record of its zone is of a pair that is not active. -/
theorem any_closesPair (l : List Exceedance) : recordPairs.any (fun p => closesPair c p l) =
    l.any fun r => decide (r.cause = none ∧ r.zone = c.zone) && !c.active (r.metric, r.kind) := by
  have hmem : ∀ r : Exceedance, (r.metric, r.kind) ∈ recordPairs := fun r => by
    cases r.metric <;> cases r.kind <;> decide
  rw [Bool.eq_iff_iff]
  simp only [List.any_eq_true, closesPair, Bool.and_eq_true, decide_eq_true_eq, Bool.not_eq_true', isFor_iff]
  constructor
  · rintro ⟨p, -, hidle, r, hr, hopen, hkey⟩
    obtain ⟨hzone, rfl⟩ := Prod.mk.inj (show (r.zone, (r.metric, r.kind)) = (c.zone, p) from hkey)
    exact ⟨r, hr, ⟨Option.isNone_iff_eq_none.mp hopen, hzone⟩, hidle⟩
  · rintro ⟨r, hr, ⟨hopen, hzone⟩, hidle⟩
    exact ⟨(r.metric, r.kind), hmem r, hidle, r, hr, Option.isNone_iff_eq_none.mpr hopen, Prod.ext hzone rfl⟩

/-! ## A whole report -/

theorem recordPairs_nodup : recordPairs.Nodup := by decide

/-- The records a report holds on to, as it leaves them. -/
def heldRecords (c : CloseReport) (stages : Bank4 Bool) (l : List Exceedance) : List Exceedance :=
  l.map (Exceedance.taken c stages)

theorem servePairs_list (s : State) : (recordPairs.foldl (fun s p => s.servePair c stages p) s).exceedances =
    ⟨heldRecords c stages s.exceedances.records, s.exceedances.counter⟩ := by
  rw [servePairs_exceedances, held_eq]
  rfl

theorem takeReportSeeing_list {s : State} (h : listKept s.exceedances) :
    (s.takeReportSeeing stages c).exceedances =
      ⟨(openedFrom c stages s.exceedances.counter
          (openings c recordPairs (heldRecords c stages s.exceedances.records))).foldl pushRecord
          (heldRecords c stages s.exceedances.records),
        (s.exceedances.counter + (openings c recordPairs (heldRecords c stages s.exceedances.records)).length) % 65536⟩ ∧
    (s.takeReportSeeing stages c).exceedances.records.length = min 48 ((heldRecords c stages s.exceedances.records).length +
      (openings c recordPairs (heldRecords c stages s.exceedances.records)).length) := by
  rw [takeReportSeeing_exceedances, RecordList.takeReport]
  refine ⟨?_, openPairs_length recordPairs_nodup (listKept_taken h)⟩
  exact openPairs_eq recordPairs_nodup (x := ⟨s.exceedances.records.map (Exceedance.taken c stages), s.exceedances.counter⟩)
    h.2.1

theorem takeReportSeeing_notice {s : State} (h : listKept s.exceedances) {n : Nat} (hn : n < 16) :
    noticeAt .officer n (s.takeReportSeeing stages c) = (noticeAt .officer n s ||
      ((s.exceedances.records.any fun r =>
        decide (r.cause = none ∧ r.zone = c.zone) && !c.active (r.metric, r.kind)) && decide (n = 4)) ||
      (decide (48 < (heldRecords c stages s.exceedances.records).length +
        (openings c recordPairs (heldRecords c stages s.exceedances.records)).length) && decide (n = 5)) ||
      (!(openings c recordPairs (heldRecords c stages s.exceedances.records)).isEmpty && decide (n = 3))) := by
  have hlist := servePairs_list (c := c) (stages := stages) s
  have hkept : listKept (recordPairs.foldl (fun s p => s.servePair c stages p) s).exceedances := by
    rw [hlist]
    exact listKept_taken h
  rw [State.takeReportSeeing, openPairs_notice recordPairs_nodup hkept hn, hlist,
    servePairs_notice recordPairs_nodup s hn, any_closesPair]

end

theorem taken_eq (c : CloseReport) (stages : Bank4 Bool) : Exceedance.taken c stages = fun r =>
    if r.cause = none ∧ r.zone = c.zone then
      if c.active (r.metric, r.kind) = true then r.update c stages
      else { r with endMinute := c.minute, cause := some .cleared }
    else r := by
  funext r
  simp only [Exceedance.taken, Exceedance.isOpen, Option.isNone_iff_eq_none]
  rfl

theorem pushRecord_eq : pushRecord = fun l r => (if 48 ≤ l.length then l.eraseP fun q => q.cause.isSome else l) ++ [r] := by
  have hclosed : (fun q : Exceedance => !q.isOpen) = fun q => q.cause.isSome := by
    funext q
    rw [Exceedance.isOpen, Option.not_isNone]
  funext l r
  rw [pushRecord, makeRoom, hclosed]
  rfl

/-- Settles O45: `heldRecords` and `openings` are the two halves of a report. -/
theorem listTakesCloseReport : Obligations.ListTakesCloseReport := by
  unfold Obligations.ListTakesCloseReport
  intro s c
  refine ⟨?_, fun hidle kept hkept => completes_of rfl hidle ?_ rfl⟩
  · rintro t rfl active hactive level hlevel stages hstages one hone held hheld opening hopening opened hopened hok
    obtain rfl : active = c.active := hactive
    obtain rfl : level = c.level := hlevel
    obtain rfl : stages = attenuated s := hstages
    subst hone
    obtain rfl : held = heldRecords c (attenuated s) s.exceedances.records := by
      rw [hheld, heldRecords, taken_eq]
      rfl
    obtain rfl : opening = openings c recordPairs (heldRecords c (attenuated s) s.exceedances.records) := hopening
    obtain rfl : opened = openedFrom c (attenuated s) s.exceedances.counter
      (openings c recordPairs (heldRecords c (attenuated s) s.exceedances.records)) := hopened
    obtain ⟨hlist, hlength⟩ := takeReportSeeing_list (stages := attenuated s) (c := c) (recordsOk_iff.mp hok)
    have hnotice := fun n hn => takeReportSeeing_notice (stages := attenuated s) (c := c) (recordsOk_iff.mp hok) (n := n) hn
    obtain ⟨hnow, hmode, htime, htables, hzones, hstages, hpool, hcurfew, hpaths, hloop, horders, hreports, hpending⟩ :=
      takeReport_frame s c
    rw [← pushRecord_eq]
    refine ⟨state_ext hnow hmode htime htables hzones hstages hpool hcurfew hpaths rfl hreports hloop rfl horders hpending,
      congrArg RecordList.counter hlist, fun hroom => ?_, congrArg RecordList.records hlist, hlength, ?_, ?_, ?_⟩
    · refine (congrArg RecordList.records hlist).trans (foldl_pushRecord_of_room ?_)
      simpa [openedFrom] using hroom
    · refine (hnotice 3 (by decide)).trans ?_
      simp
    · refine (hnotice 4 (by decide)).trans ?_
      simp
    · refine (hnotice 5 (by decide)).trans ?_
      simp
  · subst hkept
    rfl

end Sys2Proof.Machine
end

section
/-! PROOFS. Section 9.2 of the spec: the transmitter of a link interface, its pending place and its owed rejects
(O48), one equation per case of its transmitter. -/

namespace Sys2Proof.Machine

section
variable {s : State} {l : LinkId}

theorem owe_eq (c : Reject) (k : LinkInterface) :
    k.owe c = { k with owed := if c ∈ k.owed then k.owed else k.owed ++ [c] } := by
  unfold LinkInterface.owe
  split <;> rfl

theorem messageSent_sending (hsending : (s.links.get l).transmitter ≠ none) :
    s.messageSent l = s.nextMessage l := by
  obtain ⟨m, hm⟩ := Option.ne_none_iff_exists'.mp hsending
  simp only [State.messageSent, hm]

/-- The oldest owed reject is sent before a held request is served (R161). -/
theorem nextMessage_owed {c : Reject} {rest : List Reject} (howed : (s.links.get l).owed = c :: rest) :
    s.nextMessage l =
      { s with
        reports := if l = .officer then [] else s.reports
        links := s.links.set l
          { s.links.get l with transmitter := some (messageFrame 0xFF#8 [c.byte]), owed := rest } } := by
  simp [State.nextMessage, howed, State.send, State.onLink, rejectFrame]

theorem nextMessage_held {r : Request} (howed : (s.links.get l).owed = []) (hheld : (s.links.get l).held = some r) :
    s.nextMessage l = (s.onLink l fun k => { k with transmitter := none, held := none }).takeRequest l r := by
  simp only [State.nextMessage, howed, hheld]

theorem nextMessage_none (howed : (s.links.get l).owed = []) (hheld : (s.links.get l).held = none) :
    s.nextMessage l = s.onLink l fun k => { k with transmitter := none } := by
  simp only [State.nextMessage, howed, hheld]

end

/-- Settles O48, by the transmitter's state, then by what is owed and held. -/
theorem transmitterServesInTurn : Obligations.TransmitterServesInTurn := by
  unfold Obligations.TransmitterServesInTurn
  rintro s c l r hrequest k rfl
  have hrun : ∀ u : State, exec c u = .next (u.requestReaches l r) := fun u => exec_of_requestOf hrequest u
  have hsent : exec (.messageSent l) s = .next (s.messageSent l) := rfl
  refine ⟨fun hidle => ⟨?_, ?_⟩, fun hsending => ?_⟩
  · rw [hrun, requestReaches_idle _ _ _ hidle, State.takeRequest]
  · rw [hsent, State.messageSent, hidle]
  rw [hsent, messageSent_sending hsending]
  refine ⟨fun hheld => ?_, fun hheld => ?_, fun code rest howed => ?_, fun howed => ⟨fun hheld => ?_, fun hheld => ?_⟩⟩
  · obtain ⟨m, hm⟩ := Option.ne_none_iff_exists'.mp hsending
    rw [hrun, requestReaches_held _ _ _ hm hheld]
    rfl
  · obtain ⟨m, hm⟩ := Option.ne_none_iff_exists'.mp hsending
    obtain ⟨q, hq⟩ := Option.ne_none_iff_exists'.mp hheld
    rw [hrun, requestReaches_busy _ _ _ hm hq, State.onLink, owe_eq]
  · rw [nextMessage_owed howed]
  · rw [nextMessage_none howed hheld]
    rfl
  · rw [nextMessage_held howed hheld, hrun, requestReaches_idle _ _ _ (by simp)]
    rfl

end Sys2Proof.Machine
end

section
/-! PROOFS. Sections 9.2 and 9.3 of the spec: the requests no block serves, the top kind, ACK NOTICES and SET NOTICES
(O49). The top kind is found by the recursion of `topFrom` over the priorities from a position on. -/

namespace Sys2Proof.Machine

/-! ## The top kind (R165) -/

/-- Of the kinds that call from position `n` on, whose priorities are `ps`, the `i`th has the lowest priority number and is
the earliest with it. -/
structure FirstLeast (k : LinkInterface) (n : Nat) (ps : List Nat) (i : Nat) : Prop where
  inRange : i < ps.length
  calls : k.calls (n + i) = true
  least : ∀ j, j < ps.length → k.calls (n + j) = true →
    ps.getD i 0 < ps.getD j 0 ∨ ps.getD i 0 = ps.getD j 0 ∧ i ≤ j

section
variable {k : LinkInterface} {n p i j : Nat} {ps : List Nat}

theorem FirstLeast.unique (hi : FirstLeast k n ps i) (hj : FirstLeast k n ps j) : i = j := by
  have hij := hi.least j hj.inRange hj.calls
  have hji := hj.least i hi.inRange hi.calls
  omega

/-- The first kind of all stands before what follows it wherever no later kind has a lower number. -/
theorem firstLeast_zero (hcalls : k.calls n = true)
    (hle : ∀ j, j < ps.length → k.calls (n + 1 + j) = true → p ≤ ps.getD j 0) : FirstLeast k n (p :: ps) 0 where
  inRange := Nat.succ_pos _
  calls := hcalls
  least
    | 0, _, _ => .inr ⟨rfl, le_rfl⟩
    | j + 1, hj, hc => by
      have hpj : p ≤ ps.getD j 0 := hle j (Nat.lt_of_succ_lt_succ hj) (by rwa [Nat.add_right_comm])
      simp only [List.getD_cons_zero, List.getD_cons_succ]
      omega

/-- A kind of what follows stays the least where the first kind does not call or has a higher number. -/
theorem FirstLeast.succ (h : FirstLeast k (n + 1) ps i) (hfirst : k.calls n = true → ps.getD i 0 < p) :
    FirstLeast k n (p :: ps) (i + 1) where
  inRange := Nat.succ_lt_succ h.inRange
  calls := by rw [← Nat.add_assoc, Nat.add_right_comm]; exact h.calls
  least
    | 0, _, hc => .inl (hfirst hc)
    | j + 1, hj, hc => by
      have hij := h.least j (Nat.lt_of_succ_lt_succ hj) (by rwa [Nat.add_right_comm])
      simp only [List.getD_cons_succ]
      omega

end

/-- What `topFrom` finds is the kind that calls with the lowest number, and it finds nothing only where none calls. -/
theorem topFrom_spec (k : LinkInterface) (ps : List Nat) (n : Nat) :
    (topFrom k n ps = none → ∀ j, j < ps.length → k.calls (n + j) = false) ∧
    ∀ m q, topFrom k n ps = some (m, q) → ∃ i, m = n + i ∧ q = ps.getD i 0 ∧ FirstLeast k n ps i := by
  induction ps generalizing n with
  | nil => exact ⟨fun _ j hj => absurd hj (Nat.not_lt_zero j), fun m q h => nomatch h⟩
  | cons p ps ih =>
    obtain ⟨hnone, hsome⟩ := ih (n + 1)
    cases hcalls : k.calls n with
    | false =>
      have htop : topFrom k n (p :: ps) = topFrom k (n + 1) ps := by rw [topFrom, hcalls]
      rw [htop]
      refine ⟨fun h j hj => ?_, fun m q h => ?_⟩
      · cases j with
        | zero => exact hcalls
        | succ j => rw [← Nat.add_assoc, Nat.add_right_comm]; exact hnone h j (Nat.lt_of_succ_lt_succ hj)
      · obtain ⟨i, hm, hq, hleast⟩ := hsome m q h
        exact ⟨i + 1, by omega, hq, hleast.succ fun h => absurd (hcalls.symm.trans h) (by decide)⟩
    | true =>
      cases hrest : topFrom k (n + 1) ps with
      | none =>
        have htop : topFrom k n (p :: ps) = some (n, p) := by rw [topFrom, hcalls, hrest]
        rw [htop]
        refine ⟨fun h => (nomatch h), fun m q h => ?_⟩
        obtain ⟨rfl, rfl⟩ := h
        exact ⟨0, rfl, rfl, firstLeast_zero hcalls fun j hj hc => absurd hc (Bool.eq_false_iff.mp (hnone hrest j hj))⟩
      | some best =>
        obtain ⟨m, q⟩ := best
        obtain ⟨i, hm, hq, hleast⟩ := hsome m q hrest
        have htop : topFrom k n (p :: ps) = if p ≤ q then some (n, p) else some (m, q) := by
          rw [topFrom, hcalls, hrest]
        rw [htop]
        split
        · next hpq =>
          refine ⟨fun h => (nomatch h), fun m q h => ?_⟩
          obtain ⟨rfl, rfl⟩ := h
          refine ⟨0, rfl, rfl, firstLeast_zero hcalls fun j hj hc => ?_⟩
          have := hleast.least j hj hc
          omega
        · next hpq =>
          refine ⟨fun h => (nomatch h), fun m' q' h => ?_⟩
          obtain ⟨rfl, rfl⟩ := h
          exact ⟨i + 1, by omega, hq, hleast.succ fun _ => by omega⟩

/-- The top kind is the pending, enabled kind with the lowest priority number, the earliest among equals (R165). -/
theorem topKind_eq_some (k : LinkInterface) (n : Nat) : k.topKind = some n ↔ FirstLeast k 0 k.priorities n := by
  obtain ⟨hnone, hsome⟩ := topFrom_spec k k.priorities 0
  unfold LinkInterface.topKind
  cases htop : topFrom k 0 k.priorities with
  | none =>
    refine ⟨fun h => (nomatch h), fun h => ?_⟩
    exact absurd h.calls (Bool.eq_false_iff.mp (hnone htop n h.inRange))
  | some best =>
    obtain ⟨m, q⟩ := best
    obtain ⟨i, rfl, -, hleast⟩ := hsome m q htop
    rw [Option.map_some, Option.some_inj, Nat.zero_add]
    exact ⟨fun h => h ▸ hleast, fun h => hleast.unique h⟩

/-! ## What a write stores (R167) -/

/-- The priority numbers that a write leaves, position by position. -/
def writtenPriorities (old : List Nat) : Option (List Nat) → List Nat
  | none => old
  | some p => old.mapIdx fun i o => if i < p.length then (if p.getD i 0 = 255 then o else min 3 (p.getD i 0)) else o

theorem writePriorities_eq_mapIdx (olds news : List Nat) :
    writePriorities olds news = writtenPriorities olds (some news) := by
  induction olds, news using writePriorities.induct with
  | case1 old olds new news ih =>
    simp only [writePriorities, ih, writtenPriorities, List.mapIdx_cons, List.length_cons, Nat.succ_pos, if_true,
      List.getD_cons_zero, List.getD_cons_succ, Nat.add_lt_add_iff_right]
  | case2 olds news hstop =>
    rw [writePriorities.eq_2 _ _ hstop]
    cases olds with
    | nil => rfl
    | cons old olds =>
      cases news with
      | nil => simp [writtenPriorities, List.mapIdx_eq_zipIdx_map]
      | cons new news => exact absurd rfl (hstop old olds new news rfl)

/-- What a write of the enable set and the priorities leaves of an interface. -/
theorem LinkInterface.write_spec (e : Option (BitVec 16)) (p : Option (List Nat)) (k : LinkInterface) :
    k.write e p = { k with
      enables := e.getD k.enables
      alert := if e.isSome = true then (k.noticeSet &&& e.getD k.enables) != 0#16 else k.alert
      priorities := writtenPriorities k.priorities p } := by
  have hprio : ∀ (u : LinkInterface) (l : List Nat),
      u.prioritise l = { u with priorities := writtenPriorities u.priorities (some l) } :=
    fun u l => by rw [LinkInterface.prioritise, writePriorities_eq_mapIdx]
  cases e with
  | none =>
    cases p with
    | none => rfl
    | some l => exact hprio k l
  | some m =>
    cases p with
    | none => rfl
    | some l => exact hprio (k.enable m) l

theorem linkOf_linkNumber (l : LinkId) : linkOf (linkNumber l) = some l := by
  cases l with
  | desk st => rw [linkOf, linkNumber, stageOf_val]
  | officer => rfl

theorem linkOf_beyond {n : Nat} (h : 5 ≤ n) : linkOf n = none := by
  have hnone : stageOf n = none := dif_neg (by omega)
  rw [linkOf, hnone]
  exact if_neg (by omega)

theorem prioritiesBeyond_iff (l : LinkId) (p : List Nat) :
    prioritiesBeyond l p = true ↔ ∃ n ∈ p.drop (linkKinds l), n ≠ 255 := by
  simp [prioritiesBeyond]

theorem setNoticesRefused_iff (l : LinkId) (f : SetNoticesFields) :
    setNoticesRefused l f = true ↔
      f.spareBits = true ∨ (∃ m ∈ f.enables, 2 ^ linkKinds l ≤ m.toNat) ∨
        (∃ p ∈ f.priorities, ∃ n ∈ p.drop (linkKinds l), n ≠ 255) := by
  obtain ⟨e, p, b⟩ := f
  rw [setNoticesRefused, Bool.or_eq_true, Bool.or_eq_true, or_assoc]
  refine or_congr .rfl (or_congr ?_ ?_)
  · cases e with
    | none => simp
    | some m => simp [maskBeyond]
  · cases p with
    | none => simp
    | some p => simp [prioritiesBeyond_iff]

/-! ## The requests -/

section
variable {s : State} {l : LinkId}

/-- What no block serves is answered with its own code, and changes nothing (R162, R170). -/
theorem unserved_completes (hidle : idle l s) (kind : Byte) :
    completes (.unknownKind l kind) l s s 0xFE#8 [1#8, kind] ∧
    completes (.forbidden l kind) l s s (kind + 0x80#8) [2#8] := by
  refine ⟨completes_of rfl hidle ?_ rfl, completes_of rfl hidle ?_ rfl⟩
  · cases l <;> rfl
  · cases l <;> rfl

theorem serveRequest_ackNotices (l : LinkId) (mask : BitVec 16) (s : State) :
    serveRequest l (.ackNotices mask) s = serveAckNotices l mask s := by
  cases l <;> rfl

theorem ackNotices_completes (hidle : idle l s) (mask : BitVec 16) :
    (2 ^ linkKinds l ≤ mask.toNat → completes (.ackNotices l mask) l s s 0x87#8 (ackReply .badValue s l)) ∧
    (mask.toNat < 2 ^ linkKinds l →
      completes (.ackNotices l mask) l s (s.onLink l (LinkInterface.acknowledge mask)) 0x87#8
        (ackReply .ok (s.onLink l (LinkInterface.acknowledge mask)) l)) := by
  refine ⟨fun hbeyond => ?_, fun hwithin => ?_⟩
  · refine completes_of rfl hidle ?_ rfl
    rw [serveRequest_ackNotices, serveAckNotices, maskBeyond, decide_eq_true hbeyond]
    rfl
  · refine completes_of rfl hidle ?_ rfl
    rw [serveRequest_ackNotices, serveAckNotices, maskBeyond, decide_eq_false (Nat.not_le.mpr hwithin)]
    rfl

theorem setNotices_beyond (hidle : idle .officer s) (f : SetNoticesFields) {n : Nat} (h : 5 ≤ n) :
    completes (.setNotices n f) .officer s s 0xAC#8 [4#8] := by
  refine completes_of rfl hidle ?_ rfl
  show serveSetNotices n f s = _
  rw [serveSetNotices, linkOf_beyond h]
  rfl

theorem setNotices_refused (hidle : idle .officer s) {f : SetNoticesFields} (h : setNoticesRefused l f = true) :
    completes (.setNotices (linkNumber l) f) .officer s s 0xAC#8 (setNoticesReply .badValue s l) := by
  refine completes_of rfl hidle ?_ rfl
  show serveSetNotices (linkNumber l) f s = _
  simp only [serveSetNotices, linkOf_linkNumber, h, if_true]

theorem setNotices_taken (hidle : idle .officer s) {f : SetNoticesFields} (h : setNoticesRefused l f = false)
    {u : State} (hu : u = s.onLink l (LinkInterface.write f.enables f.priorities)) :
    completes (.setNotices (linkNumber l) f) .officer s u 0xAC#8 (setNoticesReply .ok u l) := by
  refine completes_of rfl hidle ?_ rfl
  show serveSetNotices (linkNumber l) f s = _
  simp only [serveSetNotices, linkOf_linkNumber, h, hu]
  rfl

end

/-- Settles O49: the top kind, then each request by its refusals. -/
theorem noticeRequests : Obligations.NoticeRequests := by
  unfold Obligations.NoticeRequests
  rintro s l k rfl
  refine ⟨fun n => (topKind_eq_some _ n).trans ⟨fun h => ⟨h.inRange, ?_, fun m hm hc => h.least m hm ?_⟩,
      fun ⟨hn, hc, hleast⟩ => ⟨hn, ?_, fun m hm hcm => hleast m hm ?_⟩⟩,
    fun hidle => ⟨unserved_completes hidle, fun mask => ⟨(ackNotices_completes hidle mask).1, fun hmask u hu => ?_⟩⟩,
    fun hidle f => ⟨fun n => setNotices_beyond hidle f, fun number hnumber => ?_⟩⟩
  · simpa [LinkInterface.calls] using h.calls
  · simpa [LinkInterface.calls] using hc
  · simpa [LinkInterface.calls] using hc
  · simpa [LinkInterface.calls] using hcm
  · subst hu
    exact (ackNotices_completes hidle mask).2 hmask
  · obtain rfl : number = linkNumber l := hnumber.trans (by cases l <;> rfl)
    refine ⟨fun hrefused => setNotices_refused hidle ((setNoticesRefused_iff l f).mpr hrefused),
      fun hspare henables hpriorities e he u hu => setNotices_taken hidle ?_ ?_⟩
    · rw [← Bool.not_eq_true, setNoticesRefused_iff]
      rintro (h | ⟨m, hm, hbeyond⟩ | ⟨p, hp, n, hn, hne⟩)
      · exact absurd (hspare.symm.trans h) (by decide)
      · exact absurd (henables m hm) (Nat.not_lt.mpr hbeyond)
      · exact hne (hpriorities p hp n hn)
    · rw [hu, he, State.onLink, LinkInterface.write_spec]
      cases f.priorities <;> rfl

end Sys2Proof.Machine
end

section
/-! PROOFS. Section 10.1 of the spec: a desk reaches its own stage only (O53). What a desk cannot reach is a view of the
state (`State.beyondDesk`); every operation that a desk request runs leaves this view as it was. -/

namespace Sys2Proof.Machine

/-! ## What lies beyond a desk -/

/-- A stage with all that its desk can change set aside (R88). -/
def Stage.beyondDesk (g : Stage) : Stage :=
  ⟨{ g.record with trim := 0, lead := 0 }, ⟨false, false, false⟩, .opened, 0, 0, none⟩

def Curfew.beyondDesk (c : Curfew) : Curfew := { c with grant := .none, endSoon := false, total := 0, soonMinute := none }

def LinkInterface.beyondDesk (k : LinkInterface) : LinkInterface := { k with noticeSet := 0#16, alert := false }

/-- The state with all that one stage's desk can change set aside. -/
def State.beyondDesk (n : StageId) (s : State) : State :=
  { s with
    stages := s.stages.modify n Stage.beyondDesk
    curfew := s.curfew.modify n Curfew.beyondDesk
    pool := 0
    links := ⟨s.links.desk.set n State.reset.links.officer, s.links.officer.beyondDesk⟩ }

section
variable {s t : State} {n : StageId}

theorem get_of_modify_eq {α : Type} {a b : Bank4 α} {f : α → α} (h : b.modify n f = a.modify n f) :
    f (b.get n) = f (a.get n) ∧ ∀ m, m ≠ n → b.get m = a.get m := by
  have hget : ∀ m, (b.modify n f).get m = (a.modify n f).get m := fun m => congrArg (Bank4.get · m) h
  exact ⟨by simpa using hget n, fun m hm => by simpa [hm] using hget m⟩

theorem beyondDesk_record {g h : Stage} (e : h.beyondDesk = g.beyondDesk) :
    h.record = { g.record with trim := h.record.trim, lead := h.record.lead } := by
  have hrecord : ({ h.record with trim := 0, lead := 0 } : StageRecord) = { g.record with trim := 0, lead := 0 } :=
    congrArg Stage.record e
  simp only [StageRecord.mk.injEq] at hrecord
  obtain ⟨hcoupling, hfailsafe, hmode, hattack, hrelease, hfade, hresume, -, -⟩ := hrecord
  dsimp only
  rw [← hcoupling, ← hfailsafe, ← hmode, ← hattack, ← hrelease, ← hfade, ← hresume]

theorem beyondDesk_interface {k k' : LinkInterface} (h : k'.beyondDesk = k.beyondDesk) :
    k' = { k with noticeSet := k'.noticeSet, alert := k'.alert } := by
  simp only [LinkInterface.beyondDesk, LinkInterface.mk.injEq] at h
  obtain ⟨hreceiver, htransmitter, hheld, howed, -, henables, hpriorities, -⟩ := h
  rw [← hreceiver, ← htransmitter, ← hheld, ← howed, ← henables, ← hpriorities]

/-- Two states that agree beyond a stage's desk. -/
theorem beyondDesk_spec (h : t.beyondDesk n = s.beyondDesk n) :
    t = { s with
      stages := s.stages.set n (t.stages.get n), curfew := s.curfew.set n (t.curfew.get n)
      pool := t.pool, links := t.links } ∧
    (t.stages.get n).record = { (s.stages.get n).record with
      trim := (t.stages.get n).record.trim, lead := (t.stages.get n).record.lead } ∧
    (t.curfew.get n).zones = (s.curfew.get n).zones ∧
    (t.curfew.get n).onsetTag = (s.curfew.get n).onsetTag ∧
    (∀ m : StageId, m ≠ n → t.links.desk.get m = s.links.desk.get m) ∧
    t.links.officer = { s.links.officer with
      noticeSet := t.links.officer.noticeSet, alert := t.links.officer.alert } := by
  obtain ⟨hstage, hstages⟩ := get_of_modify_eq (congrArg State.stages h)
  obtain ⟨hunit, hcurfew⟩ := get_of_modify_eq (congrArg State.curfew h)
  have hdesks : t.links.desk.set n State.reset.links.officer = s.links.desk.set n State.reset.links.officer :=
    congrArg (fun u => u.links.desk) h
  have hofficer : t.links.officer.beyondDesk = s.links.officer.beyondDesk := congrArg (fun u => u.links.officer) h
  have hzones : (t.curfew.get n).beyondDesk.zones = (s.curfew.get n).beyondDesk.zones := congrArg Curfew.zones hunit
  have htag : (t.curfew.get n).beyondDesk.onsetTag = (s.curfew.get n).beyondDesk.onsetTag := congrArg Curfew.onsetTag hunit
  simp only [State.beyondDesk, State.mk.injEq] at h
  obtain ⟨hnow, hmode, htime, htables, haccounts, -, -, -, hpaths, hlist, hreports, hloop, -, horders, hpending⟩ := h
  refine ⟨state_ext hnow hmode htime htables haccounts (stages_eq_set hstages) rfl ?_ hpaths hlist hreports hloop rfl horders
      hpending,
    beyondDesk_record hstage, hzones, htag, fun m hm => ?_,
    beyondDesk_interface hofficer⟩
  · refine Bank4.eq_of_get fun i => ?_
    rw [Bank4.get_set]
    split
    · next hi => rw [hi]
    · next hi => exact hcurfew i hi
  · simpa [hm] using congrArg (Bank4.get · m) hdesks

/-! ## The operations that a desk request runs -/

theorem modify_set_self {α : Type} (b : Bank4 α) (f : α → α) {x : α} (h : f x = f (b.get n)) :
    (b.set n x).modify n f = b.modify n f := by
  simp [Bank4.modify, h]

theorem onStage_beyondDesk {f : Stage → Stage} (h : (f (s.stages.get n)).beyondDesk = (s.stages.get n).beyondDesk) :
    (s.onStage n f).beyondDesk n = s.beyondDesk n :=
  state_ext rfl rfl rfl rfl rfl (modify_set_self _ _ h) rfl rfl rfl rfl rfl rfl rfl rfl rfl

theorem onCurfew_beyondDesk {f : Curfew → Curfew} (h : (f (s.curfew.get n)).beyondDesk = (s.curfew.get n).beyondDesk) :
    (s.onCurfew n f).beyondDesk n = s.beyondDesk n :=
  state_ext rfl rfl rfl rfl rfl rfl rfl (modify_set_self _ _ h) rfl rfl rfl rfl rfl rfl rfl

theorem onLink_beyondDesk (f : LinkInterface → LinkInterface) : (s.onLink (.desk n) f).beyondDesk n = s.beyondDesk n := by
  refine state_ext rfl rfl rfl rfl rfl rfl rfl rfl rfl rfl rfl rfl ?_ rfl rfl
  simp [State.beyondDesk, State.onLink, Links.set]

theorem send_beyondDesk (message : List Byte) : (s.send (.desk n) message).beyondDesk n = s.beyondDesk n := by
  have hsend : s.send (.desk n) message = s.onLink (.desk n) fun k => { k with transmitter := some message } :=
    state_ext rfl rfl rfl rfl rfl rfl rfl rfl rfl rfl (by simp [State.send]) rfl rfl rfl rfl
  rw [hsend, onLink_beyondDesk]

theorem raiseOfficer_beyondDesk (k : OfficerNotice) : (s.raiseOfficer k).beyondDesk n = s.beyondDesk n := rfl

theorem raiseDeskIf_beyondDesk (c : Bool) (k : DeskNotice) : (s.raiseDeskIf c n k).beyondDesk n = s.beyondDesk n := by
  unfold State.raiseDeskIf
  split
  · exact onLink_beyondDesk _
  · rfl

theorem stage_beyondDesk_of_record {g h : Stage} (e : h.record = g.record) : h.beyondDesk = g.beyondDesk := by
  rw [Stage.beyondDesk, Stage.beyondDesk, e]

theorem changeStage_beyondDesk {f : Stage → Stage} (h : (f (s.stages.get n)).record = (s.stages.get n).record) :
    (s.changeStage n f).beyondDesk n = s.beyondDesk n :=
  (raiseDeskIf_beyondDesk _ _).trans (onStage_beyondDesk (stage_beyondDesk_of_record h))

theorem recomputeTarget_beyondDesk : (s.recomputeTarget n).beyondDesk n = s.beyondDesk n := by
  simp only [State.recomputeTarget]
  split
  · rfl
  · exact changeStage_beyondDesk (by simp)

theorem soonTest_beyondDesk : (s.soonTest n).beyondDesk n = s.beyondDesk n := by
  unfold State.soonTest
  split
  · split
    · exact (onLink_beyondDesk _).trans (onCurfew_beyondDesk rfl)
    · rfl
  · rfl

theorem takeDesk_beyondDesk (f : SetDeskFields) : (s.takeDesk n f).beyondDesk n = s.beyondDesk n := by
  have hstored : ((s.onStage n fun g => { g with record := g.record.writeDesk f }).onLink (.desk n)
      (LinkInterface.write (f.enables.map widenMask) f.priorities)).beyondDesk n = s.beyondDesk n :=
    (onLink_beyondDesk _).trans (onStage_beyondDesk rfl)
  rw [← hstored]
  simp only [State.takeDesk]
  split
  · rw [soonTest_beyondDesk]
    split
    · exact recomputeTarget_beyondDesk
    · rfl
  · split
    · exact recomputeTarget_beyondDesk
    · rfl

theorem endSoonTest_beyondDesk : (s.endSoonTest n).beyondDesk n = s.beyondDesk n := by
  simp only [State.endSoonTest]
  split
  · exact (onLink_beyondDesk _).trans (onCurfew_beyondDesk rfl)
  · rfl

theorem endGrantInCurfew_beyondDesk : (s.endGrantInCurfew n).beyondDesk n = s.beyondDesk n :=
  (onLink_beyondDesk _).trans ((changeStage_beyondDesk (by simp)).trans (onCurfew_beyondDesk rfl))

theorem returnMinutes_beyondDesk (m : Nat) : (s.returnMinutes n m).beyondDesk n = s.beyondDesk n :=
  onCurfew_beyondDesk (s := { s with pool := min Config.maxPool (s.pool + m) }) rfl

theorem drawMinutes_beyondDesk (m : Nat) : (s.drawMinutes n m).beyondDesk n = s.beyondDesk n :=
  onCurfew_beyondDesk (s := { s with pool := s.pool - m }) rfl

theorem startGrant_beyondDesk (w : EncoreCase) (g : Nat) : (s.startGrant n w g).beyondDesk n = s.beyondDesk n := by
  cases w with
  | before =>
    refine (raiseOfficer_beyondDesk .encore).trans ?_
    exact onCurfew_beyondDesk (f := fun c => { c with grant := .booked (c.grant.minutes + g) }) rfl
  | late => exact endSoonTest_beyondDesk.trans ((changeStage_beyondDesk (by simp)).trans (onCurfew_beyondDesk rfl))
  | extension =>
    refine endSoonTest_beyondDesk.trans (onCurfew_beyondDesk ?_)
    split <;> rfl

theorem serveEncore_beyondDesk (m : Nat) : (serveEncore n m s).1.beyondDesk n = s.beyondDesk n := by
  show (s.serveEncoreAsk n (clampTo 1 10 m)).2.2.beyondDesk n = _
  unfold State.serveEncoreAsk
  split
  · rfl
  · exact (startGrant_beyondDesk _ _).trans (drawMinutes_beyondDesk _)

theorem serveEncoreEnd_beyondDesk : (serveEncoreEnd n s).1.beyondDesk n = s.beyondDesk n := by
  show (s.serveEncoreEnd n).2.2.beyondDesk n = _
  unfold State.serveEncoreEnd
  split
  · rfl
  · exact (onCurfew_beyondDesk rfl).trans (returnMinutes_beyondDesk _)
  · exact endGrantInCurfew_beyondDesk.trans (returnMinutes_beyondDesk _)

theorem serveSetDesk_beyondDesk (f : SetDeskFields) : (serveSetDesk n f s).1.beyondDesk n = s.beyondDesk n := by
  unfold serveSetDesk
  split
  · rfl
  · exact takeDesk_beyondDesk f

theorem serveAckNotices_beyondDesk (m : BitVec 16) : (serveAckNotices (.desk n) m s).1.beyondDesk n = s.beyondDesk n := by
  unfold serveAckNotices
  split
  · rfl
  · exact onLink_beyondDesk _

/-- No service of a request on a desk link reaches beyond the desk (R177). -/
theorem serveRequest_beyondDesk (r : Request) : (serveRequest (.desk n) r s).1.beyondDesk n = s.beyondDesk n := by
  cases r
  case ackNotices m => exact serveAckNotices_beyondDesk m
  case setDesk f => exact serveSetDesk_beyondDesk f
  case encore m => exact serveEncore_beyondDesk m
  case encoreEnd => exact serveEncoreEnd_beyondDesk
  all_goals rfl

/-- Nor does a request that reaches a desk link, served, held or rejected (R161). -/
theorem requestReaches_beyondDesk (r : Request) : (s.requestReaches (.desk n) r).beyondDesk n = s.beyondDesk n := by
  cases htransmitter : (s.links.get (.desk n)).transmitter with
  | none =>
    rw [requestReaches_idle _ _ _ htransmitter]
    exact (send_beyondDesk _).trans (serveRequest_beyondDesk r)
  | some m =>
    cases hheld : (s.links.get (.desk n)).held with
    | none =>
      rw [requestReaches_held _ _ _ htransmitter hheld]
      exact onLink_beyondDesk _
    | some q =>
      rw [requestReaches_busy _ _ _ htransmitter hheld]
      exact onLink_beyondDesk _

end

/-- Settles O53: what lies beyond the desk is the same before and after. -/
theorem deskReachesItsOwnStageOnly : Obligations.DeskReachesItsOwnStageOnly := by
  unfold Obligations.DeskReachesItsOwnStageOnly
  intro c s n hdesk
  unfold fromDesk at hdesk
  split at hdesk
  · next l r hrequest =>
    obtain rfl : l = .desk n := of_decide_eq_true hdesk
    exact ⟨_, exec_of_requestOf hrequest s, beyondDesk_spec (requestReaches_beyondDesk r)⟩
  · exact absurd hdesk (by decide)

end Sys2Proof.Machine
end

section
/-! PROOFS. Section 10.3 of the spec: SET DESK (O50). Every field is stored first (`State.storeDesk`); a recomputed target
and the CURFEW_SOON test act on what is stored. -/

namespace Sys2Proof.Machine

/-! ## What touches one link -/

section
variable {s : State} {st : StageId} {l : LinkId}

theorem links_eq_set {k k' : Links} (h : ∀ m, m ≠ l → k'.get m = k.get m) : k' = k.set l (k'.get l) := by
  have hofficer : (k.set l (k'.get l)).officer = k'.officer := by
    cases l with
    | officer => rfl
    | desk n => exact (h .officer fun e => nomatch e).symm
  have hdesk : (k.set l (k'.get l)).desk = k'.desk := by
    refine Bank4.eq_of_get fun i => ?_
    show (k.set l (k'.get l)).get (.desk i) = k'.get (.desk i)
    rw [links_get_set]
    split
    · next hi => rw [hi]
    · next hi => exact (h _ hi).symm
  calc k' = ⟨k'.desk, k'.officer⟩ := rfl
    _ = k.set l (k'.get l) := by rw [← hdesk, ← hofficer]

theorem recomputeTarget_links_ne (h : l ≠ .desk st) : (s.recomputeTarget st).links.get l = s.links.get l := by
  simp only [State.recomputeTarget]
  split
  · rfl
  · rw [changeStage_links]
    split
    · exact links_get_set_ne _ h _
    · rfl

theorem soonTest_links_ne (h : l ≠ .desk st) : (s.soonTest st).links.get l = s.links.get l := by
  unfold State.soonTest
  split
  · split
    · exact links_get_set_ne _ h _
    · rfl
  · rfl

/-! ## The CURFEW_SOON test (R117) -/

/-- The test where the next onset is within the lead. -/
theorem soonTest_within {onset left : Nat} (honset : nextOnset s st = some onset) (hleft : minutesLeft s st = some left)
    (h : left ≤ (s.stages.get st).record.lead) :
    ((s.soonTest st).curfew.get st).soonMinute = some onset ∧
    ((s.curfew.get st).soonMinute ≠ some onset → noticeAt (.desk st) 2 (s.soonTest st) = true) := by
  unfold State.soonTest
  rw [honset, hleft]
  dsimp only
  rw [decide_eq_true h, Bool.true_and]
  by_cases hsame : (s.curfew.get st).soonMinute = some onset
  · rw [if_neg (by simpa using hsame)]
    exact ⟨hsame, fun hne => absurd hsame hne⟩
  · rw [if_pos (decide_eq_true hsame)]
    refine ⟨by simp, fun _ => ?_⟩
    exact (noticeAt_raiseDesk_self _ st .curfewSoon (by decide)).trans (Bool.or_true _)

/-- The test where the next onset is further off than the lead. -/
theorem soonTest_beyond {onset left : Nat} (honset : nextOnset s st = some onset) (hleft : minutesLeft s st = some left)
    (h : (s.stages.get st).record.lead < left) : s.soonTest st = s := by
  unfold State.soonTest
  rw [honset, hleft]
  dsimp only
  rw [decide_eq_false (Nat.not_le.mpr h), Bool.false_and, if_neg (by decide)]

/-- The next onset depends on a record's coupling only. -/
theorem nextOnset_of_coupling {t : State} (hrecord : (t.stages.get st).record.coupling = (s.stages.get st).record.coupling)
    (hzones : t.zones = s.zones) (htime : t.timeBase = s.timeBase) (htables : t.tables = s.tables) :
    nextOnset t st = nextOnset s st ∧ minutesLeft t st = minutesLeft s st := by
  have hreaches : reaches t st = reaches s st := by
    funext z
    simp only [reaches, hrecord, hzones]
  have honset : nextOnset t st = nextOnset s st := by
    simp only [nextOnset, State.minute, hreaches, htime, htables]
  exact ⟨honset, by simp only [minutesLeft, honset, State.minute, htime]⟩

end

/-! ## SET DESK taken -/

section
variable (s : State) (st : StageId) (f : SetDeskFields)

/-- The fields stored, and nothing done about them yet. -/
def State.storeDesk : State :=
  (s.onStage st fun g => { g with record := g.record.writeDesk f }).onLink (.desk st)
    (LinkInterface.write (f.enables.map widenMask) f.priorities)

/-- The target recomputed where a trim is given. -/
def State.trimmedDesk : State :=
  if f.trim.isSome then (s.storeDesk st f).recomputeTarget st else s.storeDesk st f

theorem takeDesk_eq : s.takeDesk st f =
    if f.lead.isSome then (s.trimmedDesk st f).soonTest st else s.trimmedDesk st f := rfl

theorem storeDesk_stage : (s.storeDesk st f).stages.get st =
    { s.stages.get st with record := (s.stages.get st).record.writeDesk f } := by
  simp [State.storeDesk]

theorem storeDesk_link : (s.storeDesk st f).links.get (.desk st) =
    (s.links.get (.desk st)).write (f.enables.map widenMask) f.priorities := by
  simp [State.storeDesk]

theorem trimmedDesk_stage :
    ((s.trimmedDesk st f).stages.get st).record = (s.stages.get st).record.writeDesk f ∧
    ((s.trimmedDesk st f).stages.get st).reasons = (s.stages.get st).reasons ∧
    (f.trim = none → (s.trimmedDesk st f).stages.get st =
      { s.stages.get st with record := (s.stages.get st).record.writeDesk f }) ∧
    (f.trim ≠ none → ((s.trimmedDesk st f).stages.get st).target = targetOf (s.storeDesk st f) st) := by
  have hstage := storeDesk_stage s st f
  unfold State.trimmedDesk
  cases htrim : f.trim with
  | none =>
    rw [Option.isSome_none, if_neg (by decide), hstage]
    exact ⟨rfl, rfl, fun _ => rfl, fun h => absurd rfl h⟩
  | some n =>
    rw [Option.isSome_some, if_pos rfl]
    refine ⟨?_, ?_, fun h => (nomatch h), fun _ => recomputeTarget_target _ _⟩
    · rw [recomputeTarget_record, hstage]
    · rw [recomputeTarget_reasons, hstage]

theorem takeDesk_stages : (s.takeDesk st f).stages = (s.trimmedDesk st f).stages := by
  rw [takeDesk_eq]
  split
  · simp
  · rfl

theorem takeDesk_targetOf : targetOf (s.takeDesk st f) st = targetOf (s.storeDesk st f) st := by
  refine targetOf_eq_of_inputs ?_ (by simp [State.storeDesk]) fun z _ => by simp [State.storeDesk, SameDemand.refl]
  rw [takeDesk_stages, storeDesk_stage, (trimmedDesk_stage s st f).1]
  exact ⟨rfl, rfl, rfl⟩

theorem trimmedDesk_frame : (s.trimmedDesk st f).zones = s.zones ∧ (s.trimmedDesk st f).timeBase = s.timeBase ∧
    (s.trimmedDesk st f).tables = s.tables ∧ (s.trimmedDesk st f).curfew = s.curfew := by
  unfold State.trimmedDesk
  split <;> simp [State.storeDesk]

theorem takeDesk_curfew :
    (s.takeDesk st f).curfew =
      s.curfew.set st { s.curfew.get st with soonMinute := ((s.takeDesk st f).curfew.get st).soonMinute } ∧
    (f.lead = none → (s.takeDesk st f).curfew = s.curfew) := by
  have hcurfew := (trimmedDesk_frame s st f).2.2.2
  rw [takeDesk_eq]
  split
  · next hlead =>
    refine ⟨?_, fun hnone => by simp [hnone] at hlead⟩
    rw [← hcurfew]
    exact soonTest_curfew _ _
  · exact ⟨by rw [hcurfew, Bank4.set_get], fun _ => hcurfew⟩

/-- The CURFEW_SOON test that a lead brings about, with the onset and the minutes left of before. -/
theorem takeDesk_soon (hlead : f.lead ≠ none) {onset left : Nat} (honset : nextOnset s st = some onset)
    (hleft : minutesLeft s st = some left) :
    (left ≤ ((s.stages.get st).record.writeDesk f).lead →
      ((s.takeDesk st f).curfew.get st).soonMinute = some onset ∧
      ((s.curfew.get st).soonMinute ≠ some onset → noticeAt (.desk st) 2 (s.takeDesk st f) = true)) ∧
    (((s.stages.get st).record.writeDesk f).lead < left → (s.takeDesk st f).curfew = s.curfew) := by
  obtain ⟨hzones, htime, htables, hcurfew⟩ := trimmedDesk_frame s st f
  have hrecord := (trimmedDesk_stage s st f).1
  obtain ⟨hnext, hminutes⟩ := nextOnset_of_coupling (t := s.trimmedDesk st f) (s := s) (st := st) (by rw [hrecord]; rfl)
    hzones htime htables
  rw [takeDesk_eq, if_pos (Option.isSome_iff_ne_none.mpr hlead), ← hrecord]
  refine ⟨fun hwithin => ?_, fun hbeyond => ?_⟩
  · rw [← hcurfew]
    exact soonTest_within (hnext.trans honset) (hminutes.trans hleft) hwithin
  · rw [soonTest_beyond (hnext.trans honset) (hminutes.trans hleft) hbeyond, hcurfew]

theorem takeDesk_links_ne {l : LinkId} (h : l ≠ .desk st) : (s.takeDesk st f).links.get l = s.links.get l := by
  have hstored : (s.storeDesk st f).links.get l = s.links.get l := links_get_set_ne _ h _
  have htrimmed : (s.trimmedDesk st f).links.get l = s.links.get l := by
    unfold State.trimmedDesk
    split
    · rw [recomputeTarget_links_ne h, hstored]
    · exact hstored
  rw [takeDesk_eq]
  split
  · rw [soonTest_links_ne h, htrimmed]
  · exact htrimmed

/-- A raising keeps ALERT in step with the sets. -/
theorem RaisedIn.alert {n : Nat} {k k' : LinkInterface} (h : RaisedIn n k k')
    (halert : k.alert = ((k.noticeSet &&& k.enables) != 0#16)) : k'.alert = ((k'.noticeSet &&& k'.enables) != 0#16) := by
  rcases h with rfl | ⟨m, -, rfl⟩
  · exact halert
  · rfl

theorem takeDesk_link :
    ((s.takeDesk st f).links.get (.desk st)).enables =
      (f.enables.map fun m => m.setWidth 16).getD (s.links.get (.desk st)).enables ∧
    ((s.takeDesk st f).links.get (.desk st)).priorities =
      writtenPriorities (s.links.get (.desk st)).priorities f.priorities ∧
    (f.enables ≠ none → ((s.takeDesk st f).links.get (.desk st)).alert =
      ((((s.takeDesk st f).links.get (.desk st)).noticeSet &&&
        ((s.takeDesk st f).links.get (.desk st)).enables) != 0#16)) := by
  have hraises : Raises (s.storeDesk st f).links (s.takeDesk st f).links := raises_takeDesk s st f
  have hstored := (storeDesk_link s st f).trans (LinkInterface.write_spec _ _ _)
  obtain ⟨-, -, -, -, henables, hpriorities⟩ := hraises.keeps (.desk st)
  rw [henables, hpriorities, hstored]
  refine ⟨rfl, rfl, fun hgiven => ?_⟩
  rw [← congrArg LinkInterface.enables hstored, ← henables]
  refine (hraises.link (.desk st)).alert ?_
  obtain ⟨m, hm⟩ := Option.ne_none_iff_exists'.mp hgiven
  rw [hstored, hm]
  rfl

end

theorem setDeskRefused_iff (st : StageId) (f : SetDeskFields) :
    setDeskRefused st f = true ↔ f.spareBits = true ∨ ∃ m ∈ f.enables, 64 ≤ m.toNat := by
  rw [setDeskRefused, Bool.or_eq_true]
  refine or_congr .rfl ?_
  cases f.enables with
  | none => simp
  | some m =>
    have hwiden : (widenMask m).toNat = m.toNat := BitVec.toNat_setWidth_of_le (by decide)
    simp [maskBeyond, linkKinds, hwiden]

/-- The top kind depends on the sets and the priorities only (R165). -/
theorem topFrom_congr {k k' : LinkInterface} (h : k'.calls = k.calls) (n : Nat) (ps : List Nat) :
    topFrom k' n ps = topFrom k n ps := by
  induction ps generalizing n with
  | nil => rfl
  | cons p ps ih => rw [topFrom, topFrom, h, ih]

theorem topKind_sending (k : LinkInterface) (m : Option (List Byte)) :
    ({ k with transmitter := m } : LinkInterface).topKind = k.topKind :=
  congrArg (Option.map Prod.fst) (topFrom_congr (k := k) (k' := { k with transmitter := m }) rfl 0 k.priorities)

theorem deskReply_send (code : ReplyCode) (u : State) (st : StageId) (message : List Byte) :
    deskReply code (u.send (.desk st) message) st = deskReply code u st := by
  have hlink : (u.send (.desk st) message).links.get (.desk st) =
      { u.links.get (.desk st) with transmitter := some message } := by
    rw [send_links, links_get_set_self]
  simp only [deskReply, hlink, topKind_sending]
  rfl

/-- Settles O50: `setDeskRefused` answers the refusals, and `takeDesk` stores the fields before any acts. -/
theorem setDeskRequest : Obligations.SetDeskRequest := by
  unfold Obligations.SetDeskRequest
  rintro s st f hidle g rfl k rfl
  refine ⟨fun hrefused => completes_of rfl hidle ?_ rfl, ?_⟩
  · show serveSetDesk st f s = _
    rw [serveSetDesk, (setDeskRefused_iff st f).mpr hrefused]
    rfl
  rintro hspare henables r rfl priorities hpriorities
  have hfits : setDeskRefused st f = false := by
    rw [← Bool.not_eq_true, setDeskRefused_iff]
    rintro (h | ⟨m, hm, hbeyond⟩)
    · exact absurd (hspare.symm.trans h) (by decide)
    · exact absurd (henables m hm) (Nat.not_lt.mpr hbeyond)
  have hserve : serveSetDesk st f s = (s.takeDesk st f, deskReply .ok (s.takeDesk st f) st) := by
    rw [serveSetDesk, hfits]
    rfl
  obtain rfl : priorities = writtenPriorities (s.links.get (.desk st)).priorities f.priorities :=
    hpriorities.trans (by cases f.priorities <;> rfl)
  obtain ⟨hrecord, hreasons, hkept, htarget⟩ := trimmedDesk_stage s st f
  rw [← takeDesk_stages] at hrecord hreasons hkept htarget
  rw [← takeDesk_targetOf] at htarget
  have hcurfews := takeDesk_curfew s st f
  have hsoon := fun hlead onset left honset hleft => takeDesk_soon s st f hlead (onset := onset) (left := left) honset hleft
  have hlinks := takeDesk_link s st f
  have hothers := fun l h => takeDesk_links_ne s st f (l := l) h
  obtain ⟨hframe, -⟩ := beyondDesk_spec (takeDesk_beyondDesk (s := s) (n := st) f)
  have hpool : (s.takeDesk st f).pool = s.pool := by simp
  generalize s.takeDesk st f = u at hserve hrecord hreasons hkept htarget hcurfews hsoon hlinks hothers hframe hpool
  obtain ⟨hcurfew, hnolead⟩ := hcurfews
  obtain ⟨hsets, hprio, halert⟩ := hlinks
  have hstages : u.stages = s.stages.set st (u.stages.get st) := congrArg State.stages hframe
  have hdone : completes (.setDesk st f) (.desk st) s u 0x83#8 (deskReply .ok u st) := completes_of rfl hidle hserve rfl
  refine leadsTo_of hdone ?_
  generalize hmessage : messageFrame 0x83#8 (deskReply .ok u st) = message
  have hlink : (u.send (.desk st) message).links.get (.desk st) =
      { u.links.get (.desk st) with transmitter := some message } := by rw [send_links, links_get_set_self]
  refine ⟨?frame, hstages, links_eq_set fun m hm => ?others, hrecord, hreasons, hkept, htarget, hcurfew, hnolead,
    fun hlead onset left honset hleft => ⟨fun hwithin => ?soon, (hsoon hlead onset left honset hleft).2⟩, ?enables, ?priorities,
    fun hgiven => ?alert, ?reply⟩
  case frame =>
    refine (send_desk_eq hframe).trans (state_ext rfl rfl rfl rfl rfl hstages.symm hpool ?_ rfl rfl rfl rfl rfl rfl rfl)
    exact (congrArg State.curfew hframe).symm
  case others => rw [send_links, links_get_set_ne _ hm, hothers m hm]
  case soon =>
    obtain ⟨hminute, hnotice⟩ := (hsoon hlead onset left honset hleft).1 hwithin
    exact ⟨hminute, fun hne => (noticeAt_send _ _ _ _ _).trans (hnotice hne)⟩
  case enables => rw [hlink]; exact hsets
  case priorities => rw [hlink]; exact hprio
  case alert => rw [hlink]; exact halert hgiven
  case reply => rw [← hmessage, sentReply_send, deskReply_send]

end Sys2Proof.Machine
end

section
/-! PROOFS. Section 11.6 of the spec: RESTART (O51). The exceedance list starts afresh (`FreshList`): only an overtaken
report opens a record in it, and each zone's report only once. The stages, reset to MUTED at full attenuation, take
CURFEW again and their targets without a notice (`Hushed`). -/

namespace Sys2Proof.Machine

/-! ## The list that a RESTART empties (R155) -/

/-- The links of a RESTART: every pending set empty, but for RECORD_OPENED where the emptied list holds a record. -/
def freshLinks (k : Links) (l : List Exceedance) : Links :=
  k.emptyNotices.set .officer
    ({ k.officer with noticeSet := if l = [] then 0#16 else 8#16 } : LinkInterface).refreshAlert

/-- A list of the records that some reports have opened, with no notice raised but RECORD_OPENED. -/
structure FreshList (sent : List SentReport) (k : Links) (t : State) : Prop where
  kept : listKept t.exceedances
  opened : ∀ r ∈ t.exceedances.records, r.cause = none ∧ r.duration = 1 ∧
    ∃ q ∈ sent, r.zone = q.report.zone ∧ q.report.active (r.metric, r.kind) = true
  links : t.links = freshLinks k t.exceedances.records

section
variable {s t : State} {k : Links} {sent : List SentReport} {stages : Bank4 Bool} {c : CloseReport}
  {p : Metric × RecordKind}

theorem FreshList.mono {sent' : List SentReport} (h : FreshList sent k t) (hsub : ∀ q ∈ sent, q ∈ sent') :
    FreshList sent' k t where
  kept := h.kept
  links := h.links
  opened r hr := by
    obtain ⟨hcause, hduration, q, hq, hfor⟩ := h.opened r hr
    exact ⟨hcause, hduration, q, hsub q hq, hfor⟩

/-- A list of open records only has room (R144, R145). -/
theorem FreshList.room (h : FreshList sent k t) : ¬48 ≤ t.exceedances.records.length := fun hfull => by
  obtain ⟨-, -, -, hnodup⟩ := h.kept
  obtain ⟨r, hr, hclosed⟩ := exists_closed hnodup hfull
  simp [Exceedance.isOpen, (h.opened r hr).1] at hclosed

/-- A report updates and closes nothing where no record is of its zone. -/
theorem servePair_of_no_record (h : ∀ r ∈ t.exceedances.records, r.zone ≠ c.zone) : t.servePair c stages p = t := by
  have hfor : ∀ r ∈ t.exceedances.records, r.isFor c.zone p = false := fun r hr => by
    simp [Exceedance.isFor, h r hr]
  have htaken : takePair c stages p t.exceedances.records = t.exceedances.records := by
    rw [takePair, List.map_congr_left (g := id) fun r hr => by simp [hfor r hr], List.map_id]
  have hcloses : closesPair c p t.exceedances.records = false := by
    rw [closesPair, List.any_eq_false.mpr fun r hr => by simp [hfor r hr], Bool.and_false]
  simp only [State.servePair, htaken, hcloses]
  rfl

theorem freshLinks_raise (l : List Exceedance) :
    (freshLinks k l).set .officer (((freshLinks k l).get .officer).raise OfficerNotice.recordOpened.position) =
      k.emptyNotices.set .officer ({ k.officer with noticeSet := 8#16 } : LinkInterface).refreshAlert := by
  have hbit : (if l = [] then 0#16 else 8#16) ||| noticeBit OfficerNotice.recordOpened.position = 8#16 := by
    split <;> decide
  simp only [freshLinks, links_set_set, links_get_set_self, LinkInterface.raise, LinkInterface.refreshAlert, hbit]

/-- A pair of a report opens its record in a list that has room, with RECORD_OPENED raised. -/
theorem FreshList.openPair {q : SentReport} (h : FreshList sent k t) (hq : q ∈ sent) :
    FreshList sent k (t.openPair q.report stages p) := by
  have hkept : listKept (t.openPair q.report stages p).exceedances := by
    rw [openPair_exceedances]
    exact listKept_openPair h.kept
  cases hopens : q.report.active p && !t.exceedances.records.any (Exceedance.isFor q.report.zone p) with
  | false =>
    have hsame : t.openPair q.report stages p = t := by simp only [State.openPair, hopens, Bool.false_eq_true, if_false]
    rwa [hsame]
  | true =>
    have hroom : makeRoom t.exceedances.records = t.exceedances.records := if_neg h.room
    have hfull : decide (Config.recordList ≤ t.exceedances.records.length) = false := decide_eq_false h.room
    have heq : t.openPair q.report stages p =
        ({ t with exceedances := ⟨t.exceedances.records ++ [openedRecord t.exceedances.counter q.report stages p],
          (t.exceedances.counter + 1) % 65536⟩ } : State).raiseOfficer .recordOpened := by
      simp only [State.openPair, hopens, hroom, hfull]
      rfl
    refine ⟨hkept, ?_, ?_⟩
    · rw [heq]
      intro r hr
      rcases List.mem_append.mp hr with hold | hnew
      · exact h.opened r hold
      · obtain rfl := List.mem_singleton.mp hnew
        exact ⟨rfl, rfl, q, hq, rfl, (Bool.and_eq_true_iff.mp hopens).1⟩
    · have hsome : t.exceedances.records ++ [openedRecord t.exceedances.counter q.report stages p] ≠ [] := by simp
      rw [heq, State.raiseOfficer, onLink_links]
      show t.links.set .officer ((t.links.get .officer).raise _) = freshLinks k (t.exceedances.records ++ _)
      rw [h.links, freshLinks_raise, freshLinks, if_neg hsome]

/-- A report whose zone has no record yet only opens records. -/
theorem FreshList.takeReport {q : SentReport} (h : FreshList sent k t)
    (hzone : ∀ r ∈ sent, r.report.zone ≠ q.report.zone) :
    FreshList (q :: sent) k (t.takeReportSeeing stages q.report) := by
  have hnone : ∀ r ∈ t.exceedances.records, r.zone ≠ q.report.zone := by
    intro r hr
    obtain ⟨-, -, x, hx, hfor, -⟩ := h.opened r hr
    exact hfor ▸ hzone x hx
  have hserved : recordPairs.foldl (fun s p => s.servePair q.report stages p) t = t :=
    List.foldlRecOn (motive := fun u => u = t) _ _ rfl fun u hu p _ => by rw [hu, servePair_of_no_record hnone]
  unfold State.takeReportSeeing
  rw [hserved]
  exact List.foldlRecOn (motive := FreshList (q :: sent) k) _ _ (h.mono fun _ => List.mem_cons_of_mem q)
    fun u hu p _ => hu.openPair List.mem_cons_self

/-- The overtaken reports, each of another zone, open records only. -/
theorem FreshList.takeOvertaken (o : Interleaving) (l : List SentReport)
    (hnodup : ((l ++ sent).map fun r => r.report.zone).Nodup) (h : FreshList sent k t) :
    FreshList (l ++ sent) k (t.takeOvertaken o l) := by
  unfold State.takeOvertaken
  induction l generalizing sent t with
  | nil => exact h
  | cons q l ih =>
    rw [List.cons_append, List.map_cons, List.nodup_cons] at hnodup
    obtain ⟨hnew, hrest⟩ := hnodup
    have hzone : ∀ r ∈ sent, r.report.zone ≠ q.report.zone := fun r hr heq =>
      hnew (heq ▸ List.mem_map_of_mem (f := fun r => r.report.zone) (List.mem_append_right l hr))
    have hmoved : ((l ++ q :: sent).map fun r => r.report.zone).Nodup := by
      rw [List.map_append, List.map_cons, List.nodup_middle, ← List.map_append]
      exact List.nodup_cons.mpr ⟨hnew, hrest⟩
    rw [List.foldl_cons]
    refine (ih hmoved (h.takeReport hzone)).mono fun x hx => ?_
    simp only [List.mem_append, List.mem_cons] at hx ⊢
    tauto

/-- The list of a RESTART, with at most one report kept for a zone. -/
theorem freshList_restartList (o : Interleaving) (hlinks : s.links = k.emptyNotices)
    (hnodup : (s.reports.map fun r => r.report.zone).Nodup) :
    FreshList (s.overtaken o) k (s.restartList o) := by
  have hempty : FreshList [] k (s.emptyList (s.overtaken o)) := by
    refine ⟨⟨Nat.zero_le _, Nat.mod_lt _ (by decide), fun r hr => (nomatch hr), List.nodup_nil⟩,
      fun r hr => (nomatch hr), ?_⟩
    exact hlinks.trans rfl
  have hsub : ((s.overtaken o ++ []).map fun r : SentReport => r.report.zone).Nodup := by
    rw [List.append_nil]
    exact hnodup.sublist (List.filter_sublist.map _)
  have htaken := hempty.takeOvertaken o _ hsub
  rwa [List.append_nil] at htaken

end

/-! ## The stages that a RESTART resets (R112, R126) -/

/-- MUTED at full attenuation, with no ramp. -/
def Stage.Hushed (g : Stage) : Prop := g.gain = .muted ∧ g.applied = 96 ∧ g.ramp = none

/-- Every stage hushed, over links that stay as they are. -/
def AllHushed (k : Links) (t : State) : Prop := (∀ i, (t.stages.get i).Hushed) ∧ t.links = k

theorem eachStage_invariant {P : State → Prop} {f : StageId → State → State} {s : State}
    (hf : ∀ st t, P t → P (f st t)) (h : P s) : P (s.eachStage f) :=
  List.foldlRecOn (motive := P) allStages _ h fun t ht st _ => hf st t ht

section
variable {g : Stage} {t : State} {k : Links} {st : StageId}

theorem addCurfew_hushed (h : g.Hushed) (now : Nat) :
    g.addCurfew now = { g with reasons := { g.reasons with curfew := true } } := by
  simp only [Stage.addCurfew, Stage.takeDown, h.1]

theorem retarget_hushed (h : g.Hushed) (now n : Nat) : g.retarget now n = { g with target := n } := by
  simp only [Stage.retarget, h.1]

/-- A change of a hushed unit that leaves it hushed raises nothing. -/
theorem AllHushed.changeStage {f : Stage → Stage} (h : AllHushed k t) (hf : (f (t.stages.get st)).Hushed) :
    AllHushed k (t.changeStage st f) := by
  obtain ⟨hstages, hlinks⟩ := h
  refine ⟨fun i => ?_, ?_⟩
  · rw [changeStage_stages, Bank4.get_modify]
    split
    · next hi => exact hi ▸ hf
    · exact hstages i
  · rw [changeStage_links, (hstages st).2.1, if_neg (fun hzero => absurd hzero.1 (by decide)), hlinks]

theorem AllHushed.curfewAgain (h : AllHushed k t) : AllHushed k (t.curfewAgain st) := by
  unfold State.curfewAgain
  split
  · exact h
  · refine h.changeStage ?_
    obtain ⟨hgain, happlied, hramp⟩ := h.1 st
    rw [addCurfew_hushed (h.1 st)]
    exact ⟨hgain, happlied, hramp⟩

theorem AllHushed.recomputeTarget (h : AllHushed k t) : AllHushed k (t.recomputeTarget st) := by
  simp only [State.recomputeTarget]
  split
  · exact h
  · refine h.changeStage ?_
    obtain ⟨hgain, happlied, hramp⟩ := h.1 st
    rw [retarget_hushed (h.1 st)]
    exact ⟨hgain, happlied, hramp⟩

/-- A stage in curfew takes the reason CURFEW again (R126). -/
theorem curfewAgain_hushed (h : AllHushed k t) (hreasons : (t.stages.get st).reasons = ⟨true, false, false⟩) :
    (t.curfewAgain st).stages.get st =
      { t.stages.get st with reasons := ⟨true, false, !noZone (t.curfew.get st).zones⟩ } := by
  unfold State.curfewAgain
  split
  · next hempty =>
    rw [hempty, Bool.not_true, ← hreasons]
  · next hheld =>
    rw [changeStage_stages, Bank4.get_modify_self, addCurfew_hushed (h.1 st), hreasons, (Bool.not_eq_true _).mp hheld]
    rfl

/-- The curfew round of a RESTART at one stage. -/
theorem curfewAgains_hushed (h : AllHushed k t) (hreasons : (t.stages.get st).reasons = ⟨true, false, false⟩) :
    (t.eachStage State.curfewAgain).stages.get st =
      { t.stages.get st with reasons := ⟨true, false, !noZone (t.curfew.get st).zones⟩ } := by
  refine (eachStage_establishes
    (P := fun u => AllHushed k u ∧ u.curfew = t.curfew ∧ u.stages.get st = t.stages.get st)
    (Q := fun u => u.stages.get st =
      { t.stages.get st with reasons := ⟨true, false, !noZone (t.curfew.get st).zones⟩ })
    st ⟨h, rfl, rfl⟩ ?_ ?_ ?_)
  · rintro j u hj ⟨hall, hcurfew, hstage⟩
    exact ⟨hall.curfewAgain, by simp [hcurfew], by rw [curfewAgain_other u hj.symm, hstage]⟩
  · rintro u ⟨hall, hcurfew, hstage⟩
    rw [curfewAgain_hushed hall (hstage ▸ hreasons), hstage, hcurfew]
  · intro j u hj hstage
    rw [curfewAgain_other u hj.symm, hstage]

end

/-! ## RESTART taken (R195) -/

section
variable (s : State)

/-- The state with every block and the list reset, before the CURFEW reasons and the targets. -/
def State.blocksRestarted : State := s.takeOrder.2.resetBlocks.restartList s.takeOrder.1

theorem restartAll_eq :
    s.restartAll = ((s.blocksRestarted.eachStage State.curfewAgain).recomputeTargets).arbitrate := rfl

theorem blocksRestarted_frame :
    s.blocksRestarted.zones = s.zones.map Zone.restart ∧ s.blocksRestarted.stages = s.stages.map Stage.restart ∧
    s.blocksRestarted.pool = 0 ∧ s.blocksRestarted.curfew = s.curfew.map Curfew.restart ∧
    s.blocksRestarted.paths = s.paths.map (Path.restart s.now) := by
  simp [State.blocksRestarted, State.resetBlocks]

theorem blocksRestarted_list (h : (s.reports.map fun r => r.report.zone).Nodup) :
    FreshList (s.reports.filter fun r => decide (r.moment = s.now)) s.links s.blocksRestarted := by
  have hreports : s.takeOrder.2.resetBlocks.reports = s.reports := by simp [State.resetBlocks]
  have hnow : s.takeOrder.2.resetBlocks.now = s.now := by simp [State.resetBlocks]
  have hlinks : s.takeOrder.2.resetBlocks.links = s.links.emptyNotices := by simp [State.resetBlocks]
  refine (freshList_restartList s.takeOrder.1 hlinks (hreports ▸ h)).mono fun q hq => ?_
  obtain ⟨hmem, hsame⟩ := List.mem_filter.mp hq
  rw [hreports] at hmem
  rw [hnow] at hsame
  exact List.mem_filter.mpr ⟨hmem, (Bool.and_eq_true_iff.mp hsame).1⟩

theorem blocksRestarted_hushed : AllHushed s.blocksRestarted.links s.blocksRestarted := by
  refine ⟨fun i => ?_, rfl⟩
  rw [(blocksRestarted_frame s).2.1, Bank4.get_map]
  exact ⟨rfl, rfl, rfl⟩

theorem restartAll_links : s.restartAll.links = s.blocksRestarted.links := by
  have hcurfew : AllHushed s.blocksRestarted.links (s.blocksRestarted.eachStage State.curfewAgain) :=
    eachStage_invariant (fun _ _ h => h.curfewAgain) (blocksRestarted_hushed s)
  have htargets : AllHushed s.blocksRestarted.links (s.blocksRestarted.eachStage State.curfewAgain).recomputeTargets := by
    unfold State.recomputeTargets
    exact eachStage_invariant (fun _ _ h => h.recomputeTarget) hcurfew
  rw [restartAll_eq]
  generalize (s.blocksRestarted.eachStage State.curfewAgain).recomputeTargets = w at htargets ⊢
  exact htargets.2

theorem restartAll_exceedances : s.restartAll.exceedances = s.blocksRestarted.exceedances := by
  rw [restartAll_eq]
  simp [eachStage_keeps State.exceedances State.curfewAgain (fun _ _ => by simp)]

theorem restartAll_blocks :
    s.restartAll.zones = s.zones.map Zone.restart ∧ s.restartAll.pool = 0 ∧
    s.restartAll.curfew = s.curfew.map Curfew.restart ∧ s.restartAll.paths = s.paths.map (Path.restart s.now) := by
  obtain ⟨hzones, -, hpool, hcurfew, hpaths⟩ := blocksRestarted_frame s
  rw [restartAll_eq]
  simp [hzones, hpool, hcurfew, hpaths, eachStage_keeps State.zones State.curfewAgain (fun _ _ => by simp),
    eachStage_keeps State.pool State.curfewAgain (fun _ _ => by simp),
    eachStage_keeps State.curfew State.curfewAgain (fun _ _ => by simp),
    eachStage_keeps State.paths State.curfewAgain (fun _ _ => by simp)]

theorem restartAll_stage (st : StageId) : s.restartAll.stages.get st = { s.stages.get st with
    reasons := ⟨true, false, !noZone (s.curfew.get st).zones⟩
    gain := .muted, target := targetOf s.restartAll st, applied := 96, ramp := none } := by
  obtain ⟨-, hstages, -, hcurfew, -⟩ := blocksRestarted_frame s
  have hreset : s.blocksRestarted.stages.get st = (s.stages.get st).restart := by rw [hstages, Bank4.get_map]
  have hset : (s.blocksRestarted.curfew.get st).zones = (s.curfew.get st).zones := by
    rw [hcurfew, Bank4.get_map]
    rfl
  have hagain := curfewAgains_hushed (blocksRestarted_hushed s) (st := st) (by rw [hreset]; rfl)
  rw [hreset, hset] at hagain
  rw [restartAll_eq]
  generalize s.blocksRestarted.eachStage State.curfewAgain = v at hagain ⊢
  have hget : v.recomputeTargets.stages.get st = { v.stages.get st with target := targetOf v st } := by
    rw [recomputeTargets_get, recomputeTarget_get]
    split
    · next hsame => rw [hsame]
    · exact retarget_hushed (by rw [hagain]; exact ⟨rfl, rfl, rfl⟩) _ _
  have htarget := targetOf_recomputeTargets v st
  generalize v.recomputeTargets = w at hget htarget ⊢
  show w.stages.get st = { s.stages.get st with
    reasons := ⟨true, false, !noZone (s.curfew.get st).zones⟩
    gain := .muted, target := targetOf w st, applied := 96, ramp := none }
  rw [hget, htarget, hagain]
  rfl

end

theorem zone_restart_eq (zn : Zone) :
    (zn.enabled = false → zn.restart = zn) ∧
    (zn.enabled = true → zn.restart = { Zone.reset with config := zn.config, enabled := true, feed := .fed }) := by
  refine ⟨fun hoff => if_neg (by simp [hoff]), fun hon => ?_⟩
  rw [Zone.restart, if_pos hon]
  rfl

theorem path_restart_eq (now : Nat) (p : Path) :
    (p.state = .idle → p.restart now = { p with alarms := AlarmSet.empty }) ∧
    (p.state ≠ .idle → p.restart now = { p with
      state := .aligning, buffer := [], writeIndex := none, alarms := AlarmSet.empty
      watch := .present (now + 1000) }) := by
  refine ⟨fun hidle => ?_, fun hactive => ?_⟩
  · simp only [Path.restart, hidle]
  · cases hstate : p.state with
    | idle => exact absurd hstate hactive
    | _ => simp only [Path.restart, hstate]; rfl

theorem slots_restart_eq (k : Loop) : k.restart =
    { k with
      slots := k.slots.map fun u =>
        if u.state = .vacant then u
        else { UnitSlot.reset with state := .seeking, zone := u.zone, serial := u.serial }
      scan := none, identifyFirst := false
      flight := k.flight.map fun f => { f with disregarded := true } } := by
  have hslot : UnitSlot.restart = fun u =>
      if u.state = .vacant then u
      else { UnitSlot.reset with state := .seeking, zone := u.zone, serial := u.serial } := by
    funext u
    unfold UnitSlot.restart
    split
    · next hvacant => rw [if_pos hvacant]
    · next hother => rw [if_neg hother]
  rw [Loop.restart, hslot]

/-- The interface of a link after a RESTART whose reply is being sent. -/
theorem restart_link (k : Links) (l : LinkId) (records : List Exceedance) (message : List Byte) (n : BitVec 16)
    (hn : n = if l = .officer ∧ records ≠ [] then 8#16 else 0#16) :
    ((freshLinks k records).set .officer
        { (freshLinks k records).get .officer with transmitter := some message }).get l =
      { k.get l with
        noticeSet := n, alert := (n &&& (k.get l).enables) != 0#16
        transmitter := if l = .officer then some message else (k.get l).transmitter } := by
  cases l with
  | desk i =>
    obtain rfl : n = 0#16 := hn.trans (if_neg fun h => absurd h.1 (by simp))
    have hother : LinkId.desk i ≠ .officer := fun h => nomatch h
    rw [links_get_set_ne _ hother, freshLinks, links_get_set_ne _ hother, emptyNotices_get]
    rfl
  | officer =>
    obtain rfl : n = if records = [] then 0#16 else 8#16 := hn.trans (by by_cases h : records = [] <;> simp [h])
    rw [links_get_set_self, freshLinks, links_get_set_self]
    rfl

/-- Settles O51: `restartAll` item by item, with the list and the links by `FreshList`. -/
theorem restartRequest : Obligations.RestartRequest := by
  unfold Obligations.RestartRequest
  intro s hidle
  refine ⟨fun hshow => completes_of rfl hidle ?_ rfl, fun hsetup => ?_⟩
  · show serveRestart s = _
    simp only [serveRestart, hshow, Mode.isShow, restartReply]
    rfl
  have hserve : serveRestart s = (s.restartAll, [0#8, 0#8]) := by
    have hmode : s.restartAll.mode = s.mode := by simp
    simp only [serveRestart, restartReply, hmode, hsetup, Mode.isShow]
    rfl
  have hdone : completes .restart .officer s s.restartAll 0xAD#8 [0#8, 0#8] := completes_of rfl hidle hserve rfl
  obtain ⟨hzones, hpool, hcurfew, hpaths⟩ := restartAll_blocks s
  obtain ⟨hnow, hmode, htime, htables, hpending⟩ := restartAll_frame s
  have hstage := restartAll_stage s
  have hloop := restartAll_loop s
  have hlist := restartAll_exceedances s
  have hlinks := restartAll_links s
  have hquiet : s.exceedances.counter < 65536 → (∀ r ∈ s.reports, r.moment ≠ s.now) →
      s.restartAll.exceedances = ⟨[], s.exceedances.counter⟩ := by
    intro hcounter hnone
    have hkept : s.takeOrder.2.resetBlocks.exceedances = s.exceedances := by simp [State.resetBlocks]
    have hovertaken : s.takeOrder.2.resetBlocks.overtaken s.takeOrder.1 = [] :=
      List.filter_eq_nil_iff.mpr fun r hr => by
        simp only [State.resetBlocks, takeOrder_frame] at hr ⊢
        simp [hnone r hr]
    rw [hlist, State.blocksRestarted, restartList_none _ _ hovertaken (hkept.symm ▸ hcounter), hkept]
  have hfresh := blocksRestarted_list s
  generalize s.blocksRestarted = v at hlist hlinks hfresh
  generalize s.restartAll = u at hdone hzones hpool hcurfew hpaths hnow hmode htime htables hpending hstage hloop hlist hlinks hquiet
  refine leadsTo_of hdone ⟨?frame, hquiet, fun hreports => ⟨fun r hr => ?opened, ?link⟩, fun z zn hzn => ?zone,
    fun st => ⟨hstage st, ?unit, fun p hp => ?path⟩, fun slots hslots => ?loop⟩
  case frame =>
    exact state_ext hnow hmode htime htables rfl rfl hpool rfl rfl rfl (by simp [State.send]) rfl rfl rfl hpending
  case opened =>
    obtain ⟨hcause, hduration, q, hq, hfor, hactive⟩ := (hfresh hreports.1).opened r (hlist ▸ hr)
    obtain ⟨hmem, hmoment⟩ := List.mem_filter.mp hq
    exact ⟨hcause, hduration, q, hmem, of_decide_eq_true hmoment, hfor, hactive⟩
  case link =>
    intro l n hn
    rw [send_links, hlinks, (hfresh hreports.1).links, ← hlist]
    exact restart_link _ l _ _ n hn
  case zone =>
    subst hzn
    show ((s.zones.get z).enabled = false → u.zones.get z = _) ∧ ((s.zones.get z).enabled = true → u.zones.get z = _)
    rw [hzones, Bank8.get_map]
    exact zone_restart_eq _
  case unit =>
    show u.curfew.get st = _
    rw [hcurfew, Bank4.get_map]
    rfl
  case path =>
    subst hp
    show ((s.paths.get st).state = .idle → u.paths.get st = _) ∧ ((s.paths.get st).state ≠ .idle → u.paths.get st = _)
    rw [hpaths, Bank4.get_map]
    exact path_restart_eq _ _
  case loop =>
    subst hslots
    show u.loop = _
    rw [hloop, slots_restart_eq]

end Sys2Proof.Machine
end

section
/-! PROOFS. Section 9.1 of the spec: the characters of a line and the receiver's judging (O47). A receiver that meets no
event only changes its own state (`State.listening`); the bytes of a message are read by one induction
(`receive_known`), up to the byte that ends it (`receive_frameEnd`). -/

namespace Sys2Proof.Machine

/-! ## Characters (R156) -/

theorem byteOfBits_getLsbD (l : List Bool) {i : Nat} (h : i < 8) : (byteOfBits l).getLsbD i = l.getD i false := by
  induction l generalizing i with
  | nil => simp [byteOfBits]
  | cons b l ih =>
    show ((byteOfBits l <<< 1) ||| (if b then 1#8 else 0#8)).getLsbD i = _
    rw [BitVec.getLsbD_or, BitVec.getLsbD_shiftLeft]
    cases i with
    | zero => cases b <;> simp
    | succ i =>
      have hbit : (if b then 1#8 else 0#8).getLsbD (i + 1) = false := by cases b <;> simp
      rw [hbit, Bool.or_false, List.getD_cons_succ, Nat.add_sub_cancel, ih (by omega)]
      simp [h]

/-- A byte is read back from its bits. -/
theorem byteOfBits_bits (b : Byte) :
    byteOfBits [b.getLsbD 0, b.getLsbD 1, b.getLsbD 2, b.getLsbD 3, b.getLsbD 4, b.getLsbD 5, b.getLsbD 6, b.getLsbD 7] = b := by
  refine BitVec.eq_of_getLsbD_eq fun i hi => ?_
  rw [byteOfBits_getLsbD _ hi]
  interval_cases i <;> rfl

/-- The parity of some bits is that of the number of ones among them. -/
theorem foldl_xor_toNat (l : List Bool) (a : Bool) :
    (l.foldl xor a).toNat = (a.toNat + l.count true) % 2 := by
  induction l generalizing a with
  | nil => cases a <;> rfl
  | cons b l ih =>
    rw [List.foldl_cons, ih, List.count_cons]
    cases a <;> cases b <;> simp <;> omega

theorem lineError_iff (c : LineByte) :
    c.lineError = false ↔ ((c.bits.drop 1).take 9).count true % 2 = 0 ∧ c.bits.getLast? = some true := by
  have hparity : ((c.bits.drop 1).take 9).foldl xor false = (evenParity c.byte ^^ c.parity) := by
    simp [LineByte.bits, evenParity]
  have hcount := foldl_xor_toNat ((c.bits.drop 1).take 9) false
  rw [hparity, Bool.toNat_false, Nat.zero_add] at hcount
  have hlast : c.bits.getLast? = some c.stop := rfl
  rw [← hcount, hlast, LineByte.lineError, LineByte.parityError, LineByte.framingError]
  cases evenParity c.byte <;> cases c.parity <;> cases c.stop <;> decide

theorem bits_spec (c : LineByte) :
    c.bits.length = 11 ∧ c.bits.head? = some false ∧
    (∀ i : Nat, i < 8 → c.bits.getD (i + 1) false = c.byte.getLsbD i) ∧
    (c.lineError = false ↔ ((c.bits.drop 1).take 9).count true % 2 = 0 ∧ c.bits.getLast? = some true) ∧
    LineByte.ofBits c.bits = some c := by
  refine ⟨rfl, rfl, fun i hi => ?_, lineError_iff c, ?_⟩
  · interval_cases i <;> rfl
  · show some (⟨byteOfBits _, c.parity, c.stop⟩ : LineByte) = some c
    rw [byteOfBits_bits]

/-! ## The bytes of a line (R157) -/

/-- A link's interface with its receiver in some state. -/
def State.listening (l : LinkId) (r : Receiver) (s : State) : State := s.onLink l fun k => { k with receiver := r }

section
variable {s : State} {l : LinkId} {r r' : Receiver} {b : LineByte}

theorem listening_listening : (s.listening l r).listening l r' = s.listening l r' := by
  simp [State.listening, State.onLink]

theorem listening_self (h : (s.links.get l).receiver = r) : s.listening l r = s := by
  subst h
  exact state_ext rfl rfl rfl rfl rfl rfl rfl rfl rfl rfl rfl rfl (links_eq_set fun _ _ => rfl).symm rfl rfl

theorem listening_receiver : ((s.listening l r).links.get l).receiver = r := by
  simp [State.listening]

theorem receive_cons (bytes : List LineByte) : s.receive l (b :: bytes) = (s.receiveByte l b).receive l bytes := rfl

/-- A byte that brings nothing about. -/
theorem receiveByte_quiet (h : r.take b = (r', none)) : (s.listening l r).receiveByte l b = s.listening l r' := by
  simp only [State.receiveByte, listening_receiver, h]
  exact listening_listening

/-- A byte that brings an event about. -/
theorem receiveByte_event {e : RxEvent} (h : r.take b = (r', some e)) :
    (s.listening l r).receiveByte l b = (s.listening l r').rxEvent l e := by
  simp only [State.receiveByte, listening_receiver, h]
  exact congrArg (fun u : State => u.rxEvent l e) listening_listening

theorem take_hunting (h : b.byte = 0xA5#8 → b.lineError = true) : Receiver.hunting.take b = (.hunting, none) := by
  have hmark : (!b.lineError && b.byte == 0xA5#8) = false := by
    by_cases hbyte : b.byte = 0xA5#8
    · rw [h hbyte]; rfl
    · rw [beq_false_of_ne hbyte, Bool.and_false]
  simp only [Receiver.take, hmark, Bool.false_eq_true, if_false]

theorem receive_hunting (bytes : List LineByte) (h : ∀ b ∈ bytes, b.byte = 0xA5#8 → b.lineError = true) :
    (s.listening l .hunting).receive l bytes = s.listening l .hunting := by
  induction bytes with
  | nil => rfl
  | cons b bytes ih =>
    obtain ⟨hb, hrest⟩ := List.forall_mem_cons.mp h
    rw [receive_cons, receiveByte_quiet (take_hunting hb), ih hrest]

theorem receiveByte_start :
    (s.listening l .hunting).receiveByte l (.sound 0xA5#8) = s.listening l (.inMessage .awaited [] false) :=
  receiveByte_quiet (by simp [Receiver.take])

theorem receiveByte_length {n : Byte} (hlow : 1 ≤ n.toNat) (hhigh : n.toNat ≤ 240) :
    (s.listening l (.inMessage .awaited [] false)).receiveByte l (.sound n) =
      s.listening l (.inMessage (.known n.toNat) [] false) :=
  receiveByte_quiet (by simp [Receiver.take, hlow, hhigh])

theorem receiveByte_badLength {n : Byte} (h : n.toNat = 0 ∨ 240 < n.toNat) :
    (s.listening l (.inMessage .awaited [] false)).receiveByte l (.sound n) =
      (s.listening l .hunting).rxEvent l .badLength := by
  have hbad : ¬(1 ≤ n.toNat ∧ n.toNat ≤ 240) := by omega
  refine receiveByte_event ?_
  simp only [Receiver.take, sound_lineError, sound_byte, Bool.false_eq_true, if_false]
  refine if_neg fun hrange => ?_
  obtain ⟨hlow, hhigh⟩ := Bool.and_eq_true_iff.mp hrange
  exact hbad ⟨of_decide_eq_true hlow, of_decide_eq_true hhigh⟩

theorem receiveByte_lengthError (h : b.lineError = true) :
    (s.listening l (.inMessage .awaited [] false)).receiveByte l b = s.listening l (.inMessage .unknown [] true) :=
  receiveByte_quiet (by simp only [Receiver.take, h, if_true])

/-- After a line error in the length byte nothing is read until a gap (R158). -/
theorem receive_unknown (bytes : List LineByte) :
    (s.listening l (.inMessage .unknown [] true)).receive l bytes = s.listening l (.inMessage .unknown [] true) := by
  induction bytes with
  | nil => rfl
  | cons b bytes ih => rw [receive_cons, receiveByte_quiet rfl, ih]

variable {n : Nat} {got : List Byte} {e : Bool}

theorem take_known (h : got.length < n) : (Receiver.inMessage (.known n) got e).take b =
    (.inMessage (.known n) (got ++ [b.byte]) (e || b.lineError), none) := by
  simp only [Receiver.take, List.length_append, List.length_singleton]
  exact if_neg (by omega)

theorem take_last (h : n ≤ got.length) : (Receiver.inMessage (.known n) got e).take b =
    (.hunting, some (.frameEnd n (got ++ [b.byte]) (e || b.lineError))) := by
  simp only [Receiver.take, List.length_append, List.length_singleton]
  exact if_pos (by omega)

/-- The bytes of a message before its last. -/
theorem receive_known (bytes : List LineByte) (h : got.length + bytes.length ≤ n) :
    (s.listening l (.inMessage (.known n) got e)).receive l bytes =
      s.listening l (.inMessage (.known n) (got ++ bytes.map LineByte.byte) (e || bytes.any LineByte.lineError)) := by
  induction bytes generalizing got e with
  | nil => simp [State.receive]
  | cons b bytes ih =>
    rw [List.length_cons] at h
    rw [receive_cons, receiveByte_quiet (take_known (by omega)), ih (by simp; omega)]
    simp [Bool.or_assoc]

/-- The bytes of a message to its last. -/
theorem receive_frameEnd (bytes : List LineByte) (hgot : got.length ≤ n) (h : got.length + bytes.length = n + 1) :
    (s.listening l (.inMessage (.known n) got e)).receive l bytes =
      (s.listening l .hunting).rxEvent l
        (.frameEnd n (got ++ bytes.map LineByte.byte) (e || bytes.any LineByte.lineError)) := by
  induction bytes generalizing got e with
  | nil =>
    rw [List.length_nil] at h
    omega
  | cons b bytes ih =>
    rw [List.length_cons] at h
    rw [receive_cons]
    by_cases hlast : got.length = n
    · obtain rfl : bytes = [] := List.length_eq_zero_iff.mp (by omega)
      rw [receiveByte_event (take_last hlast.ge)]
      simp [State.receive]
    · rw [receiveByte_quiet (take_known (by omega)), ih (by simp; omega) (by simp; omega)]
      simp [Bool.or_assoc]

end

/-! ## What a receiver owes and hands on (R157 to R160) -/

/-- The state after a reject is owed: an IDLE transmitter sends it at once (R161). -/
def State.rejected (l : LinkId) (s : State) (code : Reject) : State :=
  { s with
    reports := if (s.links.get l).transmitter = none ∧ l = .officer then [] else s.reports
    links := s.links.set l (
      if (s.links.get l).transmitter = none then
        { s.links.get l with transmitter := some (messageFrame 0xFF#8 [code.byte]) }
      else
        { s.links.get l with
          owed := if code ∈ (s.links.get l).owed then (s.links.get l).owed else (s.links.get l).owed ++ [code] }) }

section
variable {s : State} {l : LinkId}

theorem oweReject_eq (hidle : (s.links.get l).transmitter = none → (s.links.get l).owed = []) (code : Reject) :
    s.oweReject l code = s.rejected l code := by
  simp only [State.oweReject, State.rejected]
  rw [onLink_links, links_get_set_self, owe_eq]
  cases htransmitter : (s.links.get l).transmitter with
  | none =>
    have howed := hidle htransmitter
    dsimp only
    rw [nextMessage_owed (c := code) (rest := []) (by simp [howed, owe_eq])]
    simp [howed, owe_eq]
  | some m => simp [State.onLink, owe_eq, htransmitter]

theorem dropMessage_eq (hhunting : (s.links.get l).receiver = .hunting)
    (hidle : (s.links.get l).transmitter = none → (s.links.get l).owed = []) (r : Receiver) :
    (s.listening l r).dropMessage l = s.rejected l .line := by
  have hback : (s.listening l r).listening l .hunting = s := by rw [listening_listening, listening_self hhunting]
  rw [← oweReject_eq hidle]
  exact congrArg (fun u : State => u.oweReject l .line) hback

theorem gap_inMessage (hhunting : (s.links.get l).receiver = .hunting)
    (hidle : (s.links.get l).transmitter = none → (s.links.get l).owed = []) (n : RxLength) (got : List Byte) (e : Bool) :
    (s.listening l (.inMessage n got e)).gap l = s.rejected l .line := by
  simp only [State.gap, listening_receiver]
  exact dropMessage_eq hhunting hidle _

theorem breakFound_listening (hhunting : (s.links.get l).receiver = .hunting) (r : Receiver) :
    (s.listening l r).breakFound l =
      { s with links := s.links.set l { s.links.get l with held := none, owed := [] } } := by
  simp [State.breakFound, State.listening, State.onLink, hhunting]

/-- What a sound message names, by kind, link and length (R160). -/
def judgedRequest (l : LinkId) (kind : Byte) (payload : List Byte) : Option Request :=
  if !kindKnown kind.toNat then some (.unknownKind kind)
  else if !kindPermitted l kind.toNat then some (.forbidden kind)
  else readPayload l kind.toNat payload

/-- A judged message reaches the interface as its request, or owes REJECT FORMAT (R160). -/
def State.takeJudged (l : LinkId) (r : Option Request) (s : State) : State :=
  match r with
  | none => s.oweReject l .format
  | some r => s.requestReaches l r

theorem rxEvent_frameEnd (n : Nat) (bytes : List Byte) :
    s.rxEvent l (.frameEnd n bytes false) = s.takeJudged l (judgeMessage l n bytes) := rfl

/-- A message of the right check and no line error is judged by kind, link and length (R160). -/
theorem judgeMessage_frame (l : LinkId) (kind : Byte) (payload : List Byte) :
    judgeMessage l (payload.length + 1)
        (kind :: payload ++ [0#8 - byteSum (byteOf (payload.length + 1) :: kind :: payload)]) =
      judgedRequest l kind payload := by
  have hsum : byteSum (byteOf (payload.length + 1) ::
      (kind :: payload ++ [0#8 - byteSum (byteOf (payload.length + 1) :: kind :: payload)])) = 0#8 := by
    rw [← List.cons_append, byteSum, List.foldl_append]
    show byteSum _ + (0#8 - byteSum _) = 0#8
    simp
  rw [judgeMessage, if_neg (not_not_intro hsum), List.dropLast_concat]
  rfl

section
variable (hhunting : (s.links.get l).receiver = .hunting)
include hhunting

/-- The bytes of a message up to its last. -/
theorem receive_message {n : Byte} (hlow : 1 ≤ n.toNat) (hhigh : n.toNat ≤ 240) {rest : List LineByte}
    (h : rest.length = n.toNat + 1) :
    s.receive l (.sound 0xA5#8 :: .sound n :: rest) =
      s.rxEvent l (.frameEnd n.toNat (rest.map LineByte.byte) (rest.any LineByte.lineError)) := by
  have hself : s.listening l .hunting = s := listening_self hhunting
  calc s.receive l (.sound 0xA5#8 :: .sound n :: rest)
      = (s.listening l .hunting).receive l (.sound 0xA5#8 :: .sound n :: rest) := by rw [hself]
    _ = (s.listening l (.inMessage (.known n.toNat) [] false)).receive l rest := by
      rw [receive_cons, receive_cons, receiveByte_start, receiveByte_length hlow hhigh]
    _ = s.rxEvent l (.frameEnd n.toNat (rest.map LineByte.byte) (rest.any LineByte.lineError)) := by
      rw [receive_frameEnd rest (Nat.zero_le _) (by simpa using h), hself, List.nil_append, Bool.false_or]

/-- The bytes of a message that is not complete. -/
theorem receive_partial {n : Byte} (hlow : 1 ≤ n.toNat) (hhigh : n.toNat ≤ 240) {rest : List LineByte}
    (h : rest.length ≤ n.toNat) :
    s.receive l (.sound 0xA5#8 :: .sound n :: rest) =
      s.listening l (.inMessage (.known n.toNat) (rest.map LineByte.byte) (rest.any LineByte.lineError)) := by
  calc s.receive l (.sound 0xA5#8 :: .sound n :: rest)
      = (s.listening l .hunting).receive l (.sound 0xA5#8 :: .sound n :: rest) := by rw [listening_self hhunting]
    _ = (s.listening l (.inMessage (.known n.toNat) [] false)).receive l rest := by
      rw [receive_cons, receive_cons, receiveByte_start, receiveByte_length hlow hhigh]
    _ = _ := by rw [receive_known rest (by simpa using h), List.nil_append, Bool.false_or]

/-- A start mark and a length byte with a line error, with whatever follows. -/
theorem receive_lengthError {n : LineByte} (h : n.lineError = true) (rest : List LineByte) :
    s.receive l (.sound 0xA5#8 :: n :: rest) = s.listening l (.inMessage .unknown [] true) := by
  calc s.receive l (.sound 0xA5#8 :: n :: rest)
      = (s.listening l .hunting).receive l (.sound 0xA5#8 :: n :: rest) := by rw [listening_self hhunting]
    _ = _ := by rw [receive_cons, receive_cons, receiveByte_start, receiveByte_lengthError h, receive_unknown]

theorem receive_badLength {n : Byte} (h : n.toNat = 0 ∨ 240 < n.toNat) :
    s.receive l [.sound 0xA5#8, .sound n] = s.rxEvent l .badLength := by
  have hself : s.listening l .hunting = s := listening_self hhunting
  calc s.receive l [.sound 0xA5#8, .sound n]
      = (s.listening l .hunting).receive l [.sound 0xA5#8, .sound n] := by rw [hself]
    _ = (s.listening l .hunting).rxEvent l .badLength := by
      rw [receive_cons, receive_cons, receiveByte_start, receiveByte_badLength h]
      rfl
    _ = s.rxEvent l .badLength := by rw [hself]

theorem receive_noise {bytes : List LineByte} (h : ∀ b ∈ bytes, b.byte = 0xA5#8 → b.lineError = true) :
    s.receive l bytes = s := by
  have hself : s.listening l .hunting = s := listening_self hhunting
  rw [← hself, receive_hunting bytes h]

/-- A sound message is judged by kind, link and length (R160). -/
theorem receive_sound (kind : Byte) {payload : List Byte} (h : payload.length ≤ 239) :
    s.receive l ((messageFrame kind payload).map LineByte.sound) =
      s.takeJudged l (judgedRequest l kind payload) := by
  have hlength : (byteOf (payload.length + 1)).toNat = payload.length + 1 :=
    Nat.mod_eq_of_lt (show payload.length + 1 < 256 by omega)
  have hbytes : ∀ bytes : List Byte, (bytes.map LineByte.sound).map LineByte.byte = bytes := fun bytes => by
    rw [List.map_map]
    exact List.map_id _
  have hsound : ∀ bytes : List Byte, (bytes.map LineByte.sound).any LineByte.lineError = false := fun bytes => by simp
  have hreceived := receive_message (l := l) hhunting (n := byteOf (payload.length + 1)) (by omega) (by omega)
    (rest := (kind :: payload ++ [0#8 - byteSum (byteOf (payload.length + 1) :: kind :: payload)]).map LineByte.sound)
    (by simp [hlength])
  rw [hbytes, hsound, hlength] at hreceived
  rw [rxEvent_frameEnd, judgeMessage_frame] at hreceived
  exact hreceived

end

end

/-- The kinds of R170 and those a link permits, as the spec gives them. -/
theorem kindKnown_eq (k : Nat) : kindKnown k = decide ((1 ≤ k ∧ k ≤ 7) ∨ (0x10 ≤ k ∧ k ≤ 0x2D)) := by
  simp [kindKnown]

theorem kindPermitted_eq (l : LinkId) (k : Nat) :
    kindPermitted l k = decide (if l = .officer then 6 ≤ k else k ≤ 7) := by
  cases l <;> simp [kindPermitted]

/-- Settles O47: the characters, then each command by what the receiver makes of its bytes. -/
theorem receiverJudgesMessages : Obligations.ReceiverJudgesMessages := by
  unfold Obligations.ReceiverJudgesMessages
  refine ⟨fun c bits hbits => hbits ▸ bits_spec c, ?_⟩
  rintro s l k rfl hhunting hidle rejected hrejected start rfl
  have hreject : ∀ code, s.oweReject l code = rejected code := fun code => by
    rw [oweReject_eq hidle, hrejected]
    rfl
  have hgap : ∀ n got e, (s.listening l (.inMessage n got e)).gap l = rejected .line := fun n got e => by
    rw [gap_inMessage hhunting hidle, ← oweReject_eq hidle, hreject]
  have hend : ∀ bytes, exec (.messageEnd l bytes) s = .next (s.receive l bytes) := fun _ => rfl
  have hpause : ∀ bytes, exec (.interByteGap l bytes) s = .next ((s.receive l bytes).gap l) := fun _ => rfl
  have hrest : ∀ bytes, exec (.lengthErrorIdle l bytes) s = .next ((s.receive l bytes).idleAfterLengthError l) :=
    fun _ => rfl
  have hbreak : ∀ bytes, exec (.breakLine l bytes) s = .next ((s.receive l bytes).breakFound l) := fun _ => rfl
  refine ⟨fun bytes hnoise => ?_, fun kind payload hlength bytes hbytes known hknown permitted hpermitted => ?_,
    fun n hlow hhigh rest => ⟨fun hfull => ⟨fun herror => ?_, fun hsound hcheck => ?_⟩, fun hpart => ⟨?_, ?_⟩⟩,
    fun n hn => ?_, fun n rest hn => ⟨?_, ?_⟩, ?_⟩
  · have hself := receive_noise hhunting hnoise
    rw [hend, hpause, hrest, hbreak, hself]
    refine ⟨rfl, ?_, ?_, ?_⟩
    · simp only [State.gap, hhunting]
    · simp only [State.idleAfterLengthError, hhunting]
    · rw [← listening_self hhunting, breakFound_listening hhunting, listening_self hhunting]
  · subst hbytes
    have hreceived := receive_sound hhunting kind hlength
    rw [judgedRequest, kindKnown_eq, kindPermitted_eq, ← hknown, ← hpermitted] at hreceived
    rw [hend, hreceived]
    refine ⟨?_, ?_, ?_⟩
    · rintro rfl
      exact (exec_of_requestOf rfl s).symm
    · rintro rfl rfl
      exact (exec_of_requestOf rfl s).symm
    · rintro rfl rfl
      refine ⟨fun hread => ?_, fun c r hc hread => ?_⟩
      · rw [hread, ← hreject]
        rfl
      · rw [hread, exec_of_requestOf hc s]
        rfl
  · have hany : rest.any LineByte.lineError = true := List.any_eq_true.mpr herror
    rw [hend, receive_message hhunting hlow hhigh hfull, hany, ← hreject]
    rfl
  · have hnone : rest.any LineByte.lineError = false := List.any_eq_false.mpr fun b hb => by simp [hsound b hb]
    have hjudged : judgeMessage l n.toNat (rest.map LineByte.byte) = none := by
      rw [judgeMessage, byteOf, BitVec.ofNat_toNat, BitVec.setWidth_eq, if_pos hcheck]
    rw [hend, receive_message hhunting hlow hhigh hfull, hnone, rxEvent_frameEnd, hjudged, ← hreject]
    rfl
  · rw [hpause, receive_partial hhunting hlow hhigh hpart, hgap]
  · rw [hbreak, receive_partial hhunting hlow hhigh hpart, breakFound_listening hhunting]
  · show Host.Outcome.next (s.receive l _) = _
    rw [receive_badLength hhunting hn, ← hreject]
    rfl
  · rw [hrest, receive_lengthError hhunting hn, ← hgap .unknown [] true]
    simp only [State.idleAfterLengthError, State.gap, listening_receiver]
  · rw [hpause, receive_lengthError hhunting hn, hgap]
  · have hstart : s.receive l [.sound 0xA5#8] = s.listening l (.inMessage .awaited [] false) := by
      calc s.receive l [.sound 0xA5#8]
          = (s.listening l .hunting).receive l [.sound 0xA5#8] := by rw [listening_self hhunting]
        _ = _ := receiveByte_start
    rw [hpause, hstart, hgap]

end Sys2Proof.Machine
end

section
/-! PROOFS. Section 7.1 of the spec: the frames of an audio line are read back from their bits (part of O46). A list of
bits is read back from the list's own bit string, and the bits of one channel are a chunk of the frame's. -/

namespace Sys2Proof.Machine

/-! ## Samples (R127) -/

theorem sampleBits_getD (x : Int) {i : Nat} (h : i < 24) :
    (sampleBits x).getD i false = (BitVec.ofInt 24 x).getLsbD (23 - i) := by
  simp [sampleBits, List.getD_eq_getElem?_getD, h]

/-- The number that a list of bits spells, where the bits are those of a bit string, most significant first. -/
theorem ofBoolListBE_toNat {l : List Bool} {x : BitVec 24} (hlength : l.length = 24)
    (hbits : ∀ i, i < 24 → l.getD i false = x.getLsbD (23 - i)) : (BitVec.ofBoolListBE l).toNat = x.toNat := by
  refine Nat.eq_of_testBit_eq fun i => ?_
  rw [← BitVec.getLsbD, ← BitVec.getLsbD, BitVec.getLsbD_ofBoolListBE, hlength]
  by_cases hi : i < 24
  · rw [decide_eq_true hi, Bool.true_and, hbits _ (by omega)]
    congr 1
    omega
  · rw [decide_eq_false hi, Bool.false_and, BitVec.getLsbD_of_ge _ _ (Nat.le_of_not_lt hi)]

theorem sampleOfBits_eq {l : List Bool} (h : l.length = 24) :
    sampleOfBits l = ((BitVec.ofBoolListBE l).toNat : Int).bmod (2 ^ 24) := by
  rw [sampleOfBits, BitVec.toInt_eq_toNat_bmod]
  generalize (BitVec.ofBoolListBE l).toNat = n
  rw [h]

/-- A sample is read back from its bits, in two's complement (R127, log entry 45). -/
theorem sampleOfBits_sampleBits {x : Int} (h : fitsSample x = true) : sampleOfBits (sampleBits x) = x := by
  obtain ⟨hlow, hhigh⟩ := Bool.and_eq_true_iff.mp h
  have hlow := of_decide_eq_true hlow
  have hhigh := of_decide_eq_true hhigh
  calc sampleOfBits (sampleBits x)
      = ((BitVec.ofBoolListBE (sampleBits x)).toNat : Int).bmod (2 ^ 24) := sampleOfBits_eq (sampleBits_length x)
    _ = ((BitVec.ofInt 24 x).toNat : Int).bmod (2 ^ 24) := by
        rw [ofBoolListBE_toNat (sampleBits_length x) fun i hi => sampleBits_getD x hi]
    _ = x.bmod (2 ^ 24) := by rw [← BitVec.toInt_eq_toNat_bmod, BitVec.toInt_ofInt]
    _ = x := Int.bmod_eq_of_le (by norm_num; omega) (by norm_num; omega)

/-! ## Frames (R127) -/

/-- A chunk of some chunks of one length. -/
theorem flatMap_chunk {α β : Type} {g : α → List β} {n : Nat} (hg : ∀ a, (g a).length = n) (l : List α) {i : Nat} {a : α}
    (h : l[i]? = some a) : ((l.flatMap g).drop (n * i)).take n = g a := by
  induction l generalizing i with
  | nil => simp at h
  | cons b l ih =>
    rw [List.flatMap_cons]
    cases i with
    | zero =>
      obtain rfl : b = a := by simpa using h
      rw [Nat.mul_zero, List.drop_zero, List.take_append_of_le_length (hg b).ge, List.take_of_length_le (hg b).le]
    | succ i =>
      rw [Nat.mul_succ, Nat.add_comm, ← List.drop_drop, List.drop_append_of_le_length (hg b).ge,
        List.drop_of_length_le (hg b).le, List.nil_append]
      exact ih (by simpa using h)

section
variable {f : Frame}

theorem frame_getElem (f : Frame) (c : Fin 8) : f.toList[c.val]? = some (f.get c) := by
  fin_cases c <;> rfl

/-- The bits of one channel. -/
theorem frameBits_chunk (f : Frame) (c : Fin 8) : ((frameBits f).drop (24 * c.val)).take 24 = sampleBits (f.get c) :=
  flatMap_chunk sampleBits_length _ (frame_getElem f c)

theorem frameBits_getD (f : Frame) (c : Fin 8) {i : Nat} (h : i < 24) :
    (frameBits f).getD (24 * c.val + i) false = (BitVec.ofInt 24 (f.get c)).getLsbD (23 - i) := by
  rw [← sampleBits_getD _ h, ← frameBits_chunk f c]
  simp [List.getD_eq_getElem?_getD, h]

theorem frameOfBits_frameBits (h : f.wf = true) : frameOfBits (frameBits f) = some f := by
  rw [frameOfBits, if_pos (frameBits_length f)]
  refine congrArg some (Bank8.eq_of_get fun c => ?_)
  have hfits : fitsSample (f.get c) = true := List.all_eq_true.mp h _ (List.mem_of_getElem? (frame_getElem f c))
  rw [Bank8.get_ofFn, channelOfBits, frameBits_chunk, sampleOfBits_sampleBits hfits]

end

end Sys2Proof.Machine
end

section
/-! PROOFS. Section 9.4 and Chapters 10 and 11 of the spec: every request is read back from its payload (O46). A field is
read back from the front of what follows it (`takeNumber_byte`, `takeNumber_word`, `takeField_chunk`), its presence from
the presence byte (`presenceByte_bit`). -/

namespace Sys2Proof.Machine

/-! ## Numbers in bytes (R169) -/

theorem byteOf_toNat (n : Nat) : (byteOf n).toNat = n % 256 := BitVec.toNat_ofNat n 8

theorem byteOf_toNat_of_fits {n : Nat} (h : fitsByte n = true) : (byteOf n).toNat = n := by
  rw [byteOf_toNat, Nat.mod_eq_of_lt (of_decide_eq_true h)]

theorem word2_bytes {n : Nat} (h : n < 65536) : word2 (byteOf (n / 256)) (byteOf n) = n := by
  rw [word2, byteOf_toNat, byteOf_toNat]
  omega

theorem numberOf_bytes2 {n : Nat} (h : n < 65536) : numberOf (bytes2 n) = n := by
  have hword := word2_bytes h
  rw [word2] at hword
  simpa [numberOf, bytes2] using hword

theorem numberOf_bytes3 {n : Nat} (h : n < 16777216) : numberOf (bytes3 n) = n := by
  simp only [numberOf, bytes3, List.foldl_cons, List.foldl_nil, byteOf_toNat]
  omega

/-! ## The presence byte (R190) -/

/-- The number whose bits are some flags. -/
def flagSum (flags : List Bool) : Nat := (flags.mapIdx fun i b => bitOf b i).sum

theorem flagSum_cons (b : Bool) (flags : List Bool) : flagSum (b :: flags) = 2 * flagSum flags + b.toNat := by
  have hshift : (fun i (b : Bool) => bitOf b (i + 1)) = fun i b => 2 * bitOf b i := by
    funext i b
    cases b
    · rfl
    · simp [bitOf, Nat.pow_succ, Nat.mul_comm]
  have hdouble : ∀ l : List Nat, (l.map (2 * ·)).sum = 2 * l.sum := fun l => List.sum_map_mul_left l id 2 |>.trans (by simp)
  have hbit : bitOf b 0 = b.toNat := by cases b <;> rfl
  have hmap : (flags.mapIdx fun i b => 2 * bitOf b i) = (flags.mapIdx fun i b => bitOf b i).map (2 * ·) := by
    rw [List.mapIdx_eq_zipIdx_map, List.mapIdx_eq_zipIdx_map, List.map_map]
    rfl
  rw [flagSum, List.mapIdx_cons, List.sum_cons, hbit, hshift, hmap, hdouble, ← flagSum, Nat.add_comm]

theorem flagSum_lt (flags : List Bool) : flagSum flags < 2 ^ flags.length := by
  induction flags with
  | nil => exact Nat.one_pos
  | cons b flags ih =>
    have hb := Bool.toNat_le b
    rw [flagSum_cons, List.length_cons, Nat.pow_succ]
    omega

theorem flagSum_testBit (flags : List Bool) (i : Nat) : (flagSum flags).testBit i = flags.getD i false := by
  induction flags generalizing i with
  | nil => exact Nat.zero_testBit i
  | cons b flags ih =>
    have hb := Bool.toNat_lt b
    rw [flagSum_cons]
    cases i with
    | zero => cases b <;> simp [Nat.testBit_zero]
    | succ i =>
      rw [Nat.testBit_succ, List.getD_cons_succ, ← ih, show (2 * flagSum flags + b.toNat) / 2 = flagSum flags by omega]

section
variable {flags : List Bool} {spare : Bool}

theorem presenceByte_toNat (h : flags.length ≤ 8) : (presenceByte flags spare).toNat =
    2 ^ flags.length * (if spare then 2 ^ (8 - flags.length) - 1 else 0) + flagSum flags := by
  have hlt := flagSum_lt flags
  have hpow : 2 ^ flags.length * 2 ^ (8 - flags.length) = 256 := by
    rw [← Nat.pow_add, Nat.add_sub_cancel' h]
  have hle : 2 ^ flags.length ≤ 256 := Nat.le_of_dvd (by decide) ⟨_, hpow.symm⟩
  rw [presenceByte, byteOf_toNat, ← flagSum]
  cases spare with
  | false =>
    simp only [Bool.false_eq_true, if_false, Nat.mul_zero]
    omega
  | true =>
    rw [if_pos rfl, if_pos rfl, Nat.mul_sub_one, hpow]
    omega

/-- A flag is read back from its bit. -/
theorem presenceByte_bit (h : flags.length ≤ 8) {i : Nat} (hi : i < flags.length) :
    (presenceByte flags spare).getLsbD i = flags.getD i false := by
  rw [BitVec.getLsbD, presenceByte_toNat h, Nat.testBit_two_pow_mul_add _ (flagSum_lt flags), if_pos hi, flagSum_testBit]

/-- The bits beyond the flags are read back as one. -/
theorem presenceByte_spare {n : Nat} (hn : flags.length = n) (h : n < 8) :
    spareSet (presenceByte flags spare) n = spare := by
  subst hn
  have hlt := flagSum_lt flags
  rw [spareSet, presenceByte_toNat h.le]
  cases spare with
  | false => exact decide_eq_false (by simpa using hlt)
  | true =>
    have hmany : 1 ≤ 2 ^ (8 - flags.length) - 1 := by
      have : 2 ^ 1 ≤ 2 ^ (8 - flags.length) := Nat.pow_le_pow_right (by decide) (by omega)
      omega
    have hle : 2 ^ flags.length * 1 ≤ 2 ^ flags.length * (2 ^ (8 - flags.length) - 1) := Nat.mul_le_mul_left _ hmany
    exact decide_eq_true (by rw [if_pos rfl]; omega)

end

/-! ## Fields (R169, R190) -/

section
variable {rest : List Byte}

theorem takeField_chunk {n : Nat} {present : Bool} {chunk : List Byte} (h : chunk.length = n) :
    takeField present n ((if present then chunk else []) ++ rest) = some (if present then some chunk else none, rest) := by
  subst h
  cases present with
  | false => rfl
  | true => simp [takeField]

/-- An optional number is read back from the bytes that carry it. -/
theorem takeNumber_chunk {n : Nat} {field : Option Nat} {bytes : Nat → List Byte} (hlength : ∀ m, (bytes m).length = n)
    (hfits : ∀ m ∈ field, numberOf (bytes m) = m) :
    takeNumber field.isSome n (field.toList.flatMap bytes ++ rest) = some (field, rest) := by
  cases field with
  | none => rfl
  | some m =>
    have hm : numberOf (bytes m) = m := hfits m rfl
    have hchunk := takeField_chunk (rest := rest) (present := true) (hlength m)
    rw [if_pos rfl, if_pos rfl] at hchunk
    simp [takeNumber, hchunk, hm]

theorem takeNumber_byte {field : Option Nat} (h : optFits fitsByte field = true) :
    takeNumber field.isSome 1 (byteField field ++ rest) = some (field, rest) := by
  have hbytes : byteField field = field.toList.flatMap fun m => [byteOf m] := by cases field <;> rfl
  rw [hbytes]
  refine takeNumber_chunk (fun _ => rfl) fun m hm => ?_
  obtain rfl : field = some m := hm
  have hone : numberOf [byteOf m] = (byteOf m).toNat := by simp [numberOf]
  rw [hone, byteOf_toNat_of_fits h]

theorem takeNumber_word {field : Option Nat} (h : optFits fitsWord field = true) :
    takeNumber field.isSome 2 (wordField field ++ rest) = some (field, rest) := by
  refine takeNumber_chunk (bytes := bytes2) (fun _ => rfl) fun m hm => ?_
  obtain rfl : field = some m := hm
  exact numberOf_bytes2 (of_decide_eq_true h)

/-- An optional byte, carried as it is. -/
theorem takeNumber_mask (field : Option Byte) :
    takeNumber field.isSome 1 (field.toList ++ rest) = some (field.map BitVec.toNat, rest) := by
  cases field with
  | none => rfl
  | some m => simp [takeNumber, takeField, numberOf]

theorem takeNumber_byte_last {field : Option Nat} (h : optFits fitsByte field = true) :
    takeNumber field.isSome 1 (byteField field) = some (field, []) := by
  have hread := takeNumber_byte (rest := []) h
  rwa [List.append_nil] at hread

theorem takeNumber_word_last {field : Option Nat} (h : optFits fitsWord field = true) :
    takeNumber field.isSome 2 (wordField field) = some (field, []) := by
  have hread := takeNumber_word (rest := []) h
  rwa [List.append_nil] at hread

theorem takeField_priorities {n : Nat} {p : Option (List Nat)} (h : prioritiesFit n p = true) :
    takeField p.isSome n (priorityField p ++ rest) = some (p.map fun l => l.map byteOf, rest) := by
  cases p with
  | none => rfl
  | some l =>
    have hlength : l.length = n := by simpa using (Bool.and_eq_true_iff.mp h).1
    have hchunk := takeField_chunk (rest := rest) (present := true) (chunk := l.map byteOf)
      ((List.length_map _).trans hlength)
    simpa [priorityField] using hchunk

theorem takeField_priorities_last {n : Nat} {p : Option (List Nat)} (h : prioritiesFit n p = true) :
    takeField p.isSome n (priorityField p) = some (p.map fun l => l.map byteOf, []) := by
  have hread := takeField_priorities (rest := []) h
  rwa [List.append_nil] at hread

theorem priorities_back {n : Nat} {p : Option (List Nat)} (h : prioritiesFit n p = true) :
    (p.map fun l => l.map byteOf).map (fun l => l.map BitVec.toNat) = p := by
  cases p with
  | none => rfl
  | some l =>
    have hfit := List.all_eq_true.mp (Bool.and_eq_true_iff.mp h).2
    simp only [Option.map_some, List.map_map]
    refine congrArg some ((List.map_congr_left fun m hm => ?_).trans (List.map_id l))
    exact byteOf_toNat_of_fits (hfit m hm)

theorem mask_back {w : Nat} (m : Option (BitVec w)) : (m.map BitVec.toNat).map (BitVec.ofNat w) = m := by
  cases m <;> simp

end

/-! ## The requests with fields -/

theorem readSetDesk_layout {f : SetDeskFields} (h : f.wf = true) : readSetDesk (setDeskLayout f) = some (.setDesk f) := by
  simp only [SetDeskFields.wf, Bool.and_eq_true] at h
  obtain ⟨⟨htrim, hlead⟩, hprio⟩ := h
  simp (disch := simp) only [setDeskLayout, readSetDesk, presenceByte_bit, presenceByte_spare, List.getD_cons_zero,
    List.getD_cons_succ, List.append_assoc, takeNumber_byte htrim, takeNumber_byte hlead, takeNumber_mask,
    takeField_priorities_last hprio, Option.bind_eq_bind, Option.bind_some, List.isEmpty_nil, if_true, mask_back,
    priorities_back hprio]

theorem readInsert_layout {z : Nat} {f : InsertFields} (hz : fitsByte z = true) (h : f.wf = true) :
    readInsert (byteOf z :: insertLayout f) = some (.insertSegment z f) := by
  simp only [InsertFields.wf, Bool.and_eq_true] at h
  obtain ⟨⟨⟨⟨⟨hstart, hkind⟩, hbroad⟩, hlow⟩, hencore⟩, hencoreLow⟩ := h
  simp (disch := simp) only [insertLayout, readInsert, bytes2, List.cons_append, List.nil_append, presenceByte_bit,
    presenceByte_spare, List.getD_cons_zero, List.getD_cons_succ, takeNumber_word hencore, takeNumber_word_last hencoreLow,
    Option.bind_eq_bind, Option.bind_some, List.isEmpty_nil, if_true, byteOf_toNat_of_fits hz, byteOf_toNat_of_fits hkind,
    word2_bytes (of_decide_eq_true hstart), word2_bytes (of_decide_eq_true hbroad), word2_bytes (of_decide_eq_true hlow)]

theorem readEdit_layout {z : Nat} {f : EditFields} (hz : fitsByte z = true) (h : f.wf = true) :
    readEdit (byteOf z :: editLayout f) = some (.editSegment z f) := by
  simp only [EditFields.wf, Bool.and_eq_true] at h
  obtain ⟨⟨⟨⟨⟨hstart, hkind⟩, hbroad⟩, hlow⟩, hencore⟩, hencoreLow⟩ := h
  simp (disch := simp) only [editLayout, readEdit, bytes2, List.cons_append, List.nil_append, List.append_assoc,
    presenceByte_bit, presenceByte_spare, List.getD_cons_zero, List.getD_cons_succ, takeNumber_byte hkind,
    takeNumber_word hbroad, takeNumber_word hlow, takeNumber_word hencore, takeNumber_word_last hencoreLow,
    Option.bind_eq_bind, Option.bind_some, List.isEmpty_nil, if_true, byteOf_toNat_of_fits hz,
    word2_bytes (of_decide_eq_true hstart)]

theorem readSetStage_layout {st : Nat} {f : SetStageFields} (hst : fitsByte st = true) (h : f.wf = true) :
    readSetStage (byteOf st :: setStageLayout f) = some (.setStage st f) := by
  simp only [SetStageFields.wf, Bool.and_eq_true] at h
  obtain ⟨⟨⟨⟨⟨⟨⟨hfailsafe, hmode⟩, hattack⟩, hrelease⟩, hfade⟩, hresume⟩, hlead⟩, htrim⟩ := h
  simp (disch := simp) only [setStageLayout, readSetStage, List.append_assoc, presenceByte_bit, List.getD_cons_zero,
    List.getD_cons_succ, takeNumber_byte hfailsafe, takeNumber_byte hmode, takeNumber_byte hattack,
    takeNumber_word hrelease, takeNumber_word hfade, takeNumber_word hresume, takeNumber_byte hlead,
    takeNumber_byte_last htrim, Option.bind_eq_bind, Option.bind_some, List.isEmpty_nil, if_true, byteOf_toNat_of_fits hst]

theorem readSetPath_layout {st : Nat} {f : SetPathFields} (hst : fitsByte st = true) (h : f.wf = true) :
    readSetPath (byteOf st :: setPathLayout f) = some (.setPath st f) := by
  simp only [SetPathFields.wf, Bool.and_eq_true] at h
  obtain ⟨hdelay, hfollow⟩ := h
  simp (disch := simp) only [setPathLayout, readSetPath, List.append_assoc, presenceByte_bit, presenceByte_spare,
    List.getD_cons_zero, List.getD_cons_succ, takeNumber_byte hdelay, takeNumber_mask, takeNumber_byte_last hfollow,
    Option.bind_eq_bind, Option.bind_some, List.isEmpty_nil, if_true, mask_back, byteOf_toNat_of_fits hst]

theorem readSetNotices_layout {k : Nat} {f : SetNoticesFields} (hk : fitsByte k = true) (h : f.wf = true) :
    readSetNotices (byteOf k :: setNoticesLayout f) = some (.setNotices k f) := by
  have hmask : optFits fitsWord (f.enables.map BitVec.toNat) = true := by
    cases f.enables with
    | none => rfl
    | some m => exact decide_eq_true m.isLt
  have henables := takeNumber_word (rest := priorityField f.priorities) hmask
  rw [Option.isSome_map] at henables
  simp (disch := simp) only [setNoticesLayout, readSetNotices, presenceByte_bit, presenceByte_spare, List.getD_cons_zero,
    List.getD_cons_succ, henables, takeField_priorities_last h, Option.bind_eq_bind, Option.bind_some, List.isEmpty_nil,
    if_true, mask_back, priorities_back h, byteOf_toNat_of_fits hk]

/-! ## The keep values of SET ZONE (R191) -/

theorem keepAt_byte {n : Option Nat} (h : optFits (· < 255) n = true) : keepAt 255 (byteOf (n.getD 255)).toNat = n := by
  cases n with
  | none => rfl
  | some m =>
    have hm : m < 255 := of_decide_eq_true h
    rw [Option.getD_some, byteOf_toNat, Nat.mod_eq_of_lt (by omega), keepAt, if_neg (by omega)]

theorem keepAt_word {n : Option Nat} (h : optFits (· < 65535) n = true) :
    keepAt 65535 (word2 (byteOf (n.getD 65535 / 256)) (byteOf (n.getD 65535))) = n := by
  cases n with
  | none => rw [Option.getD_none, word2_bytes (by decide), keepAt, if_pos rfl]
  | some m =>
    have hm : m < 65535 := of_decide_eq_true h
    rw [Option.getD_some, word2_bytes (by omega), keepAt, if_neg (by omega)]

/-- The controller group is read back, where it is sent and where none of its fields is given. -/
theorem readGroup_layout {a b c d : Option Nat} (ha : optFits (· < 255) a = true) (hb : optFits (· < 255) b = true)
    (hc : optFits (· < 255) c = true) (hd : optFits (· < 255) d = true) {present : Bool}
    (hpresent : present = (a.isSome || b.isSome || c.isSome || d.isSome)) :
    readGroup (if present then some ([a, b, c, d].map fun n => byteOf (n.getD 255)) else none) = (a, b, c, d) := by
  cases present with
  | true =>
    simp only [if_true, List.map_cons, List.map_nil, readGroup, keepAt_byte ha, keepAt_byte hb, keepAt_byte hc,
      keepAt_byte hd]
  | false =>
    obtain ⟨⟨⟨rfl, rfl⟩, rfl⟩, rfl⟩ : ((a = none ∧ b = none) ∧ c = none) ∧ d = none := by simpa using hpresent
    rfl

/-- The fallback pair is read back likewise. -/
theorem readFallbacks_layout {a b : Option Nat} (ha : optFits (· < 65535) a = true) (hb : optFits (· < 65535) b = true)
    {present : Bool} (hpresent : present = (a.isSome || b.isSome)) :
    readFallbacks (if present then some (bytes2 (a.getD 65535) ++ bytes2 (b.getD 65535)) else none) = (a, b) := by
  cases present with
  | true =>
    simp only [if_true, bytes2, List.cons_append, List.nil_append, readFallbacks, keepAt_word ha, keepAt_word hb]
  | false =>
    obtain ⟨rfl, rfl⟩ : a = none ∧ b = none := by simpa using hpresent
    rfl

theorem readSetZone_layout {z : Nat} {f : SetZoneFields} (hz : fitsByte z = true) (h : f.wf = true) :
    readSetZone (byteOf z :: setZoneLayout f) = some (.setZone z f) := by
  simp only [SetZoneFields.wf, Bool.and_eq_true] at h
  obtain ⟨⟨⟨⟨⟨⟨⟨⟨⟨⟨⟨hwindow, hguard⟩, hfast⟩, hrelease⟩, hhysteresis⟩, hwarn⟩, hstep⟩, hcap⟩, hsettle⟩, hinterval⟩, hbroad⟩,
    hlow⟩ := h
  rw [setZoneLayout]
  generalize hg : (f.fastStep.isSome || f.attackCap.isSome || f.settlePeriod.isSome || f.releaseInterval.isSome) = group
  generalize hl : (f.fallbackBroad.isSome || f.fallbackLow.isSome) = levels
  have hgroup := readGroup_layout hstep hcap hsettle hinterval hg.symm
  have hlevels := readFallbacks_layout hbroad hlow hl.symm
  have hlast := takeField_chunk (rest := []) (n := 4) (present := levels)
    (chunk := bytes2 (f.fallbackBroad.getD 65535) ++ bytes2 (f.fallbackLow.getD 65535)) rfl
  rw [List.append_nil] at hlast
  generalize bytes2 (f.fallbackBroad.getD 65535) ++ bytes2 (f.fallbackLow.getD 65535) = pair at hlevels hlast ⊢
  have hchunk : ([f.fastStep, f.attackCap, f.settlePeriod, f.releaseInterval].map fun n =>
    byteOf (n.getD 255)).length = 4 := rfl
  generalize ([f.fastStep, f.attackCap, f.settlePeriod, f.releaseInterval].map fun n => byteOf (n.getD 255)) = chunk
    at hgroup hchunk ⊢
  simp (disch := simp) only [readSetZone, List.append_assoc, presenceByte_bit, List.getD_cons_zero,
    List.getD_cons_succ, takeNumber_byte hwindow, takeNumber_byte hguard, takeNumber_byte hfast, takeNumber_byte hrelease,
    takeNumber_byte hhysteresis, takeNumber_byte hwarn, takeField_chunk hchunk, hlast, Option.bind_eq_bind,
    Option.bind_some, hgroup, hlevels, byteOf_toNat_of_fits hz, List.isEmpty_nil, if_true]

/-! ## Every request a link carries (R170, R185) -/

/-- A request is read back from its payload, under a kind that is known and that its link permits, and the payload fits a
message. -/
structure ReadsBack (l : LinkId) (r : Request) : Prop where
  read : readPayload l (requestKind r).toNat (requestPayload l r) = some r
  known : kindKnown (requestKind r).toNat = true
  permitted : kindPermitted l (requestKind r).toNat = true
  length : (requestPayload l r).length ≤ 239

section
variable {l : LinkId} {r : Request} {n m : Nat}

/-- A request without a payload. -/
theorem readsBack_none (hread : ∀ p, readPayload l (requestKind r).toNat p = readNone r p)
    (hpayload : requestPayload l r = []) (hknown : kindKnown (requestKind r).toNat = true)
    (hpermitted : kindPermitted l (requestKind r).toNat = true) : ReadsBack l r where
  read := by rw [hread, hpayload, readNone]
  known := hknown
  permitted := hpermitted
  length := by simp [hpayload]

/-- A request of one byte. -/
theorem readsBack_one {f : Nat → Request} (hn : fitsByte n = true) (hr : f n = r)
    (hread : ∀ p, readPayload l (requestKind r).toNat p = readOne f p) (hpayload : requestPayload l r = [byteOf n])
    (hknown : kindKnown (requestKind r).toNat = true) (hpermitted : kindPermitted l (requestKind r).toNat = true) :
    ReadsBack l r where
  read := by rw [hread, hpayload, readOne, byteOf_toNat_of_fits hn, hr]
  known := hknown
  permitted := hpermitted
  length := by simp [hpayload]

/-- A request of two bytes. -/
theorem readsBack_two {f : Nat → Nat → Request} (hn : fitsByte n = true) (hm : fitsByte m = true) (hr : f n m = r)
    (hread : ∀ p, readPayload l (requestKind r).toNat p = readTwo f p)
    (hpayload : requestPayload l r = [byteOf n, byteOf m]) (hknown : kindKnown (requestKind r).toNat = true)
    (hpermitted : kindPermitted l (requestKind r).toNat = true) : ReadsBack l r where
  read := by rw [hread, hpayload, readTwo, byteOf_toNat_of_fits hn, byteOf_toNat_of_fits hm, hr]
  known := hknown
  permitted := hpermitted
  length := by simp [hpayload]

end

theorem byteField_length (n : Option Nat) : (byteField n).length ≤ 1 := by cases n <;> simp [byteField]

theorem wordField_length (n : Option Nat) : (wordField n).length ≤ 2 := by cases n <;> simp [wordField, bytes2]

theorem mask_length (n : Option Byte) : n.toList.length ≤ 1 := by cases n <;> simp

theorem priorityField_length {n : Nat} {p : Option (List Nat)} (h : prioritiesFit n p = true) :
    (priorityField p).length ≤ n := by
  cases p with
  | none => exact Nat.zero_le n
  | some l => simpa [priorityField] using (beq_iff_eq.mp (Bool.and_eq_true_iff.mp h).1).le

section
variable {n m k : Nat}

theorem readsBack_setDesk (st : StageId) {f : SetDeskFields} (h : f.wf = true) : ReadsBack (.desk st) (.setDesk f) where
  read := readSetDesk_layout h
  known := rfl
  permitted := rfl
  length := by
    have htrim := byteField_length f.trim
    have hlead := byteField_length f.lead
    have henables := mask_length f.enables
    have hprio := priorityField_length (Bool.and_eq_true_iff.mp h).2
    simp only [requestPayload, setDeskLayout, List.length_cons, List.length_append]
    omega

theorem readsBack_setZone {f : SetZoneFields} (hn : fitsByte n = true) (h : f.wf = true) :
    ReadsBack .officer (.setZone n f) where
  read := readSetZone_layout hn h
  known := rfl
  permitted := rfl
  length := by
    have hchunk : ∀ (b : Bool) (bytes : List Byte), bytes.length = 4 → (if b then bytes else []).length ≤ 4 := by
      intro b bytes hbytes
      cases b
      · exact Nat.zero_le 4
      · exact hbytes.le
    have hwindow := byteField_length f.window
    have hguard := byteField_length f.guardBand
    have hfast := byteField_length f.fastMargin
    have hrelease := byteField_length f.releaseMargin
    have hhysteresis := byteField_length f.hysteresis
    have hwarn := byteField_length f.warnMargin
    have hgroup := hchunk (f.fastStep.isSome || f.attackCap.isSome || f.settlePeriod.isSome || f.releaseInterval.isSome)
      ([f.fastStep, f.attackCap, f.settlePeriod, f.releaseInterval].map fun n => byteOf (n.getD 255)) rfl
    have hlevels := hchunk (f.fallbackBroad.isSome || f.fallbackLow.isSome)
      (bytes2 (f.fallbackBroad.getD 65535) ++ bytes2 (f.fallbackLow.getD 65535)) rfl
    simp only [requestPayload, setZoneLayout, List.length_cons, List.length_append]
    omega

theorem readsBack_insertSegment {f : InsertFields} (hn : fitsByte n = true) (h : f.wf = true) :
    ReadsBack .officer (.insertSegment n f) where
  read := readInsert_layout hn h
  known := rfl
  permitted := rfl
  length := by
    have hbroad := wordField_length f.encoreBroad
    have hlow := wordField_length f.encoreLow
    simp only [requestPayload, insertLayout, bytes2, List.length_cons, List.length_append, List.length_nil]
    omega

theorem readsBack_editSegment {f : EditFields} (hn : fitsByte n = true) (h : f.wf = true) :
    ReadsBack .officer (.editSegment n f) where
  read := readEdit_layout hn h
  known := rfl
  permitted := rfl
  length := by
    have hkind := byteField_length f.kind
    have hbroad := wordField_length f.broad
    have hlow := wordField_length f.low
    have hencore := wordField_length f.encoreBroad
    have hencoreLow := wordField_length f.encoreLow
    simp only [requestPayload, editLayout, bytes2, List.length_cons, List.length_append, List.length_nil]
    omega

theorem readsBack_setStage {f : SetStageFields} (hn : fitsByte n = true) (h : f.wf = true) :
    ReadsBack .officer (.setStage n f) where
  read := readSetStage_layout hn h
  known := rfl
  permitted := rfl
  length := by
    have hfailsafe := byteField_length f.failsafe
    have hmode := byteField_length f.changeMode
    have hattack := byteField_length f.attack
    have hrelease := wordField_length f.releaseStep
    have hfade := wordField_length f.fadeStep
    have hresume := wordField_length f.resumeStep
    have hlead := byteField_length f.lead
    have htrim := byteField_length f.trim
    simp only [requestPayload, setStageLayout, List.length_cons, List.length_append]
    omega

theorem readsBack_setPath {f : SetPathFields} (hn : fitsByte n = true) (h : f.wf = true) :
    ReadsBack .officer (.setPath n f) where
  read := readSetPath_layout hn h
  known := rfl
  permitted := rfl
  length := by
    have hdelay := byteField_length f.delay
    have hmask := mask_length f.muteMask
    have hfollow := byteField_length f.followStrobe
    simp only [requestPayload, setPathLayout, List.length_cons, List.length_append]
    omega

theorem readsBack_setNotices {f : SetNoticesFields} (hn : fitsByte n = true) (h : f.wf = true) :
    ReadsBack .officer (.setNotices n f) where
  read := readSetNotices_layout hn h
  known := rfl
  permitted := rfl
  length := by
    have henables := wordField_length (f.enables.map BitVec.toNat)
    have hprio := priorityField_length (show prioritiesFit 9 f.priorities = true from h)
    simp only [requestPayload, setNoticesLayout, List.length_cons, List.length_append]
    omega

/-- The mask of ACK NOTICES, of one byte on a desk link and of two on the officer link (R184). -/
theorem readsBack_ackNotices {l : LinkId} {mask : BitVec 16} (h : maskFits l mask = true) :
    ReadsBack l (.ackNotices mask) := by
  cases l with
  | desk st =>
    have hbyte : (byteOf mask.toNat).toNat = mask.toNat := byteOf_toNat_of_fits h
    refine ⟨?_, rfl, rfl, by simp [requestPayload]⟩
    show some (Request.ackNotices (BitVec.ofNat 16 (byteOf mask.toNat).toNat)) = _
    rw [hbyte, BitVec.ofNat_toNat, BitVec.setWidth_eq]
  | officer =>
    refine ⟨?_, rfl, rfl, by simp [requestPayload, bytes2]⟩
    show some (Request.ackNotices (BitVec.ofNat 16 (word2 (byteOf (mask.toNat / 256)) (byteOf mask.toNat)))) = _
    rw [word2_bytes mask.isLt, BitVec.ofNat_toNat, BitVec.setWidth_eq]

theorem readsBack_deleteSegment (hn : fitsByte n = true) (hm : fitsWord m = true) :
    ReadsBack .officer (.deleteSegment n m) := by
  refine ⟨?_, rfl, rfl, by simp [requestPayload, bytes2]⟩
  show some (Request.deleteSegment (byteOf n).toNat (word2 (byteOf (m / 256)) (byteOf m))) = _
  rw [byteOf_toNat_of_fits hn, word2_bytes (of_decide_eq_true hm)]

theorem readsBack_setCoupling (hn : fitsByte n = true) (hm : fitsByte m = true) (hk : fitsByte k = true) :
    ReadsBack .officer (.setCoupling n m k) := by
  refine ⟨?_, rfl, rfl, by simp [requestPayload]⟩
  show some (Request.setCoupling (byteOf n).toNat (byteOf m).toNat (byteOf k).toNat) = _
  rw [byteOf_toNat_of_fits hn, byteOf_toNat_of_fits hm, byteOf_toNat_of_fits hk]

theorem readsBack_setTime (hn : n < 16777216) : ReadsBack .officer (.setTime n) := by
  refine ⟨?_, rfl, rfl, by simp [requestPayload, bytes3]⟩
  show some (Request.setTime (numberOf (bytes3 n))) = _
  rw [numberOf_bytes3 hn]

theorem readsBack_clearAlarms (hn : fitsByte n = true) (mask : Byte) : ReadsBack .officer (.clearAlarms n mask) := by
  refine ⟨?_, rfl, rfl, by simp [requestPayload]⟩
  show some (Request.clearAlarms (byteOf n).toNat mask) = _
  rw [byteOf_toNat_of_fits hn]

end

/-- Every request a link carries. -/
theorem readsBack_of_requestOf {c : Instr} {l : LinkId} {r : Request} (hrequest : requestOf c = some (l, r))
    (hwf : c.wf = true) (hunknown : ∀ k, r ≠ .unknownKind k) (hforbidden : ∀ k, r ≠ .forbidden k) : ReadsBack l r := by
  cases c <;> cases hrequest
  case unknownKind k => exact absurd rfl (hunknown k)
  case forbidden k => exact absurd rfl (hforbidden k)
  case stageStatus | zoneView | encoreEnd | armShow | endShow | clearClosed | restart =>
    exact readsBack_none (fun _ => rfl) rfl rfl rfl
  case readNotices => exact readsBack_none (fun _ => rfl) rfl rfl (by cases l <;> rfl)
  case setDesk st f => exact readsBack_setDesk st hwf
  case encore | enableZone | disableZone | readZone | readSchedule | unassignMonitor | readMonitor | selectSource | setPool
      | muteNow | fade | release | enablePath | disablePath | alignPath =>
    exact readsBack_one hwf rfl (fun _ => rfl) rfl rfl rfl
  case ackNotices mask => exact readsBack_ackNotices hwf
  case setTime t => exact readsBack_setTime (of_decide_eq_true hwf)
  case clearAlarms st mask => exact readsBack_clearAlarms hwf mask
  all_goals
    obtain ⟨hfirst, hrest⟩ := Bool.and_eq_true_iff.mp hwf
  case setZone z f => exact readsBack_setZone hfirst hrest
  case insertSegment z f => exact readsBack_insertSegment hfirst hrest
  case editSegment z f => exact readsBack_editSegment hfirst hrest
  case deleteSegment z start => exact readsBack_deleteSegment hfirst hrest
  case setCoupling st z v =>
    obtain ⟨hst, hz⟩ := Bool.and_eq_true_iff.mp hfirst
    exact readsBack_setCoupling hst hz hrest
  case setStage st f => exact readsBack_setStage hfirst hrest
  case setPath st f => exact readsBack_setPath hfirst hrest
  case assignMonitor | readRecords => exact readsBack_two hfirst hrest rfl (fun _ => rfl) rfl rfl rfl
  case setNotices n f => exact readsBack_setNotices hfirst hrest

/-- Settles O46: the frames by `frameOfBits_frameBits`, the payloads by `readsBack_of_requestOf`. -/
theorem payloadsReadBackAsRequests : Obligations.PayloadsReadBackAsRequests := by
  unfold Obligations.PayloadsReadBackAsRequests
  refine ⟨?_, fun c l r hrequest hwf hunknown hforbidden => ?_⟩
  · rintro f hf bits rfl
    exact ⟨frameBits_length f, frameOfBits_frameBits hf, fun c i hi => frameBits_getD f c hi⟩
  · obtain ⟨hread, hknown, hpermitted, hlength⟩ := readsBack_of_requestOf hrequest hwf hunknown hforbidden
    exact ⟨hread, hknown, hpermitted, hlength⟩

end Sys2Proof.Machine
end
